-- ==== Sys2Proof/Word.lean ====
section
/-! DEFINITION. The words of the CW-440: bytes of a frame, the 16-bit scan number, the 32-bit timebase and counters. -/

namespace Sys2Proof

/-- One byte of a gauge frame (Table 1-9). -/
abbrev Byte := BitVec 8

/-- A 16-bit number: a scan number, an entry number, a frame's check. -/
abbrev Word16 := BitVec 16

/-- A timebase reading, in microseconds modulo 2^32 (section 0.5, Time). -/
abbrev Time := BitVec 32

/-- An event counter: 32 bits (section 0.5, Counters). -/
abbrev Counter := BitVec 32

end Sys2Proof
end

