-- ==== Sys2Proof/Syntax.lean ====
section
/-! DEFINITION. The commands of the CW-440: one constructor of Instr per row of spec/opcode_table.json, with the ports,
frames and receptions that they carry. -/

namespace Sys2Proof

/-- The four roof ports H0 to H3 (section 1.3). -/
inductive Port where
  | h0 | h1 | h2 | h3
  deriving DecidableEq, Repr, Inhabited

/-- Four like things, one for each roof port. -/
structure Quad (α : Type) where
  h0 : α
  h1 : α
  h2 : α
  h3 : α
  deriving DecidableEq, Repr, Inhabited

/-- A set of roof ports: a 4-bit mask (R6). -/
abbrev PortSet := Quad Bool

/-- The six receivers of the part (R4). -/
inductive Receiver where
  | roof (p : Port)
  | motion
  | trunk
  deriving DecidableEq, Repr

/-- A whole gauge frame (Table 1-9). Its Length and its Check follow from these fields (R1). -/
structure Frame where
  kind    : Byte
  address : Byte
  payload : List Byte
  deriving DecidableEq, Repr

/-- What follows the bytes of a reception (R2): an end delimiter, which closes the frame; a start delimiter, which closes it
and opens a new one; or neither yet, so that the frame stays open. -/
inductive Ending where
  | endDelimiter | startDelimiter | stillOpen
  deriving DecidableEq, Repr

/-- What arrives at a receiver that is not a good frame (R2): bytes of the open frame, or of one that a start delimiter before
them opens; whether a coding violation came among them; and what follows them. An end delimiter with no open frame is a
reception of no bytes. -/
structure Reception where
  violation : Bool
  ending    : Ending
  bytes     : List Byte
  deriving DecidableEq, Repr

/-- The commands: the rows of spec/opcode_table.json. A frame's row carries the frame's own fields, so the envelope around
it is intact (its Length and Check are right); FRAME_FAILED carries what was received of a frame. The rows of COMMAND frames carry
the frame's Address, its tag and its argument bytes. -/
inductive Instr where
  /-- PROFILE_FRAME (R11). -/
  | profileFrame (port : Port) (address : Byte) (payload : List Byte)
  /-- HEAD_REPLY_FRAME (R14). -/
  | headReplyFrame (port : Port) (address : Byte) (payload : List Byte)
  /-- MOTION_FRAME (R30). -/
  | motionFrame (address : Byte) (payload : List Byte)
  /-- FRAME_FAILED (R2, R3): a frame that fails a check is closed, or bytes of a frame that stays open arrive (log entry
  5). -/
  | frameFailed (receiver : Receiver) (rx : Reception)
  /-- LINE_CHANGE (R19): the new levels of ODA and ODB, and whether a trigger that this change raises is still on its way
  to the sequencer when the step ends (R25, R40). -/
  | lineChange (oda odb late : Bool)
  /-- SILENCE_TIMER_EXPIRY (R9). -/
  | silenceTimerExpiry (port : Port)
  /-- SLOT_START (R44). -/
  | slotStart (port : Port)
  /-- EXPOSURE_END (R44). -/
  | exposureEnd (port : Port)
  /-- BUSY_WINDOW_CLOSE (R39). -/
  | busyWindowClose
  /-- DEADLINE_REACHED (R59), of the scan with this number. -/
  | deadlineReached (scan : Word16)
  /-- HOLD_AGE_EXPIRY (R32). -/
  | holdAgeExpiry
  /-- DOWNLINK_END_DELIMITER (R17). -/
  | downlinkEndDelimiter (port : Port)
  /-- SCAN_RESOLUTION (R73). -/
  | scanResolution
  /-- GEOMETRY_SCAN (R88). -/
  | geometryScan
  /-- RAW_LIST_ARRIVAL (R104). -/
  | rawListArrival
  /-- CLUSTER_LIST_ARRIVAL (R126). -/
  | clusterListArrival
  /-- TRACK_LIST_ARRIVAL (R142). -/
  | trackListArrival
  /-- RUN_OPENING_REPORT (R77). -/
  | runOpeningReport
  /-- SCAN_FINISHED_REPORT (R78). -/
  | scanFinishedReport
  /-- DRAIN_CLOSE_REQUEST (R138). -/
  | drainCloseRequest
  /-- STOP_LIST_ARRIVAL (R158). -/
  | stopListArrival
  /-- TRUNK_END_DELIMITER (R166). -/
  | trunkEndDelimiter
  /-- LINK_UP (R166). -/
  | linkUp
  /-- LINK_DOWN (R167). -/
  | linkDown
  /-- IDENTIFY (R175). -/
  | identify (address tag : Byte) (args : List Byte)
  /-- GET_STATE (R175). -/
  | getState (address tag : Byte) (args : List Byte)
  /-- GET_COUNTERS (R175). -/
  | getCounters (address tag : Byte) (args : List Byte)
  /-- CLEAR_COUNTERS (R176). -/
  | clearCounters (address tag : Byte) (args : List Byte)
  /-- SET_HEADS (R177). -/
  | setHeads (address tag : Byte) (args : List Byte)
  /-- LOAD_HEAD_CAL (R85). -/
  | loadHeadCal (address tag : Byte) (args : List Byte)
  /-- LOAD_WIRE_TYPE (R113). -/
  | loadWireType (address tag : Byte) (args : List Byte)
  /-- SET_RUN_PARAMS (R178). -/
  | setRunParams (address tag : Byte) (args : List Byte)
  /-- SET_SCAN_SPACING (R26). -/
  | setScanSpacing (address tag : Byte) (args : List Byte)
  /-- SET_STROBE (R37). -/
  | setStrobe (address tag : Byte) (args : List Byte)
  /-- SET_DISTANCE (R23). -/
  | setDistance (address tag : Byte) (args : List Byte)
  /-- ZONE_APPEND (R69). -/
  | zoneAppend (address tag : Byte) (args : List Byte)
  /-- ZONE_FLUSH (R72). -/
  | zoneFlush (address tag : Byte) (args : List Byte)
  /-- HEAD_PASS (R16). -/
  | headPass (address tag : Byte) (args : List Byte)
  /-- START (R179). -/
  | start (address tag : Byte) (args : List Byte)
  /-- STOP (R180). -/
  | stop (address tag : Byte) (args : List Byte)
  /-- RESET (R183). -/
  | reset (address tag : Byte) (args : List Byte)
  /-- UNKNOWN_COMMAND (R174), with its code. -/
  | unknownCommand (address code tag : Byte) (args : List Byte)
  /-- HARD_RESET (R182): the reset line is asserted, or power comes on. -/
  | hardReset
  /-- TRIGGER_ARRIVAL (R40). -/
  | triggerArrival
  /-- HARD_RESET_END (R182): the line is released, with the levels of the STADDR and PORTPRES straps and of ODA and ODB. -/
  | hardResetEnd (staddr : BitVec 4) (portpres : PortSet) (oda odb : Bool)
  deriving DecidableEq, Repr

namespace Port

/-- The port index, 0 to 3. -/
def index : Port → Nat
  | h0 => 0
  | h1 => 1
  | h2 => 2
  | h3 => 3

/-- All ports in ascending port index. -/
def all : List Port := [h0, h1, h2, h3]

/-- The port of an index, 0 to 3. -/
def ofIndex : Nat → Option Port
  | 0 => some h0
  | 1 => some h1
  | 2 => some h2
  | 3 => some h3
  | _ => none

end Port

namespace Quad

variable {α β : Type}

/-- The entry of a port. -/
def get (q : Quad α) : Port → α
  | .h0 => q.h0
  | .h1 => q.h1
  | .h2 => q.h2
  | .h3 => q.h3

/-- The quad with one port's entry replaced. -/
def set (q : Quad α) (p : Port) (x : α) : Quad α :=
  match p with
  | .h0 => { q with h0 := x }
  | .h1 => { q with h1 := x }
  | .h2 => { q with h2 := x }
  | .h3 => { q with h3 := x }

/-- The quad with one port's entry changed. -/
def modify (q : Quad α) (p : Port) (f : α → α) : Quad α := q.set p (f (q.get p))

/-- The same thing for every port. -/
def replicate (x : α) : Quad α := ⟨x, x, x, x⟩

/-- A quad made port by port. -/
def ofFn (f : Port → α) : Quad α := ⟨f .h0, f .h1, f .h2, f .h3⟩

/-- The ports of a set, in ascending port index. -/
def members (q : PortSet) : List Port := Port.all.filter q.get

/-- Whether a port set is empty. -/
def isEmpty (q : PortSet) : Bool := !(q.h0 || q.h1 || q.h2 || q.h3)

/-- Whether every port of the first set is in the second. -/
def subset (a b : PortSet) : Bool :=
  (!a.h0 || b.h0) && (!a.h1 || b.h1) && (!a.h2 || b.h2) && (!a.h3 || b.h3)

/-- The mask with bit k for port k. -/
def mask (q : PortSet) : Nat :=
  (if q.h0 then 1 else 0) + (if q.h1 then 2 else 0) + (if q.h2 then 4 else 0) + (if q.h3 then 8 else 0)

/-- The port set of the low four bits of a number. -/
def ofMask (n : Nat) : PortSet := ⟨n.testBit 0, n.testBit 1, n.testBit 2, n.testBit 3⟩

end Quad

end Sys2Proof
end

