-- ==== Sys2Proof/Decode.lean ====
section
/-! DEFINITION. The commands that the table spells in bits. No row of spec/opcode_table.json has bits: the part's steps are
frames, events and commands, and none of them is a word. -/

namespace Sys2Proof

/-- The command that a word spells by the table's bits: none, because no row has bits. -/
def decodeTableWord (_nbits _w : Nat) : Option Instr := none

end Sys2Proof
end

