-- ==== Sys2Proof/Config.lean ====
section
/-! DEFINITION. What the CW-440's manual fixes as numbers. -/

namespace Sys2Proof.Config

/-- The greatest value of an event counter (section 0.5, Counters). -/
def counterMax : Nat := 4294967295

/-- The most payload bytes of a frame (Table 1-9). -/
def maxPayload : Nat := 320

/-- The most bytes of an open frame that a receiver stores (R2). -/
def frameStore : Nat := 326

/-- The record queue's capacity, which is also the class C threshold (R161, Table 10-1). -/
def recordCapacity : Nat := 64

/-- Class A (WIRE) records are admitted below this occupancy (Table 10-1). -/
def classALimit : Nat := 52

/-- Class B records are admitted below this occupancy (Table 10-1). -/
def classBLimit : Nat := 60

/-- The raw queue's capacity (R165). -/
def rawCapacity : Nat := 16

/-- Scan contexts of the assembler (R48). -/
def contextCount : Nat := 4

/-- The zone queue's capacity (R68, R69). -/
def zoneCapacity : Nat := 64

/-- Track slots (R122). -/
def trackSlots : Nat := 6

/-- The most merged detections of one cluster list (R111). -/
def clusterLimit : Nat := 16

/-- The plan length limit in µs (R36). -/
def planLimit : Nat := 4000

/-- The age in µs at which a held motion sample is marked OLD (R32). -/
def holdAge : Nat := 1000000

/-- The accumulator's limit in mm, positive and negative (R22). -/
def distanceLimit : Int := 2147483647

/-- Units of the accumulator in one millimetre (section 2.1.2). -/
def unitsPerMm : Int := 65536

end Sys2Proof.Config
end

