-- ==== Sys2Proof/Machine/State.lean ====
section
/-! DEFINITION. The state of the CW-440: every piece of state the manual names, unit by unit (Table 1-1), the scans and
requests on their way between the units, the queue of waiting commands, and the machine right after a hard reset. -/

namespace Sys2Proof.Machine

/-! ### Names -/

/-- Roof port states (Table 1-12). -/
inductive PortState where
  | disabled | idle | seeking | active | lost
  deriving DecidableEq, Repr

/-- Step sense, odometer direction and run direction (R20, R68). -/
inductive Sense where
  | increasing | decreasing
  deriving DecidableEq, Repr

/-- The odometer sense run parameter (R20). -/
inductive OdoSense where
  | aLeadsIncreasing | bLeadsIncreasing
  deriving DecidableEq, Repr

/-- Head condition of a profile (R12). -/
inductive HeadCondition where
  | ok | degraded | failed
  deriving DecidableEq, Repr

/-- Zone kinds (Table 5-1). -/
inductive ZoneKind where
  | plain | overlap | turnout | neutral | crossing
  deriving DecidableEq, Repr

/-- Causes of a ZONE record (R79). -/
inductive ZoneCause where
  | passed | skipped | flushed
  deriving DecidableEq, Repr

/-- Track life cycle states (Table 8-1). -/
inductive TrackState where
  | tentative | confirmed | coasting
  deriving DecidableEq, Repr

/-- Why a track ended (R133, R138). -/
inductive EndReason where
  | misses | stop
  deriving DecidableEq, Repr

/-- Close causes of bins and runs (R148, R156). -/
inductive CloseCause where
  | grid | zone | reversal | jump | trackEnd | stop | released | flush
  deriving DecidableEq, Repr

/-- Exceedance kinds, the COUNT run's among them (R150, R156). -/
inductive RunKind where
  | stagger | heightLow | heightHigh | thickness | count
  deriving DecidableEq, Repr

/-- Operating states (section 11.4). -/
inductive OpState where
  | standby | running | draining
  deriving DecidableEq, Repr

/-- Drain progress (Table 11-1). -/
inductive DrainProgress where
  | none | waitingAssembly | waitingPipeline | waitingSpan
  deriving DecidableEq, Repr

/-- STATUS causes (Table 10-3). -/
inductive StatusCause where
  | operatingState | portState | heads | distanceSaturated | zonesExhausted | recordLoss
  deriving DecidableEq, Repr

/-- Results of a REPLY (Table 10-13). -/
inductive Result where
  | done | clamped | refusedState | badArgument | notLoaded | queueFull | order | staleZone | planTooLong
  | badPriority | unknownCommand | badLength
  deriving DecidableEq, Repr

/-- A downlink transmitter (R17): idle, sending a TRIGGER frame, or sending the HEAD_CONFIG frame of its relay slot. -/
inductive DownlinkTx where
  | idle
  | trigger (f : Frame)
  | config
  deriving DecidableEq, Repr

/-- The trunk transmitter (R166): free, sending the record queue's head, or sending the raw queue's head. -/
inductive TrunkTx where
  | free | record | raw
  deriving DecidableEq, Repr

/-! ### Flags and counters -/

/-- Detection and bin flags (R98, R117, R147; the bits of Table 10-13). -/
structure Flags where
  clipped        : Bool := false
  saturated      : Bool := false
  degradedHead   : Bool := false
  motionStale    : Bool := false
  noMotion       : Bool := false
  motionDegraded : Bool := false
  motionClamped  : Bool := false
  beyondTable    : Bool := false
  tableFull      : Bool := false
  headMissing    : Bool := false
  deriving DecidableEq, Repr

/-- The six receive counters of a receiver (R4). -/
structure RxCounters where
  good    : Counter := 0
  framing : Counter := 0
  length  : Counter := 0
  check   : Counter := 0
  address : Counter := 0
  kind    : Counter := 0
  deriving DecidableEq, Repr

/-- The counters of one roof port (Table 1-13). -/
structure PortCounters where
  rx                    : RxCounters := {}
  goodProfiles          : Counter := 0
  idleDiscards          : Counter := 0
  disabledDiscards      : Counter := 0
  accepted              : Counter := 0
  duplicate             : Counter := 0
  late                  : Counter := 0
  stray                 : Counter := 0
  badSegments           : Counter := 0
  badCondition          : Counter := 0
  silenceExpiries       : Counter := 0
  relayedReplies        : Counter := 0
  disabledReplyDiscards : Counter := 0
  triggersSent          : Counter := 0
  triggerReplacements   : Counter := 0
  configsSent           : Counter := 0
  configDiscards        : Counter := 0
  framesForwarded       : Counter := 0
  deriving DecidableEq, Repr

/-- Motion counters (Table 2-8). -/
structure MotionCounters where
  taken    : Counter := 0
  invalid  : Counter := 0
  clamped  : Counter := 0
  degraded : Counter := 0
  noMotion : Counter := 0
  stale    : Counter := 0
  deriving DecidableEq, Repr

/-- Odometer counters (Table 2-4). -/
structure OdoCounters where
  increasing : Counter := 0
  decreasing : Counter := 0
  errors     : Counter := 0
  triggers   : Counter := 0
  deriving DecidableEq, Repr

/-- Sequencer counters (Table 3-4). -/
structure SeqCounters where
  started        : Counter := 0
  overrunBusy    : Counter := 0
  overrunContext : Counter := 0
  deriving DecidableEq, Repr

/-- Zone counters (Table 5-6). -/
structure ZoneCounters where
  appended : Counter := 0
  passed   : Counter := 0
  skipped  : Counter := 0
  flushed  : Counter := 0
  inNone   : Counter := 0
  deriving DecidableEq, Repr

/-- Geometry counters of one port (Table 6-6). -/
structure GeoCounters where
  examined   : Counter := 0
  noise      : Counter := 0
  window     : Counter := 0
  clipped    : Counter := 0
  detections : Counter := 0
  deriving DecidableEq, Repr

/-- Merge counters (Table 7-6) but for the per-port wear sources. -/
structure MergeCounters where
  formed      : Counter := 0
  merged      : Counter := 0
  dropped     : Counter := 0
  handedOn    : Counter := 0
  wearSamples : Counter := 0
  withoutWear : Counter := 0
  beyondTable : Counter := 0
  deriving DecidableEq, Repr

/-- Track counters (Table 8-4). -/
structure TrackCounters where
  received      : Counter := 0
  hits          : Counter := 0
  births        : Counter := 0
  fullDiscards  : Counter := 0
  confirmations : Counter := 0
  dropped       : Counter := 0
  coasting      : Counter := 0
  recoveries    : Counter := 0
  endsMisses    : Counter := 0
  endsStop      : Counter := 0
  slopeClamps   : Counter := 0
  deriving DecidableEq, Repr

/-- Span counters (Table 9-6). -/
structure SpanCounters where
  finished      : Counter := 0
  binsOpened    : Counter := 0
  binsClosed    : Counter := 0
  runsOpened    : Counter := 0
  runsReleased  : Counter := 0
  runsByEvent   : Counter := 0
  trackEnds     : Counter := 0
  deriving DecidableEq, Repr

/-- Output counters (Table 10-2). -/
structure OutCounters where
  admitted    : Counter := 0
  sent        : Counter := 0
  refusedA    : Counter := 0
  refusedB    : Counter := 0
  rawAdmitted : Counter := 0
  rawDrops    : Counter := 0
  rawSent     : Counter := 0
  restarted   : Counter := 0
  linkDowns   : Counter := 0
  deriving DecidableEq, Repr

/-- Command counters (Table 11-5). -/
structure CmdCounters where
  taken        : Counter := 0
  refused      : Counter := 0
  dropped      : Counter := 0
  misaddressed : Counter := 0
  deriving DecidableEq, Repr

/-! ### What the units hold -/

/-- A frame that a receiver has open (R2): the bytes stored, how many have arrived, and whether a coding violation marks
it. -/
structure OpenFrame where
  violation : Bool := false
  stored    : List Byte := []
  total     : Nat := 0
  deriving DecidableEq, Repr

/-- One segment of a profile (R11). -/
structure Segment where
  colFirst  : Nat
  colLast   : Nat
  range     : Nat
  intensity : Nat
  saturated : Bool
  deriving DecidableEq, Repr

/-- One roof port controller (section 1.3). `silence` is the silence timer: none while stopped, else the timebase reading
of its last start or restart (R9). `waiting` is the waiting TRIGGER (R15), `relay` the relay slot (R16), `frame` the frame
that the receiver has open (R2). -/
structure RoofPort where
  state        : PortState
  frame        : Option OpenFrame := none
  silence      : Option Time := none
  headId       : Byte
  waiting      : Option Frame := none
  relay        : Option Frame := none
  tx           : DownlinkTx := .idle
  forwardCount : Nat := 0
  counters     : PortCounters := {}
  deriving DecidableEq, Repr

/-- The roof ports and the enabled head mask (R6). -/
structure Roof where
  enabled : PortSet
  ports   : Quad RoofPort
  deriving DecidableEq, Repr

/-- A held motion sample (Table 2-7); `degraded` tells quality DEGRADED from GOOD. -/
structure MotionSample where
  roll     : Int
  shift    : Int
  vertical : Int
  degraded : Bool
  clamped  : Bool
  old      : Bool
  arrival  : Time
  deriving DecidableEq, Repr

/-- The motion port (Table 2-7, R34), with the frame its receiver has open (R2). -/
structure MotionPort where
  frame      : Option OpenFrame := none
  held       : Option MotionSample := none
  sinceStart : Bool := false
  rx         : RxCounters := {}
  counters   : MotionCounters := {}
  deriving DecidableEq, Repr

/-- The odometer unit (Table 2-1). `units` is the whole accumulator in 1/65,536 mm (section 2.1.2): its millimetre part
and fraction are read from it. -/
structure Odometer where
  oda       : Bool
  odb       : Bool
  units     : Int := 0
  sense     : Sense := .increasing
  saturated : Bool := false
  epoch     : Byte := 0
  spacing   : Nat := 16
  divider   : Nat := 16
  counters  : OdoCounters := {}
  deriving DecidableEq, Repr

/-- A strobe plan (Table 3-1), in µs. -/
structure Plan where
  exposure   : Quad Nat
  guard      : Nat
  firstDelay : Nat
  deriving DecidableEq, Repr

/-- One slot of a scan (R43): its port, where it begins after the trigger, and its exposure, in µs. -/
structure Slot where
  port     : Port
  offset   : Nat
  exposure : Nat
  deriving DecidableEq, Repr

/-- The slots of one scan (R43): those that have not begun, and the one that is being exposed. -/
structure SlotSequence where
  scan      : Word16
  trigger   : Time
  current   : Option Slot
  remaining : List Slot
  deriving DecidableEq, Repr

/-- An open busy window (R39). -/
structure BusyWindow where
  trigger : Time
  length  : Nat
  deriving DecidableEq, Repr

/-- The strobe sequencer (Table 3-3). `onWay` counts the triggers that the scan divider has raised and the sequencer has
not yet handled (R25, R40). -/
structure Sequencer where
  active      : Plan := ⟨Quad.replicate 200, 20, 50⟩
  staged      : Option Plan := none
  busy        : Option BusyWindow := none
  scanCounter : Word16 := 0
  slots       : Option SlotSequence := none
  lines       : Quad Bool := Quad.replicate false
  onWay       : Nat := 0
  counters    : SeqCounters := {}
  deriving DecidableEq, Repr

/-- A scan's snapshot (R24, R33). `motion` holds the four motion flags. -/
structure Snapshot where
  distance : Int
  sense    : Sense
  epoch    : Byte
  roll     : Int
  shift    : Int
  vertical : Int
  motion   : Flags
  deriving DecidableEq, Repr

/-- A port's delivery in a context (Table 4-1). -/
inductive Delivery where
  | absent
  | delivered (degraded : Bool) (segments : List Segment)
  | failed
  deriving DecidableEq, Repr

/-- A scan context in use (Table 4-1): COLLECTING, or COMPLETE where `complete` is set. -/
structure ScanContext where
  complete   : Bool
  scan       : Word16
  trigger    : Time
  snapshot   : Snapshot
  strobed    : PortSet
  awaited    : PortSet
  deadline   : Time
  deliveries : Quad Delivery
  missing    : PortSet
  deriving DecidableEq, Repr

/-- The scan assembler (sections 4.1 and 4.7). `contexts` is the start-order list, oldest first: a context that is not
listed is FREE. -/
structure Assembler where
  contexts  : List ScanContext := []
  released  : Counter := 0
  aborted   : Counter := 0
  deadlines : Counter := 0
  missing   : Quad Counter := Quad.replicate 0
  failed    : Quad Counter := Quad.replicate 0
  deriving DecidableEq, Repr

/-- One usable delivery of a released scan (R62). -/
structure PortDelivery where
  port     : Port
  degraded : Bool
  segments : List Segment
  deriving DecidableEq, Repr

/-- A released scan as handed to the zone queue unit (R62). -/
structure ReleasedScan where
  scan       : Word16
  trigger    : Time
  snapshot   : Snapshot
  strobed    : PortSet
  missing    : PortSet
  deliveries : List PortDelivery
  deriving DecidableEq, Repr

/-- A zone entry (Table 5-1): the recorder's fields, then the part's bookkeeping fields. -/
structure ZoneEntry where
  zoneId       : BitVec 32
  lo           : Int
  hi           : Int
  kind         : ZoneKind
  expected     : Nat
  wireType     : Nat
  staggerLimit : Int
  heightMin    : Int
  heightMax    : Int
  minThickness : Int
  number       : Word16
  entered      : Option Int
  scans        : Counter
  runsOpened   : Counter
  deriving DecidableEq, Repr

/-- An entry of the closing list (R72, R73): its cause, its left distance and the scan it waits for. -/
structure ClosingEntry where
  entry : ZoneEntry
  cause : ZoneCause
  left  : Int
  tag   : Word16
  deriving DecidableEq, Repr

/-- What a scan carries of the zone entry it lies in (Table 5-4). A limit of 0 is off. -/
structure ZoneView where
  number       : Word16
  zoneId       : BitVec 32
  kind         : ZoneKind
  expected     : Nat
  staggerLimit : Int
  heightMin    : Int
  heightMax    : Int
  minThickness : Int
  deriving DecidableEq, Repr

/-- A scan's zone context (Table 5-4). With `zone` none every limit is off and no wires are expected. -/
structure ZoneContext where
  zone     : Option ZoneView
  wireType : Nat
  flush    : Bool
  deriving DecidableEq, Repr

/-- The zone queue unit (Table 5-2). `current` tells whether the head entry is the current zone. -/
structure ZoneQueue where
  entries   : List ZoneEntry := []
  current   : Bool := false
  flushMark : Bool := false
  exhausted : Bool := false
  closing   : List ClosingEntry := []
  inFlight  : Nat := 0
  lastScan  : Word16 := 0
  nextEntry : Word16 := 0
  counters  : ZoneCounters := {}
  deriving DecidableEq, Repr

/-- A resolved scan on its way to the geometry unit (R75). -/
structure ResolvedScan where
  scan    : ReleasedScan
  context : ZoneContext
  deriving DecidableEq, Repr

/-- The scan's own items that travel with its lists (R88, R104). -/
structure ScanHeader where
  scan     : Word16
  distance : Int
  sense    : Sense
  epoch    : Byte
  missing  : PortSet
  context  : ZoneContext
  deriving DecidableEq, Repr

/-- A detection (R99). -/
structure Detection where
  port     : Port
  position : Nat
  stagger  : Int
  height   : Int
  width    : Option Int
  flags    : Flags
  deriving DecidableEq, Repr

/-- A raw list (R100). -/
structure RawList where
  header     : ScanHeader
  detections : List Detection
  deriving DecidableEq, Repr

/-- A merged detection (R119). -/
structure Merged where
  index     : Nat
  stagger   : Int
  height    : Int
  thickness : Option Int
  source    : Option Port
  flags     : Flags
  deriving DecidableEq, Repr

/-- A cluster list (R119). -/
structure ClusterList where
  header : ScanHeader
  items  : List Merged
  deriving DecidableEq, Repr

/-- A least thickness and the distance it was met at. -/
structure MinThickness where
  value    : Int
  distance : Int
  deriving DecidableEq, Repr

/-- A track record (Table 8-1). -/
structure Track where
  id          : Nat
  state       : TrackState
  stagger     : Int
  height      : Int
  slope       : Int
  lastHit     : Int
  lastEpoch   : Byte
  hits        : Counter
  misses      : Nat
  birth       : Int
  thickness   : Option MinThickness
  deriving DecidableEq, Repr

/-- What an ended entry carries (R136). -/
structure EndedTrack where
  id        : Nat
  reason    : EndReason
  birth     : Int
  lastHit   : Int
  endedAt   : Int
  hits      : Counter
  thickness : Option MinThickness
  deriving DecidableEq, Repr

/-- An entry of a track list (R136). -/
inductive TrackEntry where
  | continuing (id : Nat) (state : TrackState) (hit : Option Merged)
  | confirmed (id : Nat) (hit : Merged)
  | ended (e : EndedTrack)
  deriving DecidableEq, Repr

/-- A scan's track list (R136, R137). -/
structure TrackList where
  header        : ScanHeader
  entries       : List TrackEntry
  tableFull     : Bool
  confirmedHits : Nat
  deriving DecidableEq, Repr

/-- The last processed scan (R125). -/
structure LastScan where
  distance : Int
  sense    : Sense
  epoch    : Byte
  deriving DecidableEq, Repr

/-- A stop list (R138). -/
structure StopList where
  entries : List EndedTrack
  last    : Option LastScan
  deriving DecidableEq, Repr

/-- What the track table unit hands the span unit, in one order (R142). -/
inductive SpanArrival where
  | tracks (l : TrackList)
  | stop (l : StopList)
  deriving DecidableEq, Repr

/-- A report of the span unit to the zone queue unit (R77, R78). -/
inductive SpanReport where
  | runOpened (number : Word16)
  | scanFinished (scan : Word16)
  deriving DecidableEq, Repr

/-- What is on its way between the units. Each list is first in, first out (R62, R88, R104, R126, R142, R157). `spanClosed` is
a pending span closed report (R158, R159). -/
structure Paths where
  toZone       : List ReleasedScan := []
  toGeo        : List ResolvedScan := []
  toMerge      : List RawList := []
  toTrack      : List ClusterList := []
  drainRequest : Bool := false
  toSpan       : List SpanArrival := []
  reports      : List SpanReport := []
  spanClosed   : Bool := false
  deriving DecidableEq, Repr

/-- A head calibration set (Table 6-1, fields 1 to 45; field 45 is kept as the port's expected head id too). -/
structure CalSet where
  columns      : List Int
  ranges       : List Int
  reference    : Int
  mountLateral : Int
  mountHeight  : Int
  weight       : Int
  priority     : Nat
  minIntensity : Nat
  colLo        : Nat
  colHi        : Nat
  rangeLo      : Nat
  rangeHi      : Nat
  headId       : Byte
  deriving DecidableEq, Repr

/-- A calibration set with its loaded mark (R84). -/
structure CalSlot where
  loaded : Bool
  cal    : CalSet
  deriving DecidableEq, Repr

/-- The set that stands in a slot that nothing has loaded. R84: the unit uses no value of it. DESIGN CHOICE zeros (log
entry 4). -/
def CalSlot.unloaded : CalSlot :=
  ⟨false, ⟨List.replicate 17 0, List.replicate 17 0, 0, 0, 0, 0, 0, 0, 0, 0, 0, 0, 0⟩⟩

/-- The geometry unit (R84, R103). -/
structure Geometry where
  cal     : Quad CalSlot := Quad.replicate CalSlot.unloaded
  ports   : Quad GeoCounters := Quad.replicate {}
  without : Counter := 0
  deriving DecidableEq, Repr

/-- A wire type slot (Table 7-2) with its loaded mark. -/
structure WireSlot where
  loaded  : Bool
  nominal : Int
  step    : Int
  table   : List Int
  deriving DecidableEq, Repr

/-- A slot that nothing has loaded (R112). DESIGN CHOICE zeros (log entry 4). -/
def WireSlot.unloaded : WireSlot := ⟨false, 0, 0, List.replicate 33 0⟩

/-- The merge and wear unit (R112, R121). `slots` holds eight wire type slots. -/
structure MergeWear where
  slots    : List WireSlot := List.replicate 8 WireSlot.unloaded
  counters : MergeCounters := {}
  sources  : Quad Counter := Quad.replicate 0
  deriving DecidableEq, Repr

/-- The track table unit (R122, R124, R125). `slots` holds six slots; none is FREE. -/
structure TrackTable where
  slots    : List (Option Track) := List.replicate 6 none
  nextId   : Nat := 1
  last     : Option LastScan := none
  counters : TrackCounters := {}
  deriving DecidableEq, Repr

/-- The stagger and height extremes of a bin's hits (R145). -/
structure Extremes where
  staggerMin : Int
  staggerMax : Int
  heightMin  : Int
  heightMax  : Int
  deriving DecidableEq, Repr

/-- An open bin (R145). -/
structure Bin where
  track      : Nat
  zone       : Option ZoneView
  epoch      : Byte
  index      : Int
  first      : Int
  last       : Int
  hits       : Counter
  misses     : Counter
  extremes   : Option Extremes
  staggerSum : Int
  heightSum  : Int
  samples    : Counter
  thickness  : Option MinThickness
  flags      : Flags
  deriving DecidableEq, Repr

/-- An open exceedance run (R151). The COUNT run has track 0 (R156). -/
structure Run where
  track      : Nat
  kind       : RunKind
  number     : Word16
  zoneId     : BitVec 32
  first      : Int
  last       : Int
  worst      : Int
  worstAt    : Int
  offending  : Counter
  conforming : Nat
  deriving DecidableEq, Repr

/-- The span unit (Table 9-1). -/
structure SpanUnit where
  bins      : List Bin := []
  runs      : List Run := []
  count     : Option Run := none
  prevSense : Sense := .increasing
  prevEpoch : Byte := 0
  counters  : SpanCounters := {}
  deriving DecidableEq, Repr

/-- The output unit (chapter 10). The oldest record and the oldest raw frame stand first. -/
structure Output where
  records  : List Frame := []
  reserved : Bool := false
  lossFlag : Bool := false
  notice   : Bool := true
  raw      : List Frame := []
  linkUp   : Bool := false
  tx       : TrunkTx := .free
  counters : OutCounters := {}
  deriving DecidableEq, Repr

/-- The run parameter set (Table 11-3), with its defaults. -/
structure RunParams where
  stepLength      : Nat := 183501
  odoSense        : OdoSense := .aLeadsIncreasing
  binLength       : Int := 1000
  lateralGate     : Int := 25000
  heightGate      : Int := 100000
  mergeLateral    : Int := 8000
  mergeHeight     : Int := 50000
  confirmHits     : Nat := 3
  missLimit       : Nat := 8
  releaseScans    : Nat := 3
  assemblyTimeout : Nat := 5000
  motionMaxAge    : Nat := 5000
  silenceTimeout  : Nat := 100
  direction       : Sense := .increasing
  defaultWire     : Nat := 0
  roofHeight      : Int := 3900000
  forward         : Quad Nat := Quad.replicate 0
  motionId        : Byte := 0
  deriving DecidableEq, Repr

/-- The command unit (Table 11-1) with the trunk receiver's open frame and counters (R2, R4). -/
structure CommandUnit where
  frame    : Option OpenFrame := none
  op       : OpState := .standby
  station  : BitVec 4
  present  : PortSet
  params   : RunParams := {}
  drain    : DrainProgress := .none
  lateMark : Bool := false
  tally    : Nat := 0
  rx       : RxCounters := {}
  counters : CmdCounters := {}
  deriving DecidableEq, Repr

/-- No fault: the manual gives the part no way to stop. A frame it cannot use is counted and discarded (R3), a command it
cannot carry out is answered with a result (R174), a record without room is refused and counted (R162). -/
inductive Fault where
  deriving DecidableEq, Repr

/-- Why a command has no meaning in this model. -/
inductive Refusal where
  /-- Raised by exec alone, for a row of the table that has no meaning yet. Safe: the run stops. No row is in this case. -/
  | notModelled (mnemonic : String)
  deriving DecidableEq, Repr

/-- The whole block. `held` tells that the reset line is asserted (R182). `pending` is the queue of commands that wait,
first in, first out: the model's own field. -/
structure State where
  timebase : Time
  held     : Bool
  roof     : Roof
  motion   : MotionPort
  odo      : Odometer
  seq      : Sequencer
  asm      : Assembler
  paths    : Paths
  zones    : ZoneQueue
  geo      : Geometry
  merge    : MergeWear
  tracks   : TrackTable
  span     : SpanUnit
  out      : Output
  cmd      : CommandUnit
  pending  : List Instr
  deriving DecidableEq, Repr

/-- The part right after a hard reset (R182): every block at its hard reset values, and the STATUS record with cause
OPERATING_STATE as the first record queued. The straps (station address 0, all four ports present), the levels of ODA and
ODB (0, 0) and the trunk link (down) are outside the part: DESIGN CHOICE (log entries 2 and 3). -/
def State.reset : State where
  timebase := 0
  held := false
  roof :=
    { enabled := Quad.replicate true
      ports :=
        ⟨{ state := .idle, headId := 0 }, { state := .idle, headId := 1 },
          { state := .idle, headId := 2 }, { state := .idle, headId := 3 }⟩ }
  motion := {}
  odo := { oda := false, odb := false }
  seq := {}
  asm := {}
  paths := {}
  zones := {}
  geo := {}
  merge := {}
  tracks := {}
  span := {}
  out :=
    { records :=
        [⟨0x75, 0,
          [1, 0, 1, 1, 1, 1, 0x0F, 0, 0, 0, 0, 0, 0, 0, 0, 0, 0, 0, 0, 0,
            0, 0, 0, 0, 0, 0, 0, 0, 0, 0, 0, 0]⟩]
      counters := { admitted := 1 } }
  cmd := { station := 0, present := Quad.replicate true }
  pending := []

end Sys2Proof.Machine
end

