-- ==== Sys2Proof/Machine/Frames.lean ====
section
/-! DEFINITION. Gauge frames: byte order, the 16-bit check, a frame's bytes on a link, the frame store of a receiver, and the
five receive checks. -/

namespace Sys2Proof.Machine

/-! ### Bytes, most significant first (section 0.5, Contents; R171) -/

/-- One byte of a number. -/
def byte (n : Nat) : List Byte := [BitVec.ofNat 8 n]

/-- Two bytes, most significant first. -/
def bytes16 (w : BitVec 16) : List Byte := [w.extractLsb' 8 8, w.extractLsb' 0 8]

/-- Four bytes, most significant first. -/
def bytes32 (w : BitVec 32) : List Byte :=
  [w.extractLsb' 24 8, w.extractLsb' 16 8, w.extractLsb' 8 8, w.extractLsb' 0 8]

/-- An unsigned number in two bytes. -/
def natBytes16 (n : Nat) : List Byte := bytes16 (BitVec.ofNat 16 n)

/-- An unsigned number in four bytes. -/
def natBytes32 (n : Nat) : List Byte := bytes32 (BitVec.ofNat 32 n)

/-- A signed number in four bytes, two's complement. -/
def intBytes32 (x : Int) : List Byte := bytes32 (BitVec.ofInt 32 x)

/-- The unsigned number that bytes spell, most significant first. -/
def natOfBytes (bs : List Byte) : Nat := bs.foldl (fun n b => n * 256 + b.toNat) 0

/-- The signed number that bytes spell, two's complement, most significant first. -/
def intOfBytes (bs : List Byte) : Int :=
  let n := natOfBytes bs
  if 2 * n < 256 ^ bs.length then (n : Int) else (n : Int) - ((256 ^ bs.length : Nat) : Int)

/-- The field of `size` bytes at an offset. -/
def field (bs : List Byte) (offset size : Nat) : List Byte := (bs.drop offset).take size

/-- An unsigned field. -/
def natField (bs : List Byte) (offset size : Nat) : Nat := natOfBytes (field bs offset size)

/-- A signed field. -/
def intField (bs : List Byte) (offset size : Nat) : Int := intOfBytes (field bs offset size)

/-- One byte at an offset; 0 beyond the end. -/
def byteAt (bs : List Byte) (offset : Nat) : Byte := bs.getD offset 0

/-! ### The check (R1) -/

/-- The shift register after one bit: generator x^16 + x^12 + x^5 + 1 (R1). -/
def crcBit (crc : BitVec 16) (bit : Bool) : BitVec 16 :=
  if crc.msb ^^ bit then (crc <<< 1) ^^^ 0x1021#16 else crc <<< 1

/-- The shift register after one byte, fed most significant bit first (R1). -/
def crcByte (crc : BitVec 16) (b : Byte) : BitVec 16 :=
  [7, 6, 5, 4, 3, 2, 1, 0].foldl (fun c i => crcBit c (b.getLsbD i)) crc

/-- The check over bytes: the register starts at 0xFFFF and the remainder is not inverted (R1). -/
def crc16 (bs : List Byte) : BitVec 16 := bs.foldl crcByte 0xFFFF#16

/-! ### Frame kinds (Table 1-3) -/

/-- PROFILE. -/
def kindProfile : Byte := 0x21
/-- HEAD_REPLY. -/
def kindHeadReply : Byte := 0x22
/-- MOTION. -/
def kindMotion : Byte := 0x31
/-- TRIGGER. -/
def kindTrigger : Byte := 0x41
/-- HEAD_CONFIG. -/
def kindHeadConfig : Byte := 0x42
/-- COMMAND. -/
def kindCommand : Byte := 0x51
/-- REPLY. -/
def kindReply : Byte := 0x61
/-- WIRE. -/
def kindWire : Byte := 0x71
/-- TRACK_END. -/
def kindTrackEnd : Byte := 0x72
/-- EXCEEDANCE. -/
def kindExceedance : Byte := 0x73
/-- ZONE. -/
def kindZone : Byte := 0x74
/-- STATUS. -/
def kindStatus : Byte := 0x75

/-- The command codes of Table 11-2. -/
def commandCodes : List Byte :=
  [0x01, 0x02, 0x03, 0x04, 0x10, 0x11, 0x12, 0x13, 0x14, 0x15, 0x16, 0x20, 0x21, 0x30, 0x40, 0x41, 0x4F]

/-! ### A frame's bytes -/

/-- Kind, Address, Length and payload: the bytes the check is computed over (Table 1-9, R1). -/
def frameBody (f : Frame) : List Byte := [f.kind, f.address] ++ natBytes16 f.payload.length ++ f.payload

/-- The bytes of a frame between its delimiters: the Length is the number of payload bytes, the check follows high byte
first (R1). -/
def frameWire (f : Frame) : List Byte := frameBody f ++ bytes16 (crc16 (frameBody f))

/-! ### Frame stores (R2) -/

/-- An open frame with more of it received: at most 326 bytes are stored, and all of them count (R2). -/
def OpenFrame.feed (w : OpenFrame) (violation : Bool) (bytes : List Byte) : OpenFrame where
  violation := w.violation || violation
  stored := (w.stored ++ bytes).take Config.frameStore
  total := w.total + bytes.length

/-- Whether what a receiver has stored can be the beginning of a frame that arrives intact. -/
def OpenFrame.begins (w : OpenFrame) (f : Frame) : Bool :=
  !w.violation && w.stored.length == w.total && w.stored.isPrefixOf (frameWire f)

/-! ### Receive checks (R3) -/

/-- The first receive check that a frame fails (R3). -/
inductive RxFailure where
  | framing | length | check | address | kind
  deriving DecidableEq, Repr

/-- The outcome of the receive checks (R3): a good frame, or the first check failed. -/
inductive RxResult where
  | good (f : Frame)
  | failed (c : RxFailure)
  deriving DecidableEq, Repr

/-- What a port asks of a frame (Table 1-11). -/
structure PortRule where
  address : Option Byte
  kinds   : List Byte
  deriving DecidableEq, Repr

/-- The kind-specific length rules of Table 1-10. -/
def kindLengthOk (kind : Byte) (payload : List Byte) : Bool :=
  if kind == kindProfile then
    let n := (byteAt payload 3).toNat
    decide (4 ≤ payload.length) && decide (n ≤ 16) && (payload.length == 4 + 8 * n)
  else if kind == kindHeadReply then decide (1 ≤ payload.length) && decide (payload.length ≤ 64)
  else if kind == kindMotion then payload.length == 13
  else if kind == kindCommand then decide (2 ≤ payload.length)
  else true

/-- Checks 2, 4 and 5 of R3 on a frame whose envelope is intact (its Length and Check are right). -/
def checkIntact (rule : PortRule) (f : Frame) : RxResult :=
  if f.payload.length > Config.maxPayload || !kindLengthOk f.kind f.payload then .failed .length
  else if rule.address.any (fun a => a != f.address) then .failed .address
  else if !rule.kinds.contains f.kind then .failed .kind
  else .good f

/-- The five receive checks in their order (R3) on a frame that an end delimiter or a start delimiter closes. Bytes beyond the
326 that are stored count toward the byte total, so they fail the length check (R2). -/
def checkClosed (rule : PortRule) (w : OpenFrame) (byStart : Bool) : RxResult :=
  if w.violation || byStart || decide (w.total < 6) then .failed .framing
  else
    let declared := natField w.stored 2 2
    let f : Frame := ⟨byteAt w.stored 0, byteAt w.stored 1, field w.stored 4 (w.total - 6)⟩
    if declared != w.total - 6 || decide (declared > Config.maxPayload) || !kindLengthOk f.kind f.payload then
      .failed .length
    else if crc16 (w.stored.take (w.total - 2)) != BitVec.ofNat 16 (natField w.stored (w.total - 2) 2) then
      .failed .check
    else checkIntact rule f

end Sys2Proof.Machine
end

