-- ==== Sys2Proof/Machine/Arith.lean ====
section
/-! DEFINITION. The arithmetic of the Introduction: rounded division, interpolation, counters, elapsed time. -/

namespace Sys2Proof.Machine

/-- RoundDiv(a, b) for b > 0: the integer nearest to a / b, halves away from zero (section 0.5, Rounded division). -/
def roundDiv (a b : Int) : Int :=
  if 0 ≤ a then (2 * a + b) / (2 * b) else -((2 * (-a) + b) / (2 * b))

/-- The magnitude of a value. -/
def magnitude (x : Int) : Int := if 0 ≤ x then x else -x

/-- A value held between two bounds. -/
def clamp (lo hi x : Int) : Int := if x < lo then lo else if hi < x then hi else x

/-- Interp(K, x, s) over the knots K[0] to K[n], s apart (section 0.5, Interpolation). -/
def interp (knots : List Int) (x s : Int) : Int :=
  let n : Nat := knots.length - 1
  let y := clamp 0 (n * s) x
  let i : Nat := min (y / s).toNat (n - 1)
  let f := y - i * s
  let k := knots.getD i 0
  k + roundDiv ((knots.getD (i + 1) 0 - k) * f) s

/-- A counter increased by k, stopping at 4,294,967,295 (section 0.5, Counters). -/
def bumpBy (c : Counter) (k : Nat) : Counter := BitVec.ofNat 32 (min (c.toNat + k) Config.counterMax)

/-- A counter increased by one. -/
def bump (c : Counter) : Counter := bumpBy c 1

/-- Elapsed time: the difference of two timebase readings modulo 2^32 (section 0.5, Time). -/
def elapsed (now since : Time) : Nat := (now - since).toNat

end Sys2Proof.Machine
end

