-- ==== Sys2Proof/Machine/Flags.lean ====
section
/-! DEFINITION. Flag sets, and the codes that the layouts of section 10.6 give to the manual's names. -/

namespace Sys2Proof.Machine

/-- The union of two flag sets (R109, R147). -/
def Flags.union (a b : Flags) : Flags where
  clipped := a.clipped || b.clipped
  saturated := a.saturated || b.saturated
  degradedHead := a.degradedHead || b.degradedHead
  motionStale := a.motionStale || b.motionStale
  noMotion := a.noMotion || b.noMotion
  motionDegraded := a.motionDegraded || b.motionDegraded
  motionClamped := a.motionClamped || b.motionClamped
  beyondTable := a.beyondTable || b.beyondTable
  tableFull := a.tableFull || b.tableFull
  headMissing := a.headMissing || b.headMissing

/-- A bit's value. -/
def bitValue (b : Bool) (k : Nat) : Nat := if b then 2 ^ k else 0

/-- The WIRE flags field (Table 10-13). -/
def Flags.word (f : Flags) : Nat :=
  bitValue f.clipped 0 + bitValue f.saturated 1 + bitValue f.degradedHead 2 + bitValue f.motionStale 3 +
    bitValue f.noMotion 4 + bitValue f.motionDegraded 5 + bitValue f.motionClamped 6 + bitValue f.beyondTable 7 +
    bitValue f.tableFull 8 + bitValue f.headMissing 9

/-- Port state codes (Table 10-12). -/
def PortState.code : PortState → Nat
  | .disabled => 0
  | .idle => 1
  | .seeking => 2
  | .active => 3
  | .lost => 4

/-- Operating state codes (Table 10-12). -/
def OpState.code : OpState → Nat
  | .standby => 0
  | .running => 1
  | .draining => 2

/-- Step sense codes (Table 10-12). -/
def Sense.code : Sense → Nat
  | .increasing => 0
  | .decreasing => 1

/-- STATUS cause codes (Table 10-3). -/
def StatusCause.code : StatusCause → Nat
  | .operatingState => 1
  | .portState => 2
  | .heads => 3
  | .distanceSaturated => 4
  | .zonesExhausted => 5
  | .recordLoss => 6

/-- Zone kind codes (Table 10-13). -/
def ZoneKind.code : ZoneKind → Nat
  | .plain => 0
  | .overlap => 1
  | .turnout => 2
  | .neutral => 3
  | .crossing => 4

/-- The zone kind of a code, if it is one of the five (R69). -/
def ZoneKind.ofCode : Nat → Option ZoneKind
  | 0 => some .plain
  | 1 => some .overlap
  | 2 => some .turnout
  | 3 => some .neutral
  | 4 => some .crossing
  | _ => none

/-- ZONE cause codes (Table 10-11). -/
def ZoneCause.code : ZoneCause → Nat
  | .passed => 1
  | .skipped => 2
  | .flushed => 3

/-- Close cause codes (Table 10-13). -/
def CloseCause.code : CloseCause → Nat
  | .grid => 1
  | .zone => 2
  | .reversal => 3
  | .jump => 4
  | .trackEnd => 5
  | .stop => 6
  | .released => 7
  | .flush => 8

/-- EXCEEDANCE kind codes (Table 10-10). -/
def RunKind.code : RunKind → Nat
  | .stagger => 1
  | .heightLow => 2
  | .heightHigh => 3
  | .thickness => 4
  | .count => 5

/-- TRACK_END reason codes (Table 10-9). -/
def EndReason.code : EndReason → Nat
  | .misses => 1
  | .stop => 2

/-- Result codes (Table 10-13). -/
def Result.code : Result → Nat
  | .done => 0x00
  | .clamped => 0x01
  | .refusedState => 0x10
  | .badArgument => 0x11
  | .notLoaded => 0x12
  | .queueFull => 0x13
  | .order => 0x14
  | .staleZone => 0x15
  | .planTooLong => 0x16
  | .badPriority => 0x17
  | .unknownCommand => 0x18
  | .badLength => 0x19

/-- Head condition of a code: codes beyond the three are taken as FAILED (R12). -/
def HeadCondition.ofCode : Nat → HeadCondition
  | 0 => .ok
  | 1 => .degraded
  | _ => .failed

end Sys2Proof.Machine
end

