-- ==== Sys2Proof/Machine/Operands.lean ====
section
/-! DEFINITION. What received payloads carry: PROFILE and MOTION frames (Tables 10-5, 10-6) and the arguments of the
commands (section 11.2, Tables 3-1, 5-1, 6-1, 7-2, 11-3). Argument offsets count from the byte after code and tag. -/

namespace Sys2Proof.Machine

/-! ### PROFILE (Table 10-5) -/

/-- The scan number of a PROFILE payload. -/
def profileScan (payload : List Byte) : Word16 := BitVec.ofNat 16 (natField payload 0 2)

/-- The head condition code of a PROFILE payload. -/
def profileConditionCode (payload : List Byte) : Nat := (byteAt payload 2).toNat

/-- Segment j of a PROFILE payload. -/
def profileSegment (payload : List Byte) (j : Nat) : Segment where
  colFirst := natField payload (4 + 8 * j) 2
  colLast := natField payload (6 + 8 * j) 2
  range := natField payload (8 + 8 * j) 2
  intensity := natField payload (10 + 8 * j) 1
  saturated := (byteAt payload (11 + 8 * j)).getLsbD 0

/-- All segments of a PROFILE payload, in the order it carries them. -/
def profileSegments (payload : List Byte) : List Segment :=
  (List.range (byteAt payload 3).toNat).map (profileSegment payload)

/-- A bad segment: columns out of order, a column over 2047 or a range code over 4095 (R12). -/
def Segment.bad (g : Segment) : Bool :=
  decide (g.colLast < g.colFirst) || decide (g.colFirst > 2047) || decide (g.colLast > 2047) || decide (g.range > 4095)

/-! ### MOTION (Table 10-6) -/

/-- The four values of a MOTION payload. -/
structure MotionValues where
  roll     : Int
  shift    : Int
  vertical : Int
  quality  : Nat
  deriving DecidableEq, Repr

/-- A MOTION payload read by Table 10-6. -/
def motionValues (payload : List Byte) : MotionValues where
  roll := intField payload 0 4
  shift := intField payload 4 4
  vertical := natField payload 8 4
  quality := natField payload 12 1

/-! ### Command arguments -/

/-- The first check of a list that fails, in the list's order. -/
def firstFailing {α : Type} (checks : List (α × Bool)) : Option α :=
  (checks.find? fun c => !c.2).map (·.1)

/-- Whether a number lies in a range, bounds included. -/
def within (lo hi x : Int) : Bool := decide (lo ≤ x) && decide (x ≤ hi)

/-- The field indexes of a list of checks, from a first index on. -/
def numbered (start : Nat) (checks : List Bool) : List (Nat × Bool) :=
  (List.range' start checks.length).zip checks

/-- SET_STROBE's plan: E_0 to E_3, guard, first delay, 2 bytes each (section 11.2). -/
def strobePlan (args : List Byte) : Plan where
  exposure := ⟨natField args 0 2, natField args 2 2, natField args 4 2, natField args 6 2⟩
  guard := natField args 8 2
  firstDelay := natField args 10 2

/-- SET_DISTANCE's argument (section 11.2). -/
def distanceArg (args : List Byte) : Int := intField args 0 4

/-- SET_SCAN_SPACING's argument (section 11.2). -/
def spacingArg (args : List Byte) : Nat := natField args 0 2

/-- The 17 column knots of a LOAD_HEAD_CAL (section 11.2, Table 6-1 fields 1 to 17). -/
def calColumns (args : List Byte) : List Int := (List.range 17).map fun i => intField args (1 + 4 * i) 4

/-- The 17 range knots of a LOAD_HEAD_CAL (Table 6-1 fields 18 to 34). -/
def calRanges (args : List Byte) : List Int := (List.range 17).map fun i => intField args (69 + 4 * i) 4

/-- LOAD_HEAD_CAL's calibration set (Table 6-1 fields 1 to 45). -/
def calSet (args : List Byte) : CalSet where
  columns := calColumns args
  ranges := calRanges args
  reference := intField args 137 4
  mountLateral := intField args 141 4
  mountHeight := intField args 145 4
  weight := natField args 149 1
  priority := natField args 150 1
  minIntensity := natField args 151 1
  colLo := natField args 152 2
  colHi := natField args 154 2
  rangeLo := natField args 156 2
  rangeHi := natField args 158 2
  headId := byteAt args 160

/-- The tests of the column knots, fields 1 to 17, in order (R85). -/
def columnChecks (c : List Int) : List Bool :=
  let knot (i : Nat) : Int := c.getD i 0
  let ranged (i : Nat) : Bool := within (-2000000) 2000000 (knot i)
  (List.range 17).map fun i =>
    match i with
    | 0 => ranged 0
    | 1 => ranged 1 && knot 1 != knot 0
    | j + 2 =>
      ranged (j + 2) &&
        (if knot 0 < knot 1 then decide (knot (j + 1) < knot (j + 2)) else decide (knot (j + 2) < knot (j + 1)))

/-- The tests of the range knots, fields 18 to 34, in order (R85). -/
def rangeChecks (q : List Int) : List Bool :=
  let knot (i : Nat) : Int := q.getD i 0
  (List.range 17).map fun i =>
    match i with
    | 0 => within 1 4000000 (knot 0)
    | j + 1 => within 1 4000000 (knot (j + 1)) && decide (knot j < knot (j + 1))

/-- The tests of fields 0 to 45 of a LOAD_HEAD_CAL, in ascending index (R85). -/
def calChecks (port : Nat) (c : CalSet) : List (Nat × Bool) :=
  numbered 0
    ([decide (port ≤ 3)] ++ columnChecks c.columns ++ rangeChecks c.ranges ++
      [ within 100000 3000000 c.reference,
        within (-1500000) 1500000 c.mountLateral,
        within 0 2000000 c.mountHeight,
        within 1 255 c.weight,
        decide (c.priority ≤ 3),
        decide (c.minIntensity ≤ 255),
        decide (c.colLo ≤ 2047),
        decide (c.colHi ≤ 2047) && decide (c.colLo ≤ c.colHi),
        decide (c.rangeLo ≤ 4095),
        decide (c.rangeHi ≤ 4095) && decide (c.rangeLo ≤ c.rangeHi),
        true ])

/-- LOAD_WIRE_TYPE's wire type (Table 7-2 fields 1 to 35), as it is stored when loaded. -/
def wireTypeArg (args : List Byte) : WireSlot where
  loaded := true
  nominal := intField args 1 4
  step := intField args 5 4
  table := (List.range 33).map fun j => intField args (9 + 4 * j) 4

/-- The tests of fields 0 to 35 of a LOAD_WIRE_TYPE, in ascending index (R113). -/
def wireTypeChecks (slot : Nat) (w : WireSlot) : List (Nat × Bool) :=
  let entry (j : Nat) : Int := w.table.getD j 0
  numbered 0
    ([decide (slot ≤ 7), within 1 30000 w.nominal, within 100 2000 w.step, within 0 w.nominal (entry 0)] ++
      (List.range 32).map fun j => decide (0 ≤ entry (j + 1)) && decide (entry (j + 1) ≤ entry j))

/-- SET_RUN_PARAMS's set read by Table 11-3. Codes beyond a field's range are refused before they are used. -/
def runParamsArg (args : List Byte) : RunParams where
  stepLength := natField args 0 4
  odoSense := if natField args 4 1 = 0 then .aLeadsIncreasing else .bLeadsIncreasing
  binLength := natField args 5 4
  lateralGate := natField args 9 4
  heightGate := natField args 13 4
  mergeLateral := natField args 17 4
  mergeHeight := natField args 21 4
  confirmHits := natField args 25 1
  missLimit := natField args 26 1
  releaseScans := natField args 27 1
  assemblyTimeout := natField args 28 4
  motionMaxAge := natField args 32 4
  silenceTimeout := natField args 36 4
  direction := if natField args 40 1 = 0 then .increasing else .decreasing
  defaultWire := natField args 41 1
  roofHeight := natField args 42 4
  forward := ⟨natField args 46 1, natField args 47 1, natField args 48 1, natField args 49 1⟩
  motionId := byteAt args 50

/-- The range tests of Table 11-3, fields 0 to 20 in ascending index (R178). -/
def runParamsRanges (args : List Byte) : List (Nat × Bool) :=
  numbered 0
    [ within 1 1048575 (natField args 0 4),
      within 0 1 (natField args 4 1),
      within 100 5000 (natField args 5 4),
      within 1000 100000 (natField args 9 4),
      within 5000 500000 (natField args 13 4),
      within 500 30000 (natField args 17 4),
      within 1000 200000 (natField args 21 4),
      within 1 15 (natField args 25 1),
      within 1 255 (natField args 26 1),
      within 1 15 (natField args 27 1),
      within 500 50000 (natField args 28 4),
      within 100 100000 (natField args 32 4),
      within 10 1000 (natField args 36 4),
      within 0 1 (natField args 40 1),
      within 0 7 (natField args 41 1),
      within 0 8000000 (natField args 42 4),
      within 0 255 (natField args 46 1),
      within 0 255 (natField args 47 1),
      within 0 255 (natField args 48 1),
      within 0 255 (natField args 49 1),
      within 0 255 (natField args 50 1) ]

/-- The bytes of entry j of a ZONE_APPEND: 31 bytes after the count (section 11.2). -/
def zoneEntryBytes (args : List Byte) (j : Nat) : List Byte := field args (1 + 31 * j) 31

/-- A zone entry of a ZONE_APPEND, with its kind code unjudged and its bookkeeping fields as R66 starts them, but for the
entry number. -/
def zoneEntryArg (b : List Byte) : ZoneEntry where
  zoneId := BitVec.ofNat 32 (natField b 0 4)
  lo := intField b 4 4
  hi := intField b 8 4
  kind := (ZoneKind.ofCode (natField b 12 1)).getD .plain
  expected := natField b 13 1
  wireType := natField b 14 1
  staggerLimit := natField b 15 4
  heightMin := natField b 19 4
  heightMax := natField b 23 4
  minThickness := natField b 27 4
  number := 0
  entered := none
  scans := 0
  runsOpened := 0

/-- The BAD_ARGUMENT tests of one entry (R69). -/
def zoneEntryOk (b : List Byte) : Bool :=
  let e := zoneEntryArg b
  decide (e.lo < e.hi) && (ZoneKind.ofCode (natField b 12 1)).isSome && decide (e.expected ≤ 4) &&
    decide (e.wireType ≤ 7) && decide (e.staggerLimit ≤ 1000000) && decide (e.heightMin ≤ 8000000) &&
    decide (e.heightMax ≤ 8000000) && decide (e.minThickness ≤ 30000) &&
    !(e.heightMin != 0 && e.heightMax != 0 && decide (e.heightMax < e.heightMin))

end Sys2Proof.Machine
end

