-- ==== Sys2Proof/Machine/Update.lean ====
section
/-! DEFINITION. One named update per unit of the state. Every meaning changes the state through these alone, so that what
a meaning leaves unchanged is read from the lemmas of Laws/State.lean. -/

namespace Sys2Proof.Machine.State

/-- Change the timebase. -/
def onTimebase (s : State) (f : Time → Time) : State := { s with timebase := f s.timebase }

/-- Change the reset line's mark. -/
def onHeld (s : State) (f : Bool → Bool) : State := { s with held := f s.held }

/-- Change the roof ports. -/
def onRoof (s : State) (f : Roof → Roof) : State := { s with roof := f s.roof }

/-- Change the motion port. -/
def onMotion (s : State) (f : MotionPort → MotionPort) : State := { s with motion := f s.motion }

/-- Change the odometer unit. -/
def onOdo (s : State) (f : Odometer → Odometer) : State := { s with odo := f s.odo }

/-- Change the strobe sequencer. -/
def onSeq (s : State) (f : Sequencer → Sequencer) : State := { s with seq := f s.seq }

/-- Change the scan assembler. -/
def onAsm (s : State) (f : Assembler → Assembler) : State := { s with asm := f s.asm }

/-- Change the paths between the units. -/
def onPaths (s : State) (f : Paths → Paths) : State := { s with paths := f s.paths }

/-- Change the zone queue unit. -/
def onZones (s : State) (f : ZoneQueue → ZoneQueue) : State := { s with zones := f s.zones }

/-- Change the geometry unit. -/
def onGeo (s : State) (f : Geometry → Geometry) : State := { s with geo := f s.geo }

/-- Change the merge and wear unit. -/
def onMerge (s : State) (f : MergeWear → MergeWear) : State := { s with merge := f s.merge }

/-- Change the track table unit. -/
def onTracks (s : State) (f : TrackTable → TrackTable) : State := { s with tracks := f s.tracks }

/-- Change the span unit. -/
def onSpan (s : State) (f : SpanUnit → SpanUnit) : State := { s with span := f s.span }

/-- Change the output unit. -/
def onOut (s : State) (f : Output → Output) : State := { s with out := f s.out }

/-- Change the command unit. -/
def onCmd (s : State) (f : CommandUnit → CommandUnit) : State := { s with cmd := f s.cmd }

/-- Change the queue of waiting commands. -/
def onPending (s : State) (f : List Instr → List Instr) : State := { s with pending := f s.pending }

end Sys2Proof.Machine.State
end

