-- ==== Sys2Proof/Machine/Ops.lean ====
section
/-! DEFINITION. Shared operations: ports and receivers, record admission and loss, STATUS content, the raw queue, the trunk
transmitter, the roof downlinks, reply reservation and the taking of a command. -/

namespace Sys2Proof.Machine

/-- A command's meaning: the part receives and does nothing while the reset line is held (R182). -/
def live (s : State) (f : State → State) : Host.Outcome State Fault Refusal :=
  .next (if s.held then s else f s)

/-! ### Ports, receivers, distance -/

/-- A roof port. -/
def State.port (s : State) (p : Port) : RoofPort := s.roof.ports.get p

/-- Change one roof port. -/
def State.onPort (s : State) (p : Port) (f : RoofPort → RoofPort) : State :=
  s.onRoof fun r => { r with ports := r.ports.modify p f }

/-- Change the counters of one roof port. -/
def State.countPort (s : State) (p : Port) (f : PortCounters → PortCounters) : State :=
  s.onPort p fun c => { c with counters := f c.counters }

/-- The millimetre part of the accumulator: rounded toward minus infinity (section 2.1.2). -/
def Odometer.mm (o : Odometer) : Int := o.units / Config.unitsPerMm

/-- The fraction of the accumulator, in 1/65,536 mm (section 2.1.2). -/
def Odometer.fraction (o : Odometer) : Int := o.units % Config.unitsPerMm

/-- The expected address and the accepted kinds of a receiver (Table 1-11). -/
def State.portRule (s : State) : Receiver → PortRule
  | .roof p => ⟨some (s.port p).headId, [kindProfile, kindHeadReply]⟩
  | .motion => ⟨some s.cmd.params.motionId, [kindMotion]⟩
  | .trunk => ⟨none, [kindCommand]⟩

/-- Count a closed frame under exactly one of the six receive counters (R4). -/
def RxCounters.count (c : RxCounters) : RxResult → RxCounters
  | .good _ => { c with good := bump c.good }
  | .failed .framing => { c with framing := bump c.framing }
  | .failed .length => { c with length := bump c.length }
  | .failed .check => { c with check := bump c.check }
  | .failed .address => { c with address := bump c.address }
  | .failed .kind => { c with kind := bump c.kind }

/-- Count a closed frame at a receiver (R4). -/
def State.countRx (s : State) (r : Receiver) (x : RxResult) : State :=
  match r with
  | .roof p => s.countPort p fun c => { c with rx := c.rx.count x }
  | .motion => s.onMotion fun m => { m with rx := m.rx.count x }
  | .trunk => s.onCmd fun c => { c with rx := c.rx.count x }

/-- The frame that a receiver has open (R2). -/
def State.openFrame (s : State) : Receiver → Option OpenFrame
  | .roof p => (s.port p).frame
  | .motion => s.motion.frame
  | .trunk => s.cmd.frame

/-- Set the frame that a receiver has open (R2). -/
def State.withOpenFrame (s : State) (r : Receiver) (w : Option OpenFrame) : State :=
  match r with
  | .roof p => s.onPort p fun c => { c with frame := w }
  | .motion => s.onMotion fun m => { m with frame := w }
  | .trunk => s.onCmd fun c => { c with frame := w }

/-- A good frame closes at a receiver that has a frame open (R2). The open frame is this one if what is stored of it can be
its beginning. Otherwise this frame's start delimiter has closed the open one as a framing failure (log entry 5). -/
def settle (s : State) (r : Receiver) (f : Frame) : State :=
  match s.openFrame r with
  | none => s
  | some w =>
    if w.begins f then s.withOpenFrame r none else (s.withOpenFrame r none).countRx r (.failed .framing)

/-! ### STATUS content (R169, Table 10-12) -/

/-- The current zone: the head entry, or none (R74). -/
def ZoneQueue.currentZone (z : ZoneQueue) : Option ZoneEntry := if z.current then z.entries.head? else none

/-- The live tracks (R122). -/
def TrackTable.live (t : TrackTable) : List Track := t.slots.filterMap id

/-- The tracks in CONFIRMED or COASTING. -/
def TrackTable.reported (t : TrackTable) : List Track := t.live.filter fun k => k.state != .tentative

/-- The occupancy of the record queue: the records held, plus one while a reply reservation is open (R161). -/
def Output.occupancy (o : Output) : Nat := o.records.length + (if o.reserved then 1 else 0)

/-- The wire-type-loaded mask, bit k for slot k. -/
def MergeWear.loadedMask (m : MergeWear) : Nat :=
  (m.slots.zipIdx.map fun w => bitValue w.1.loaded w.2).sum

/-- The 32 bytes of STATUS content with a cause code (Table 10-12). -/
def statusContent (s : State) (cause : Nat) : List Byte :=
  let flags :=
    bitValue s.out.lossFlag 0 + bitValue s.odo.saturated 1 + bitValue s.zones.exhausted 2 +
      bitValue s.zones.currentZone.isSome 3
  let loaded : PortSet := Quad.ofFn fun p => (s.geo.cal.get p).loaded
  byte cause ++ byte s.cmd.op.code ++
    (Port.all.map fun p => BitVec.ofNat 8 (s.port p).state.code) ++
    byte (s.roof.enabled.mask + 16 * loaded.mask) ++ byte s.merge.loadedMask ++ byte flags ++
    bytes16 s.seq.scanCounter ++ byte s.asm.contexts.length ++
    byte s.tracks.live.length ++ byte s.tracks.reported.length ++
    byte s.span.bins.length ++ byte (s.span.runs.length + s.span.count.toList.length) ++
    byte s.zones.entries.length ++ byte s.out.occupancy ++ [s.odo.epoch] ++ byte s.odo.sense.code ++
    intBytes32 s.odo.mm ++ bytes32 ((s.zones.currentZone.map (·.zoneId)).getD 0) ++ bytes32 s.timebase

/-- The Address of every record the part builds: the station address (section 10.1). -/
def State.stationByte (s : State) : Byte := s.cmd.station.setWidth 8

/-- A record of a kind with a payload. -/
def State.record (s : State) (kind : Byte) (payload : List Byte) : Frame := ⟨kind, s.stationByte, payload⟩

/-- A STATUS record as it stands at its offer (R169). -/
def State.statusRecord (s : State) (cause : StatusCause) : Frame :=
  s.record kindStatus (statusContent s cause.code)

/-! ### Record queue, raw queue and trunk transmitter (chapter 10) -/

/-- A free transmitter on a live link starts the head record, or the head raw frame when no record is held (R166). -/
def Output.kick (o : Output) : Output :=
  match o.tx with
  | .free =>
    if o.linkUp then
      if !o.records.isEmpty then { o with tx := .record }
      else if !o.raw.isEmpty then { o with tx := .raw }
      else o
    else o
  | _ => o

/-- A record joins the tail and is counted (R161, R162); a free transmitter re-examines the queues (R166). -/
def Output.join (o : Output) (f : Frame) : Output :=
  { o with records := o.records ++ [f], counters := { o.counters with admitted := bump o.counters.admitted } }.kick

/-- Offer a RECORD_LOSS STATUS record, class B, with the notice already disarmed (R164). -/
def offerLossStatus (s : State) : State :=
  if s.out.occupancy < Config.classBLimit then
    s.onOut fun o => { o with lossFlag := false }.join (s.statusRecord .recordLoss)
  else
    s.onOut fun o =>
      { o with lossFlag := true, counters := { o.counters with refusedB := bump o.counters.refusedB } }

/-- A refusal whose counter has been increased: it sets the record-loss flag and issues a notice if one is armed (R164). -/
def lose (s : State) : State :=
  let s := s.onOut fun o => { o with lossFlag := true }
  if s.out.notice then offerLossStatus (s.onOut fun o => { o with notice := false }) else s

/-- Offer a class A record (Table 10-1, R162, R164). -/
def offerA (s : State) (f : Frame) : State :=
  if s.out.occupancy < Config.classALimit then s.onOut fun o => o.join f
  else lose (s.onOut fun o => { o with counters := { o.counters with refusedA := bump o.counters.refusedA } })

/-- Offer a class B record other than STATUS (Table 10-1, R162, R164). -/
def offerB (s : State) (f : Frame) : State :=
  if s.out.occupancy < Config.classBLimit then s.onOut fun o => o.join f
  else lose (s.onOut fun o => { o with counters := { o.counters with refusedB := bump o.counters.refusedB } })

/-- Offer a STATUS record: class B; one that is admitted with the record-loss flag set clears it (R164, R169). -/
def offerStatus (s : State) (cause : StatusCause) : State :=
  if s.out.occupancy < Config.classBLimit then
    s.onOut fun o => { o with lossFlag := false }.join (s.statusRecord cause)
  else lose (s.onOut fun o => { o with counters := { o.counters with refusedB := bump o.counters.refusedB } })

/-- Offer a forwarded PROFILE frame to the raw queue (R165). -/
def offerRaw (s : State) (f : Frame) : State :=
  if s.out.raw.length < Config.rawCapacity then
    s.onOut fun o =>
      { o with
        raw := o.raw ++ [f]
        counters := { o.counters with rawAdmitted := bump o.counters.rawAdmitted } }.kick
  else s.onOut fun o => { o with counters := { o.counters with rawDrops := bump o.counters.rawDrops } }

/-! ### Roof downlinks (R15 to R17) -/

/-- A free downlink starts the waiting TRIGGER if there is one, and otherwise the relay slot's frame (R17). -/
def RoofPort.startDownlink (c : RoofPort) : RoofPort :=
  match c.tx with
  | .idle =>
    match c.waiting with
    | some f => { c with tx := .trigger f, waiting := none }
    | none => if c.relay.isSome then { c with tx := .config } else c
  | _ => c

/-- The TRIGGER frame of a scan for a port (R15, section 10.6). -/
def RoofPort.triggerFrame (c : RoofPort) (scan : Word16) (exposure : Nat) : Frame :=
  ⟨kindTrigger, c.headId, bytes16 scan ++ natBytes16 exposure⟩

/-- A TRIGGER frame is requested: it becomes the waiting TRIGGER, replacing and counting an earlier one (R15). -/
def RoofPort.requestTrigger (c : RoofPort) (scan : Word16) (exposure : Nat) : RoofPort :=
  let counters :=
    if c.waiting.isSome then
      { c.counters with triggerReplacements := bump c.counters.triggerReplacements }
    else c.counters
  { c with waiting := some (c.triggerFrame scan exposure), counters := counters }.startDownlink

/-- A HEAD_CONFIG frame is placed in the empty relay slot (R16). -/
def RoofPort.placeRelay (c : RoofPort) (bytes : List Byte) : RoofPort :=
  { c with relay := some ⟨kindHeadConfig, c.headId, bytes⟩ }.startDownlink

/-- A port becomes DISABLED: a HEAD_CONFIG frame that waits is discarded and counted, one being sent goes on (R6). -/
def RoofPort.disable (c : RoofPort) : RoofPort :=
  if c.relay.isSome && c.tx != .config then
    { c with
      state := .disabled
      relay := none
      counters := { c.counters with configDiscards := bump c.counters.configDiscards } }
  else { c with state := .disabled }

/-! ### Taking a command (R163, R173, R174) -/

/-- What a command answers (Table 10-7). -/
structure Reply where
  result : Result
  detail : Nat := 0
  data   : List Byte := []
  deriving DecidableEq, Repr

/-- The REPLY frame: code and tag echoed, result, detail, data (Table 10-7). -/
def State.replyRecord (s : State) (code tag : Byte) (r : Reply) : Frame :=
  s.record kindReply ([code, tag] ++ byte r.result.code ++ byte r.detail ++ r.data)

/-- Whether a result leaves the commands refused counter alone (R173). -/
def Result.accepted : Result → Bool
  | .done => true
  | .clamped => true
  | _ => false

/-- Queue the REPLY into the reserved room and close the reservation; the command counters advance (R163, R173). -/
def queueReply (s : State) (code tag : Byte) (r : Reply) : State :=
  (s.onOut fun o => { o with reserved := false }.join (s.replyRecord code tag r)).onCmd fun c =>
    { c with
      counters :=
        { c.counters with
          taken := bump c.counters.taken
          refused := if r.result.accepted then c.counters.refused else bump c.counters.refused } }

/-- The COMMAND frame of a row: code, tag, arguments (Table 10-7). -/
def commandFrame (address code tag : Byte) (args : List Byte) : Frame :=
  ⟨kindCommand, address, [code, tag] ++ args⟩

/-- A COMMAND frame closes at the trunk receiver (R3, R4). A good one is discarded if it is misaddressed, discarded if
there is no class C room, and otherwise taken: a reply reservation opens and the command goes on (R163, R173). -/
def takeCommand (s : State) (address code tag : Byte) (args : List Byte) (go : State → State) : State :=
  let s := settle s .trunk (commandFrame address code tag args)
  let x := checkIntact (s.portRule .trunk) (commandFrame address code tag args)
  let s := s.countRx .trunk x
  match x with
  | .failed _ => s
  | .good _ =>
    if address != s.stationByte then
      s.onCmd fun c => { c with counters := { c.counters with misaddressed := bump c.counters.misaddressed } }
    else if s.out.occupancy < Config.recordCapacity then go (s.onOut fun o => { o with reserved := true })
    else s.onCmd fun c => { c with counters := { c.counters with dropped := bump c.counters.dropped } }

/-- A taken command is judged by its length and the operating state, then by its own checks, and answered (R174). -/
def runCommand (s : State) (code tag : Byte) (lengthOk : Bool) (allowed : OpState → Bool)
    (body : State → State × Reply) : State :=
  if !lengthOk then queueReply s code tag { result := .badLength }
  else if !allowed s.cmd.op then queueReply s code tag { result := .refusedState }
  else
    let r := body s
    queueReply r.1 code tag r.2

/-- Allowed in every operating state (Table 11-2). -/
def anyState : OpState → Bool := fun _ => true

/-- Allowed in STANDBY only (Table 11-2). -/
def standbyOnly : OpState → Bool := fun o => o == .standby

/-- The whole of a command with a code of Table 11-2: taken, judged, carried out and answered. -/
def command (s : State) (address code tag : Byte) (args : List Byte) (lengthOk : Bool) (allowed : OpState → Bool)
    (body : State → State × Reply) : State :=
  takeCommand s address code tag args fun s => runCommand s code tag lengthOk allowed body

end Sys2Proof.Machine
end

