-- ==== Sys2Proof/Machine/Assembly.lean ====
section
/-! DEFINITION. The scan assembler (chapter 4) and drain control (R181): classification of profiles, completion, release,
and what moves a drain forward. -/

namespace Sys2Proof.Machine

/-! ### Drain control (R181) -/

/-- The test of the scans-in-pipeline tally while the drain waits for the pipeline: at 0 the drain close request is sent,
the late release mark is cleared and the drain waits for the span unit (R181). -/
def testTally (s : State) : State :=
  if s.cmd.drain == .waitingPipeline && s.cmd.tally == 0 then
    (s.onPaths fun p => { p with drainRequest := true }).onCmd fun c =>
      { c with drain := .waitingSpan, lateMark := false }
  else s

/-- An assembly drained report reaches drain control (R63, R181). -/
def assemblyDrained (s : State) : State :=
  if s.cmd.drain == .waitingAssembly then testTally (s.onCmd fun c => { c with drain := .waitingPipeline }) else s

/-- A port in SEEKING, ACTIVE or LOST becomes IDLE with its timer stopped at the entry to STANDBY (R7). -/
def RoofPort.standby (c : RoofPort) : RoofPort :=
  match c.state with
  | .disabled => c
  | .idle => c
  | _ => { c with state := .idle, silence := none }

/-- The drain is complete: the part enters STANDBY (R181, R7, R38). -/
def enterStandby (s : State) : State :=
  let s := s.onRoof fun r => { r with ports := Quad.ofFn fun p => (r.ports.get p).standby }
  let s := s.onSeq fun q => { q with active := q.staged.getD q.active, staged := none }
  let s := s.onCmd fun c => { c with op := .standby, drain := .none }
  offerStatus s .operatingState

/-- A span closed report reaches drain control (R158, R181). -/
def spanClosed (s : State) : State :=
  if s.cmd.drain == .waitingSpan then
    if !s.asm.contexts.isEmpty then s.onCmd fun c => { c with drain := .waitingAssembly }
    else if s.cmd.lateMark then testTally (s.onCmd fun c => { c with drain := .waitingPipeline })
    else enterStandby s
  else s

/-- A pending span closed report reaches drain control once every report sent before it has reached the zone queue unit and
no trigger raised before the STOP is on its way any more. So no trigger comes in STANDBY (R47), the drain waits for its scan
(R180), and the part enters STANDBY with the closing list empty and no scan in flight (R67, R78, R181; DEDUCED, log entry
21). -/
def settleSpanClosed (s : State) : State :=
  if s.paths.spanClosed && s.paths.reports.isEmpty && s.seq.onWay == 0 then
    spanClosed (s.onPaths fun p => { p with spanClosed := false })
  else s

/-! ### Completion and release (R60 to R63) -/

/-- Whether a port counts as missing: its delivery is absent or delivered-failed (R60). -/
def Delivery.unusable : Delivery → Bool
  | .delivered _ _ => false
  | _ => true

/-- A collecting context becomes COMPLETE and its missing set is formed (R60). -/
def ScanContext.completed (c : ScanContext) : ScanContext :=
  { c with
    complete := true
    missing := Quad.ofFn fun p => c.strobed.get p && (c.deliveries.get p).unusable }

/-- The collecting contexts that a condition selects become COMPLETE, each missing port counted (R60). -/
def completeWhere (sel : ScanContext → Bool) (a : Assembler) : Assembler :=
  let done := (a.contexts.filter fun c => !c.complete && sel c).map ScanContext.completed
  { a with
    contexts := a.contexts.map fun c => if !c.complete && sel c then c.completed else c
    missing := Quad.ofFn fun p => bumpBy (a.missing.get p) (done.countP fun c => c.missing.get p) }

/-- A delivery as it leaves with the released scan, if it is usable (R62). -/
def usableDelivery (p : Port) : Delivery → Option PortDelivery
  | .delivered degraded segments => some ⟨p, degraded, segments⟩
  | _ => none

/-- The released scan of a context (R62): strobed ports with condition OK or DEGRADED in ascending port index. -/
def ScanContext.toReleased (c : ScanContext) : ReleasedScan where
  scan := c.scan
  trigger := c.trigger
  snapshot := c.snapshot
  strobed := c.strobed
  missing := c.missing
  deliveries := c.strobed.members.filterMap fun p => usableDelivery p (c.deliveries.get p)

/-- Release control (R61): the COMPLETE contexts at the head of the start-order list are released in start order. Each
release advances the tally and, while drain control waits for the span unit, sets the late release mark (R172, R181). A
release that frees the last context in DRAINING reports assembly drained (R63). -/
def release (s : State) : State :=
  let gone := s.asm.contexts.takeWhile ScanContext.complete
  let rest := s.asm.contexts.dropWhile ScanContext.complete
  if gone.isEmpty then s
  else
    let s := s.onAsm fun a => { a with contexts := rest, released := bumpBy a.released gone.length }
    let s := s.onPaths fun p => { p with toZone := p.toZone ++ gone.map ScanContext.toReleased }
    let s := s.onCmd fun c =>
      { c with tally := c.tally + gone.length, lateMark := c.lateMark || c.drain == .waitingSpan }
    if rest.isEmpty && s.cmd.op == .draining then assemblyDrained s else s

/-! ### Profiles (R51 to R55) -/

/-- The verdict on a profile (Table 4-2). -/
inductive Verdict where
  | accepted | duplicate | late | stray
  deriving DecidableEq, Repr

/-- A profile as the roof port controller hands it on (R11). -/
structure Profile where
  port      : Port
  scan      : Word16
  condition : HeadCondition
  segments  : List Segment
  deriving DecidableEq, Repr

/-- The profile classifier (R51). -/
def classify (contexts : List ScanContext) (next : Word16) (port : Port) (scan : Word16) : Verdict :=
  match contexts.find? fun c => c.scan == scan with
  | some c =>
    if c.complete then
      if c.deliveries.get port == .absent then .stray else .duplicate
    else if c.deliveries.get port != .absent then .duplicate
    else if c.strobed.get port then .accepted
    else .stray
  | none =>
    let behind := (next - scan).toNat
    if 1 ≤ behind ∧ behind ≤ 32767 then .late else .stray

/-- What an accepted profile becomes in its context (R52, R53). -/
def Profile.delivery (p : Profile) : Delivery :=
  match p.condition with
  | .ok => .delivered false p.segments
  | .degraded => .delivered true p.segments
  | .failed => .failed

/-- An accepted profile is stored and its port leaves the awaited set (R52, R53). -/
def ScanContext.deliver (c : ScanContext) (p : Profile) : ScanContext :=
  { c with deliveries := c.deliveries.set p.port p.delivery, awaited := c.awaited.set p.port false }

/-- The assembler takes an accepted profile: the delivery, the failed deliveries counter, and completion of the context if
its awaited set is empty (R52, R53, R60). -/
def acceptProfile (p : Profile) (a : Assembler) : Assembler :=
  let a :=
    { a with
      contexts := a.contexts.map fun c => if !c.complete && c.scan == p.scan then c.deliver p else c
      failed := if p.condition == .failed then a.failed.modify p.port bump else a.failed }
  completeWhere (fun c => c.scan == p.scan && c.awaited.isEmpty) a

/-- The loss pruner (R57): a lost port leaves the awaited set of every collecting context, and the contexts that this
empties become COMPLETE. -/
def prunePort (p : Port) (a : Assembler) : Assembler :=
  let hit (c : ScanContext) : Bool := !c.complete && c.awaited.get p
  let emptied := (a.contexts.filter fun c => hit c && (c.awaited.set p false).isEmpty).map (·.scan)
  let a :=
    { a with contexts := a.contexts.map fun c => if hit c then { c with awaited := c.awaited.set p false } else c }
  completeWhere (fun c => emptied.contains c.scan) a

end Sys2Proof.Machine
end

