-- ==== Sys2Proof/Machine/Sequence.lean ====
section
/-! DEFINITION. The strobe sequencer's shared operations (chapter 3): plan length, slot layout, the motion snapshot, the fate
of a trigger. -/

namespace Sys2Proof.Machine

/-- The plan length P over a set of ports (R36). -/
def Plan.length (plan : Plan) (ports : PortSet) : Nat :=
  plan.firstDelay + (ports.members.map plan.exposure.get).sum + (ports.members.length - 1) * plan.guard

/-- Slots laid out from an offset on, one for each port, with the guard between them (R43). -/
def layoutSlots (plan : Plan) : List Port → Nat → List Slot
  | [], _ => []
  | p :: ps, at_ =>
    let e := plan.exposure.get p
    ⟨p, at_, e⟩ :: layoutSlots plan ps (at_ + e + plan.guard)

/-- The slots of a scan over its strobed set (R43). -/
def Plan.slots (plan : Plan) (ports : PortSet) : List Slot := layoutSlots plan ports.members plan.firstDelay

/-- Whether the busy window is open at a time (R39). -/
def Sequencer.busyAt (q : Sequencer) (now : Time) : Bool :=
  q.busy.any fun w => decide (elapsed now w.trigger < w.length)

/-- Whether a held sample is stale at a trigger: OLD, or older than the motion max age (R32, R33). -/
def MotionSample.staleAt (m : MotionSample) (now : Time) (maxAge : Nat) : Bool :=
  m.old || decide (elapsed now m.arrival > maxAge)

/-- The motion values and flags of a snapshot (Table 2-3). -/
structure MotionReading where
  roll     : Int
  shift    : Int
  vertical : Int
  flags    : Flags
  deriving DecidableEq, Repr

/-- The motion snapshot (R33). A sample is used only if it arrived since START. -/
def motionReading (m : MotionPort) (params : RunParams) (now : Time) : MotionReading :=
  match m.sinceStart, m.held with
  | true, some h =>
    ⟨h.roll, h.shift, h.vertical,
      { motionStale := h.staleAt now params.motionMaxAge
        motionDegraded := h.degraded
        motionClamped := h.clamped }⟩
  | _, _ => ⟨0, 0, params.roofHeight, { noMotion := true }⟩

/-- The snapshot counters of the motion port (R33, R34). -/
def MotionPort.countSnapshot (m : MotionPort) (flags : Flags) : MotionPort :=
  { m with
    counters :=
      { m.counters with
        noMotion := if flags.noMotion then bump m.counters.noMotion else m.counters.noMotion
        stale := if flags.motionStale then bump m.counters.stale else m.counters.stale } }

/-- The snapshot that a scan starting now takes (R24, R33). -/
def takeSnapshot (s : State) : Snapshot :=
  let m := motionReading s.motion s.cmd.params s.timebase
  { distance := s.odo.mm
    sense := s.odo.sense
    epoch := s.odo.epoch
    roll := m.roll
    shift := m.shift
    vertical := m.vertical
    motion := m.flags }

/-- Whether a port is awaited by a scan that starts now: SEEKING or ACTIVE (R42). -/
def PortState.awaitable : PortState → Bool
  | .seeking => true
  | .active => true
  | _ => false

/-- The context of a scan that starts now (R42, R49). -/
def newContext (s : State) : ScanContext where
  complete := false
  scan := s.seq.scanCounter
  trigger := s.timebase
  snapshot := takeSnapshot s
  strobed := s.roof.enabled
  awaited := Quad.ofFn fun p => s.roof.enabled.get p && (s.port p).state.awaitable
  deadline := s.timebase + BitVec.ofNat 32 s.cmd.params.assemblyTimeout
  deliveries := Quad.replicate .absent
  missing := Quad.replicate false

/-- The plan that a scan starting now runs under: the staged plan, if there is one, becomes active (R38, R42). -/
def Sequencer.nextPlan (q : Sequencer) : Plan := q.staged.getD q.active

/-- The sequencer at a scan start (R42): plan, number, busy window, slot sequence. The busy window is closed, so the slots
of the scan before are over and its strobe lines are off (R43). -/
def Sequencer.startScan (q : Sequencer) (now : Time) (enabled : PortSet) : Sequencer :=
  let plan := q.nextPlan
  let slots := plan.slots enabled
  { q with
    active := plan
    staged := none
    scanCounter := q.scanCounter + 1
    busy := some ⟨now, plan.length enabled⟩
    slots := if slots.isEmpty then none else some ⟨q.scanCounter, now, none, slots⟩
    lines := Quad.replicate false
    counters := { q.counters with started := bump q.counters.started } }

/-- A trigger starts a scan (R42, R49). With an empty awaited set the context completes at once (R49, R60, R61). -/
def startScan (s : State) : State :=
  let c := newContext s
  let s := s.onMotion fun m => m.countSnapshot c.snapshot.motion
  let s := s.onSeq fun q => q.startScan s.timebase s.roof.enabled
  let s := s.onAsm fun a => { a with contexts := a.contexts ++ [c] }
  if c.awaited.isEmpty then release (s.onAsm (completeWhere fun k => k.scan == c.scan)) else s

/-- A trigger reaches the sequencer (R40 to R42): overrun-busy, overrun-context, or a scan start. -/
def handleTrigger (s : State) : State :=
  if s.seq.busyAt s.timebase then
    s.onSeq fun q => { q with counters := { q.counters with overrunBusy := bump q.counters.overrunBusy } }
  else if Config.contextCount ≤ s.asm.contexts.length then
    s.onSeq fun q => { q with counters := { q.counters with overrunContext := bump q.counters.overrunContext } }
  else startScan s

end Sys2Proof.Machine
end

