-- ==== Sys2Proof/Machine/Commands.lean ====
section
/-! DEFINITION. The commands of the command unit and of the units that have no family file of their own (chapter 11):
IDENTIFY, GET_STATE, GET_COUNTERS, CLEAR_COUNTERS, SET_HEADS, SET_RUN_PARAMS, SET_SCAN_SPACING, SET_STROBE, SET_DISTANCE,
HEAD_PASS, START, STOP, UNKNOWN_COMMAND. -/

namespace Sys2Proof.Machine

/-! ### Reading (R175) -/

/-- The data of an IDENTIFY reply: vendor, part, revision, station address, port-present mask, operating state (R175). -/
def identifyData (s : State) : List Byte :=
  [0x45, 0x04, 0x40, 3, s.stationByte] ++ byte s.cmd.present.mask ++ byte s.cmd.op.code

/-- IDENTIFY. -/
def execIdentify (address tag : Byte) (args : List Byte) (s : State) : Host.Outcome State Fault Refusal :=
  live s fun s =>
    command s address 0x01 tag args args.isEmpty anyState fun s =>
      (s, { result := .done, data := identifyData s })

/-- GET_STATE: the STATUS content with cause 0, built at execution. The flag and the notice stay as they are (R169). -/
def execGetState (address tag : Byte) (args : List Byte) (s : State) : Host.Outcome State Fault Refusal :=
  live s fun s =>
    command s address 0x02 tag args args.isEmpty anyState fun s =>
      (s, { result := .done, data := statusContent s 0 })

/-- The six receive counters in the order of Table 11-4. -/
def RxCounters.list (c : RxCounters) : List Counter := [c.good, c.framing, c.length, c.check, c.address, c.kind]

/-- Counter groups 0 to 3: everything kept for one port (Table 11-4). -/
def portGroup (s : State) (p : Port) : List Counter :=
  let c := (s.port p).counters
  let g := s.geo.ports.get p
  c.rx.list ++
    [ c.goodProfiles, c.idleDiscards, c.disabledDiscards, c.accepted, c.duplicate, c.late, c.stray, c.badSegments,
      c.badCondition, c.silenceExpiries, c.relayedReplies, c.disabledReplyDiscards, c.triggersSent,
      c.triggerReplacements, c.configsSent, c.configDiscards, c.framesForwarded,
      s.asm.missing.get p, s.asm.failed.get p,
      g.examined, g.noise, g.window, g.clipped, g.detections,
      s.merge.sources.get p ]

/-- Counter group 4: motion, odometer, sequencer (Table 11-4). -/
def motionGroup (s : State) : List Counter :=
  let m := s.motion.counters
  let o := s.odo.counters
  let q := s.seq.counters
  s.motion.rx.list ++
    [ m.taken, m.invalid, m.clamped, m.degraded, m.noMotion, m.stale,
      o.increasing, o.decreasing, o.errors, o.triggers,
      q.started, q.overrunBusy, q.overrunContext ]

/-- Counter group 5: assembler, zones, geometry, merge, tracks, span (Table 11-4). -/
def pipelineGroup (s : State) : List Counter :=
  let z := s.zones.counters
  let m := s.merge.counters
  let t := s.tracks.counters
  let u := s.span.counters
  [ s.asm.released, s.asm.aborted, s.asm.deadlines, BitVec.ofNat 32 s.asm.contexts.length,
    z.appended, z.passed, z.skipped, z.flushed, z.inNone,
    s.geo.without,
    m.formed, m.merged, m.dropped, m.handedOn, m.wearSamples, m.withoutWear, m.beyondTable,
    t.received, t.hits, t.births, t.fullDiscards, t.confirmations, t.dropped, t.coasting, t.recoveries,
    t.endsMisses, t.endsStop, t.slopeClamps,
    u.finished, u.binsOpened, u.binsClosed, u.runsOpened, u.runsReleased, u.runsByEvent, u.trackEnds ]

/-- Counter group 6: trunk receiver, output, commands (Table 11-4). -/
def trunkGroup (s : State) : List Counter :=
  let o := s.out.counters
  let c := s.cmd.counters
  s.cmd.rx.list ++
    [ o.admitted, o.sent, o.refusedA, o.refusedB, o.rawAdmitted, o.rawDrops, o.rawSent, o.restarted, o.linkDowns,
      c.taken, c.refused, c.dropped, c.misaddressed ]

/-- The counters of a group, none over group 6 (R175, Table 11-4). -/
def counterGroup (s : State) (group : Nat) : Option (List Counter) :=
  match Port.ofIndex group with
  | some p => some (portGroup s p)
  | none =>
    if group = 4 then some (motionGroup s)
    else if group = 5 then some (pipelineGroup s)
    else if group = 6 then some (trunkGroup s)
    else none

/-- GET_COUNTERS's answer (R175). -/
def counterReply (args : List Byte) (s : State) : Reply :=
  let group := (byteAt args 0).toNat
  match counterGroup s group with
  | some cs => { result := .done, data := byte group ++ cs.flatMap bytes32 }
  | none => { result := .badArgument }

/-- GET_COUNTERS. -/
def execGetCounters (address tag : Byte) (args : List Byte) (s : State) : Host.Outcome State Fault Refusal :=
  live s fun s =>
    command s address 0x03 tag args (args.length == 1) anyState fun s => (s, counterReply args s)

/-! ### CLEAR_COUNTERS (R176) -/

/-- Every counter named in Table 11-4 returns to 0; everything else stays (R176). -/
def clearAll (s : State) : State :=
  let s := s.onRoof fun r => { r with ports := Quad.ofFn fun p => { r.ports.get p with counters := {} } }
  let s := s.onMotion fun m => { m with rx := {}, counters := {} }
  let s := s.onOdo fun o => { o with counters := {} }
  let s := s.onSeq fun q => { q with counters := {} }
  let s := s.onAsm fun a =>
    { a with released := 0, aborted := 0, deadlines := 0, missing := Quad.replicate 0, failed := Quad.replicate 0 }
  let s := s.onZones fun z => { z with counters := {} }
  let s := s.onGeo fun g => { g with ports := Quad.replicate {}, without := 0 }
  let s := s.onMerge fun m => { m with counters := {}, sources := Quad.replicate 0 }
  let s := s.onTracks fun t => { t with counters := {} }
  let s := s.onSpan fun u => { u with counters := {} }
  let s := s.onOut fun o => { o with counters := {} }
  s.onCmd fun c => { c with rx := {}, counters := {} }

/-- CLEAR_COUNTERS. -/
def execClearCounters (address tag : Byte) (args : List Byte) (s : State) : Host.Outcome State Fault Refusal :=
  live s fun s =>
    command s address 0x04 tag args args.isEmpty standbyOnly fun s => (clearAll s, { result := .done })

/-! ### SET_HEADS (R6, R177) -/

/-- A port under a new enabled mask (R6). -/
def RoofPort.underMask (c : RoofPort) (enabled : Bool) : RoofPort :=
  match c.state, enabled with
  | .disabled, true => { c with state := .idle }
  | .idle, false => c.disable
  | _, _ => c

/-- A new mask takes effect (R6). -/
def Roof.withMask (r : Roof) (mask : PortSet) : Roof where
  enabled := mask
  ports := Quad.ofFn fun p => (r.ports.get p).underMask (mask.get p)

/-- SET_HEADS's own checks and effects (R177). -/
def setHeads (args : List Byte) (s : State) : State × Reply :=
  let n := (byteAt args 0).toNat
  let mask := Quad.ofMask n
  if 15 < n ∨ !mask.subset s.cmd.present then (s, { result := .badArgument })
  else
    let t := s.onRoof fun r => r.withMask mask
    (if mask = s.roof.enabled then t else offerStatus t .heads, { result := .done, data := byte n })

/-- SET_HEADS. -/
def execSetHeads (address tag : Byte) (args : List Byte) (s : State) : Host.Outcome State Fault Refusal :=
  live s fun s => command s address 0x10 tag args (args.length == 1) standbyOnly (setHeads args)

/-! ### SET_RUN_PARAMS (R178, R71) -/

/-- The first field that fails, with its result: a range of Table 11-3, or a run direction that would change under a loaded
zone queue (R178, R71). -/
def runParamsFailure (args : List Byte) (s : State) : Option (Result × Nat) :=
  let turned := (runParamsArg args).direction != s.cmd.params.direction && !s.zones.entries.isEmpty
  match firstFailing (runParamsRanges args) with
  | some i => if turned && decide (13 < i) then some (.order, 13) else some (.badArgument, i)
  | none => if turned then some (.order, 13) else none

/-- SET_RUN_PARAMS's own checks and effects (R178). The ports' forward counts stay as they stand, also where a forward divider
falls to the count or below it: START zeroes them before the next profile can be accepted (R7, R18; DESIGN CHOICE, log entry
20). -/
def setRunParams (args : List Byte) (s : State) : State × Reply :=
  match runParamsFailure args s with
  | some (r, i) => (s, { result := r, detail := i })
  | none => (s.onCmd fun c => { c with params := runParamsArg args }, { result := .done })

/-- SET_RUN_PARAMS. -/
def execSetRunParams (address tag : Byte) (args : List Byte) (s : State) : Host.Outcome State Fault Refusal :=
  live s fun s => command s address 0x13 tag args (args.length == 51) standbyOnly (setRunParams args)

/-! ### SET_SCAN_SPACING (R26) -/

/-- SET_SCAN_SPACING's own checks and effects (R26). -/
def setScanSpacing (args : List Byte) (s : State) : State × Reply :=
  let n := spacingArg args
  if n = 0 ∨ 256 < n then (s, { result := .badArgument })
  else (s.onOdo fun o => { o with spacing := n, divider := n }, { result := .done })

/-- SET_SCAN_SPACING. -/
def execSetScanSpacing (address tag : Byte) (args : List Byte) (s : State) : Host.Outcome State Fault Refusal :=
  live s fun s => command s address 0x14 tag args (args.length == 2) anyState (setScanSpacing args)

/-! ### SET_STROBE (R37, R38) -/

/-- The first argument of SET_STROBE that refuses it: a zero exposure, the guard, the first delay (R37). -/
def strobeFailure (plan : Plan) : Option Nat :=
  firstFailing
    (numbered 0
      ((Port.all.map fun p => decide (plan.exposure.get p ≠ 0)) ++
        [decide (plan.guard ≤ 255), decide (plan.firstDelay ≤ 1000)]))

/-- The plan with each exposure over 2,000 µs replaced by 2,000 µs (R37). -/
def Plan.clamped (plan : Plan) : Plan :=
  { plan with exposure := Quad.ofFn fun p => min (plan.exposure.get p) 2000 }

/-- An accepted plan becomes active in STANDBY and staged in RUNNING or DRAINING (R38). -/
def Sequencer.accept (q : Sequencer) (op : OpState) (plan : Plan) : Sequencer :=
  if op = .standby then { q with active := plan } else { q with staged := some plan }

/-- SET_STROBE's own checks and effects (R37, R38). -/
def setStrobe (args : List Byte) (s : State) : State × Reply :=
  let plan := strobePlan args
  match strobeFailure plan with
  | some i => (s, { result := .badArgument, detail := i })
  | none =>
    let fixed := plan.clamped
    let length := fixed.length s.roof.enabled
    if Config.planLimit < length then (s, { result := .planTooLong })
    else
      (s.onSeq fun q => q.accept s.cmd.op fixed,
        { result := if fixed = plan then .done else .clamped
          data := natBytes16 length ++ byte (if s.cmd.op = .standby then 0 else 1) })

/-- SET_STROBE. -/
def execSetStrobe (address tag : Byte) (args : List Byte) (s : State) : Host.Outcome State Fault Refusal :=
  live s fun s => command s address 0x15 tag args (args.length == 12) anyState (setStrobe args)

/-! ### SET_DISTANCE (R23) -/

/-- The odometer unit with a loaded distance (R23). -/
def Odometer.load (o : Odometer) (mm : Int) : Odometer :=
  { o with units := mm * Config.unitsPerMm, saturated := false, epoch := o.epoch + 1 }

/-- SET_DISTANCE's own checks and effects (R23). -/
def setDistance (args : List Byte) (s : State) : State × Reply :=
  let mm := distanceArg args
  if mm < -Config.distanceLimit then (s, { result := .badArgument })
  else (s.onOdo fun o => o.load mm, { result := .done, data := [s.odo.epoch + 1] })

/-- SET_DISTANCE. -/
def execSetDistance (address tag : Byte) (args : List Byte) (s : State) : Host.Outcome State Fault Refusal :=
  live s fun s => command s address 0x16 tag args (args.length == 4) anyState (setDistance args)

/-! ### HEAD_PASS (R16, section 11.2) -/

/-- HEAD_PASS's own checks and effects: an enabled port with an empty relay slot takes the frame (R16). -/
def headPass (args : List Byte) (s : State) : State × Reply :=
  match Port.ofIndex (byteAt args 0).toNat with
  | none => (s, { result := .badArgument })
  | some p =>
    if !s.roof.enabled.get p then (s, { result := .badArgument })
    else if (s.port p).relay.isSome then (s, { result := .queueFull })
    else (s.onPort p fun c => c.placeRelay (args.drop 1), { result := .done })

/-- HEAD_PASS. -/
def execHeadPass (address tag : Byte) (args : List Byte) (s : State) : Host.Outcome State Fault Refusal :=
  live s fun s =>
    command s address 0x30 tag args (decide (2 ≤ args.length) && decide (args.length ≤ 65)) anyState (headPass args)

/-! ### START (R179) -/

/-- The lowest enabled port whose calibration set is not loaded (R179). -/
def unloadedPort (s : State) : Option Port :=
  s.roof.enabled.members.find? fun p => !(s.geo.cal.get p).loaded

/-- The first enabled port whose priority equals that of a lower enabled port (R179). -/
def sharedPriority (s : State) : Option Port :=
  let priority (p : Port) : Nat := (s.geo.cal.get p).cal.priority
  s.roof.enabled.members.find? fun p =>
    s.roof.enabled.members.any fun o => decide (o.index < p.index) && priority o == priority p

/-- The first check of START that fails, with its result and detail (R179). -/
def startFailure (s : State) : Option (Result × Nat) :=
  if s.roof.enabled.isEmpty then some (.badArgument, 0)
  else
    match unloadedPort s with
    | some p => some (.notLoaded, p.index)
    | none =>
      match sharedPriority s with
      | some p => some (.badPriority, p.index)
      | none =>
        if !((s.merge.slots[s.cmd.params.defaultWire]?).any (·.loaded)) then
          some (.notLoaded, 16 + s.cmd.params.defaultWire)
        else if Config.planLimit < s.seq.active.length s.roof.enabled then some (.planTooLong, 0)
        else none

/-- A port at START: IDLE goes to SEEKING with its silence timer started, and the forward count is zeroed (R7, R18). -/
def RoofPort.begin_ (c : RoofPort) (now : Time) : RoofPort :=
  match c.state with
  | .idle => { c with state := .seeking, silence := some now, forwardCount := 0 }
  | _ => { c with forwardCount := 0 }

/-- A START that passes acts on each block, and the part is RUNNING (R179, R7, R18, R27, R29, R67, R141). -/
def beginRun (s : State) : State :=
  let s := s.onRoof fun r => { r with ports := Quad.ofFn fun p => (r.ports.get p).begin_ s.timebase }
  let s := s.onMotion fun m => { m with sinceStart := false }
  let s := s.onOdo fun o => { o with divider := o.spacing }
  let s := s.onZones fun z => { z with current := false, flushMark := false, exhausted := false }
  let s := s.onSpan fun u => { u with prevSense := s.odo.sense, prevEpoch := s.odo.epoch }
  offerStatus (s.onCmd fun c => { c with op := .running }) .operatingState

/-- START's own checks and effects (R179). -/
def startRun (s : State) : State × Reply :=
  match startFailure s with
  | some (r, i) => (s, { result := r, detail := i })
  | none => (beginRun s, { result := .done })

/-- START. -/
def execStart (address tag : Byte) (args : List Byte) (s : State) : Host.Outcome State Fault Refusal :=
  live s fun s => command s address 0x40 tag args args.isEmpty standbyOnly startRun

/-! ### STOP (R180, R63) -/

/-- The part enters DRAINING; with no context in use the assembler reports assembly drained at once (R180, R63). -/
def beginDrain (s : State) : State :=
  let s := offerStatus (s.onCmd fun c => { c with op := .draining, drain := .waitingAssembly }) .operatingState
  if s.asm.contexts.isEmpty then assemblyDrained s else s

/-- STOP's effects by operating state (R180). -/
def stopRun (s : State) : State × Reply :=
  match s.cmd.op with
  | .running => (beginDrain s, { result := .done })
  | .draining => (s, { result := .done })
  | .standby => (s, { result := .refusedState })

/-- STOP. -/
def execStop (address tag : Byte) (args : List Byte) (s : State) : Host.Outcome State Fault Refusal :=
  live s fun s => command s address 0x41 tag args args.isEmpty anyState stopRun

/-! ### UNKNOWN_COMMAND (R174) -/

/-- UNKNOWN_COMMAND: a taken command with a code that Table 11-2 does not list. A listed code belongs to another row (log
entry 12). -/
def execUnknownCommand (address code tag : Byte) (args : List Byte) (s : State) :
    Host.Outcome State Fault Refusal :=
  live s fun s =>
    if commandCodes.contains code then s
    else takeCommand s address code tag args fun s => queueReply s code tag { result := .unknownCommand }

end Sys2Proof.Machine
end

