-- ==== Sys2Proof/Machine/Events.lean ====
section
/-! DEFINITION. Line changes, triggers and timed events: LINE_CHANGE, TRIGGER_ARRIVAL, SILENCE_TIMER_EXPIRY, SLOT_START,
EXPOSURE_END, BUSY_WINDOW_CLOSE, DEADLINE_REACHED, HOLD_AGE_EXPIRY, DOWNLINK_END_DELIMITER. A timed event whose time has
not come, or that finds nothing to act on, is no event and leaves the state as it is (log entry 12). The list of the events
that are due at the present timebase reading stands at the end: an idle step takes them from it (log entry 1). -/

namespace Sys2Proof.Machine

/-! ### The odometer (R19 to R25) -/

/-- The next pair after (ODA, ODB) in A-leads order (Table 2-2). -/
def nextALeads (a b : Bool) : Bool × Bool :=
  match a, b with
  | false, false => (true, false)
  | true, false => (true, true)
  | true, true => (false, true)
  | false, true => (false, false)

/-- The sense of a step (R20): whether it follows the A-leads order, and the odometer sense. -/
def stepSense (aLeads : Bool) (odo : OdoSense) : Sense :=
  match aLeads, odo with
  | true, .aLeadsIncreasing => .increasing
  | false, .aLeadsIncreasing => .decreasing
  | true, .bLeadsIncreasing => .decreasing
  | false, .bLeadsIncreasing => .increasing

/-- The accumulator's limit in units (R22). -/
def unitsLimit : Int := Config.distanceLimit * Config.unitsPerMm

/-- The accumulator after a step: moved by the step length and held to the limits (R21, R22). -/
def movedUnits (units : Int) (sense : Sense) (stepLength : Nat) : Int :=
  let moved := match sense with
    | .increasing => units + stepLength
    | .decreasing => units - stepLength
  clamp (-unitsLimit) unitsLimit moved

/-- Whether a step leaves the accumulator beyond a limit (R22). -/
def stepSaturates (units : Int) (sense : Sense) (stepLength : Nat) : Bool :=
  let moved := match sense with
    | .increasing => units + stepLength
    | .decreasing => units - stepLength
  decide (moved < -unitsLimit) || decide (unitsLimit < moved)

/-- The odometer unit after a step: sense, step counter, distance, saturated flag (R20 to R22). -/
def Odometer.step (o : Odometer) (sense : Sense) (stepLength : Nat) : Odometer :=
  { o with
    sense := sense
    units := movedUnits o.units sense stepLength
    saturated := o.saturated || stepSaturates o.units sense stepLength
    counters :=
      match sense with
      | .increasing => { o.counters with increasing := bump o.counters.increasing }
      | .decreasing => { o.counters with decreasing := bump o.counters.decreasing } }

/-- Whether a step makes the scan divider raise a trigger: in RUNNING, when the count reaches 0 (R25). -/
def raisesTrigger (s : State) : Bool := s.cmd.op == .running && decide (s.odo.divider ≤ 1)

/-- The divider counts a step (R25): in RUNNING it counts down, and at 0 it counts a trigger and reloads. -/
def countStep (s : State) : State :=
  if s.cmd.op == .running then
    s.onOdo fun o =>
      if o.divider ≤ 1 then
        { o with divider := o.spacing, counters := { o.counters with triggers := bump o.counters.triggers } }
      else { o with divider := o.divider - 1 }
  else s

/-- A step reaches the accumulator; STATUS DISTANCE_SATURATED is offered when the flag becomes set (R20 to R22). -/
def accumulate (s : State) (sense : Sense) : State :=
  let t := s.onOdo fun o => o.step sense s.cmd.params.stepLength
  if t.odo.saturated && !s.odo.saturated then offerStatus t .distanceSaturated else t

/-- A trigger that the divider has raised: on its way, or handled at once (R25, R40; log entry 6). -/
def sendTrigger (s : State) (late : Bool) : State :=
  if late then s.onSeq fun q => { q with onWay := q.onWay + 1 } else handleTrigger s

/-- LINE_CHANGE (R19, R25). Levels equal to the reference pair are no line change. -/
def lineChange (s : State) (oda odb late : Bool) : State :=
  if oda = s.odo.oda ∧ odb = s.odo.odb then s
  else
    let t := s.onOdo fun o => { o with oda := oda, odb := odb }
    if oda ≠ s.odo.oda ∧ odb ≠ s.odo.odb then
      t.onOdo fun o => { o with counters := { o.counters with errors := bump o.counters.errors } }
    else
      let aLeads := decide ((oda, odb) = nextALeads s.odo.oda s.odo.odb)
      let t := accumulate t (stepSense aLeads s.cmd.params.odoSense)
      if raisesTrigger t then sendTrigger (countStep t) late else countStep t

/-- LINE_CHANGE. -/
def execLineChange (oda odb late : Bool) (s : State) : Host.Outcome State Fault Refusal :=
  live s fun s => lineChange s oda odb late

/-- TRIGGER_ARRIVAL (R40 to R42): a trigger on its way reaches the sequencer, after a STOP as before it (R180). A span closed
report that has waited for it then reaches drain control (log entry 21). -/
def triggerArrival (s : State) : State :=
  if 0 < s.seq.onWay then settleSpanClosed (handleTrigger (s.onSeq fun q => { q with onWay := q.onWay - 1 })) else s

/-- TRIGGER_ARRIVAL. -/
def execTriggerArrival (s : State) : Host.Outcome State Fault Refusal := live s triggerArrival

/-! ### Silence timers (R9, R57) -/

/-- Whether a port's silence timer has reached the timeout (R9). -/
def silenceDue (s : State) (p : Port) : Bool :=
  match (s.port p).silence with
  | some t => decide (s.cmd.params.silenceTimeout * 1000 ≤ elapsed s.timebase t)
  | none => false

/-- SILENCE_TIMER_EXPIRY (R9, R57): the port becomes LOST, STATUS PORT_STATE is offered, the loss is signalled to the
assembler. -/
def silenceTimerExpiry (s : State) (p : Port) : State :=
  if silenceDue s p then
    let s := s.onPort p fun c =>
      { c with
        state := .lost
        silence := none
        counters := { c.counters with silenceExpiries := bump c.counters.silenceExpiries } }
    let s := offerStatus s .portState
    release (s.onAsm (prunePort p))
  else s

/-- SILENCE_TIMER_EXPIRY. -/
def execSilenceTimerExpiry (p : Port) (s : State) : Host.Outcome State Fault Refusal :=
  live s fun s => silenceTimerExpiry s p

/-! ### Slots (R43 to R45) -/

/-- The slot of a port that is next to begin and whose time has come (R43). -/
def slotDue (s : State) (p : Port) : Option (SlotSequence × Slot × List Slot) :=
  match s.seq.slots with
  | some q =>
    match q.current, q.remaining with
    | none, slot :: rest =>
      if slot.port = p ∧ slot.offset ≤ elapsed s.timebase q.trigger then some (q, slot, rest) else none
    | _, _ => none
  | none => none

/-- SLOT_START (R44): strobe line k is asserted and a TRIGGER frame with the scan's number and E_k is requested. -/
def slotStart (s : State) (p : Port) : State :=
  match slotDue s p with
  | some (q, slot, rest) =>
    let s := s.onSeq fun k =>
      { k with slots := some { q with current := some slot, remaining := rest }, lines := k.lines.set p true }
    s.onPort p fun c => c.requestTrigger q.scan slot.exposure
  | none => s

/-- SLOT_START. -/
def execSlotStart (p : Port) (s : State) : Host.Outcome State Fault Refusal := live s fun s => slotStart s p

/-- The slot of a port that is being exposed and whose exposure has elapsed (R44). -/
def exposureDue (s : State) (p : Port) : Option SlotSequence :=
  match s.seq.slots with
  | some q =>
    match q.current with
    | some slot =>
      if slot.port = p ∧ slot.offset + slot.exposure ≤ elapsed s.timebase q.trigger then some q else none
    | none => none
  | none => none

/-- EXPOSURE_END (R44): strobe line k is deasserted; after the last slot the sequence is over. -/
def exposureEnd (s : State) (p : Port) : State :=
  match exposureDue s p with
  | some q =>
    s.onSeq fun k =>
      { k with
        slots := if q.remaining.isEmpty then none else some { q with current := none }
        lines := k.lines.set p false }
  | none => s

/-- EXPOSURE_END. -/
def execExposureEnd (p : Port) (s : State) : Host.Outcome State Fault Refusal := live s fun s => exposureEnd s p

/-! ### Busy window, deadlines, hold age (R39, R59, R32) -/

/-- Whether the busy window has lasted its plan length (R39). -/
def busyDue (s : State) : Bool := s.seq.busy.any fun w => decide (w.length ≤ elapsed s.timebase w.trigger)

/-- BUSY_WINDOW_CLOSE (R39). -/
def busyWindowClose (s : State) : State := if busyDue s then s.onSeq fun q => { q with busy := none } else s

/-- BUSY_WINDOW_CLOSE. -/
def execBusyWindowClose (s : State) : Host.Outcome State Fault Refusal := live s busyWindowClose

/-- Whether a collecting context has reached its deadline: the time since its trigger has reached the assembly timeout
(R50). -/
def deadlineDue (now : Time) (c : ScanContext) : Bool :=
  !c.complete && decide (elapsed c.deadline c.trigger ≤ elapsed now c.trigger)

/-- DEADLINE_REACHED (R59, R60, R61). The completion and the release that follows from it are one step. So a profile that is
taken after the deadline of the oldest context finds the context freed (R61) and is late (R51), where R59, which has it match a
COMPLETE context, says stray; behind an older collecting context it is stray. DESIGN CHOICE, log entry 24. -/
def deadlineReached (s : State) (scan : Word16) : State :=
  if s.asm.contexts.any fun c => c.scan == scan && deadlineDue s.timebase c then
    release
      (s.onAsm fun a => completeWhere (fun c => c.scan == scan) { a with deadlines := bump a.deadlines })
  else s

/-- DEADLINE_REACHED. -/
def execDeadlineReached (scan : Word16) (s : State) : Host.Outcome State Fault Refusal :=
  live s fun s => deadlineReached s scan

/-- Whether the held sample has reached one second and is not marked OLD (R32). -/
def holdDue (s : State) : Bool :=
  s.motion.held.any fun m => !m.old && decide (Config.holdAge ≤ elapsed s.timebase m.arrival)

/-- HOLD_AGE_EXPIRY (R32). -/
def holdAgeExpiry (s : State) : State :=
  if holdDue s then s.onMotion fun m => { m with held := m.held.map fun h => { h with old := true } } else s

/-- HOLD_AGE_EXPIRY. -/
def execHoldAgeExpiry (s : State) : Host.Outcome State Fault Refusal := live s holdAgeExpiry

/-! ### Roof downlinks (R15 to R17) -/

/-- A downlink sends an end delimiter: the frame is counted sent and the next one is started (R15 to R17). -/
def RoofPort.downlinkEnd (c : RoofPort) : RoofPort :=
  match c.tx with
  | .idle => c
  | .trigger _ =>
    { c with
      tx := .idle
      counters := { c.counters with triggersSent := bump c.counters.triggersSent } }.startDownlink
  | .config =>
    { c with
      tx := .idle
      relay := none
      counters := { c.counters with configsSent := bump c.counters.configsSent } }.startDownlink

/-- DOWNLINK_END_DELIMITER. -/
def execDownlinkEndDelimiter (p : Port) (s : State) : Host.Outcome State Fault Refusal :=
  live s fun s => s.onPort p RoofPort.downlinkEnd

/-! ### The events that are due (log entry 1) -/

/-- The port of the slot that is being exposed. -/
def currentSlotPort (q : SlotSequence) : Option Port := q.current.map (·.port)

/-- The exposure end that is due, and the slot start that is due once it is done (R43, R44). -/
def dueSlots (s : State) : List Instr :=
  match s.seq.slots with
  | some q =>
    let ends := (currentSlotPort q).toList.filter fun p => (exposureDue s p).isSome
    let starts :=
      if q.current.isNone || !ends.isEmpty then
        (q.remaining.head?.toList.filter fun slot => decide (slot.offset ≤ elapsed s.timebase q.trigger)).map
          (·.port)
      else []
    ends.map Instr.exposureEnd ++ starts.map Instr.slotStart
  | none => []

/-- The timed events that are due at the present timebase reading, in the order in which an idle step takes them: exposure
end, slot start, busy window, deadlines, silence timers, hold age (DESIGN CHOICE, log entry 1). -/
def dueEvents (s : State) : List Instr :=
  dueSlots s ++
    (if busyDue s then [Instr.busyWindowClose] else []) ++
    (s.asm.contexts.filter (deadlineDue s.timebase)).map (fun c => Instr.deadlineReached c.scan) ++
    (Port.all.filter (silenceDue s)).map Instr.silenceTimerExpiry ++
    (if holdDue s then [Instr.holdAgeExpiry] else [])

/-- What the block does when no command waits: the events that are due join the queue; when none is due, one microsecond
passes (section 0.5, Time; DESIGN CHOICE, log entry 1). -/
def idle (s : State) : State :=
  let due := if s.held then [] else dueEvents s
  if due.isEmpty then s.onTimebase fun t => t + 1 else s.onPending fun _ => due

end Sys2Proof.Machine
end

