-- ==== Sys2Proof/Machine/GeometryUnit.lean ====
section
/-! DEFINITION. The geometry unit (chapter 6): GEOMETRY_SCAN and LOAD_HEAD_CAL. -/

namespace Sys2Proof.Machine

/-! ### Segment filtering (R89 to R91) -/

/-- What the filter makes of a segment: dropped as noise, dropped as out of window, or kept with its span cut to the
window and the CLIPPED mark (R89 to R91). -/
inductive Filtered where
  | noise
  | window
  | kept (colFirst colLast : Nat) (clipped : Bool)
  deriving DecidableEq, Repr

/-- The segment filter: intensity, range window, column window, in this order (R89 to R91). -/
def filterSegment (c : CalSet) (g : Segment) : Filtered :=
  if g.intensity < c.minIntensity then .noise
  else if g.range < c.rangeLo ∨ c.rangeHi < g.range then .window
  else if g.colLast < c.colLo ∨ c.colHi < g.colFirst then .window
  else
    let first := max g.colFirst c.colLo
    let last := min g.colLast c.colHi
    let cut := decide (g.colFirst < c.colLo) || decide (c.colHi < g.colLast)
    .kept first last (cut || first == 0 || last == 2047)

/-! ### Range, lateral position, width (R92 to R95) -/

/-- The range R of a range code (R92). -/
def CalSet.rangeOf (c : CalSet) (code : Nat) : Int := interp c.ranges code 256

/-- The centre lateral position at the reference range, read at half-columns (R93). -/
def CalSet.centreLateral (c : CalSet) (colFirst colLast : Nat) : Int :=
  interp c.columns ((colFirst + colLast + 1 : Nat) : Int) 256

/-- The edge lateral position at the reference range of a column edge (R95). -/
def CalSet.edgeLateral (c : CalSet) (x : Nat) : Int := interp c.columns x 128

/-- The head-frame lateral position y_h (R94). -/
def CalSet.headLateral (c : CalSet) (colFirst colLast : Nat) (range : Int) : Int :=
  roundDiv (c.centreLateral colFirst colLast * range) c.reference

/-- The width of the flat (R95). -/
def CalSet.flatWidth (c : CalSet) (colFirst colLast : Nat) (range : Int) : Int :=
  roundDiv (magnitude (c.edgeLateral (colLast + 1) - c.edgeLateral colFirst) * range) c.reference

/-! ### Car frame and track frame (R96, R97) -/

/-- The track-frame stagger of a car-frame position (R97). -/
def trackStagger (snap : Snapshot) (y z : Int) : Int := y + snap.shift + roundDiv (z * snap.roll) 1000000

/-- The track-frame height of a car-frame position (R97). -/
def trackHeight (snap : Snapshot) (y z : Int) : Int := z + snap.vertical - roundDiv (y * snap.roll) 1000000

/-- The detection of a kept segment (R92 to R99). -/
def detectionOf (c : CalSet) (snap : Snapshot) (d : PortDelivery) (position : Nat) (g : Segment)
    (colFirst colLast : Nat) (clipped : Bool) : Detection :=
  let range := c.rangeOf g.range
  let y := c.mountLateral + c.headLateral colFirst colLast range
  let z := c.mountHeight + range
  { port := d.port
    position := position
    stagger := trackStagger snap y z
    height := trackHeight snap y z
    width := if clipped then none else some (c.flatWidth colFirst colLast range)
    flags := { snap.motion with clipped := clipped, saturated := g.saturated, degradedHead := d.degraded } }

/-- What the unit makes of one segment: its filter outcome, and the detection of a kept one (R88). -/
def measureSegment (c : CalSet) (snap : Snapshot) (d : PortDelivery) (position : Nat) (g : Segment) :
    Option Detection :=
  match filterSegment c g with
  | .kept first last clipped => some (detectionOf c snap d position g first last clipped)
  | _ => none

/-- The detections of one delivery, in segment order (R88). -/
def measureDelivery (cal : Quad CalSlot) (snap : Snapshot) (d : PortDelivery) : List Detection :=
  d.segments.zipIdx.filterMap fun g => measureSegment (cal.get d.port).cal snap d g.2 g.1

/-! ### The raw list (R100) -/

/-- The raw list order: stagger, height, port index, segment position (R100). -/
def detectionBefore (a b : Detection) : Bool :=
  if a.stagger ≠ b.stagger then decide (a.stagger < b.stagger)
  else if a.height ≠ b.height then decide (a.height < b.height)
  else if a.port ≠ b.port then decide (a.port.index < b.port.index)
  else decide (a.position ≤ b.position)

/-- The raw list of a scan's deliveries (R88, R100). -/
def rawDetections (cal : Quad CalSlot) (scan : ReleasedScan) : List Detection :=
  (scan.deliveries.flatMap (measureDelivery cal scan.snapshot)).insertionSort fun a b => detectionBefore a b = true

/-! ### Counters (R103) -/

/-- Whether a segment is kept with the CLIPPED mark (R91). -/
def Filtered.clippedMark : Filtered → Bool
  | .kept _ _ clipped => clipped
  | _ => false

/-- Whether a segment becomes a detection (R99). -/
def Filtered.isKept : Filtered → Bool
  | .kept _ _ _ => true
  | _ => false

/-- A port's geometry counters after one delivery (R89 to R91, R99, R103). -/
def GeoCounters.count (k : GeoCounters) (outcomes : List Filtered) : GeoCounters where
  examined := bumpBy k.examined outcomes.length
  noise := bumpBy k.noise (outcomes.countP (· == .noise))
  window := bumpBy k.window (outcomes.countP (· == .window))
  clipped := bumpBy k.clipped (outcomes.countP Filtered.clippedMark)
  detections := bumpBy k.detections (outcomes.countP Filtered.isKept)

/-- The geometry counters after a scan (R103). -/
def Geometry.countScan (g : Geometry) (scan : ReleasedScan) (raw : List Detection) : Geometry :=
  { g with
    ports :=
      scan.deliveries.foldl
        (fun q d => q.modify d.port fun k => k.count (d.segments.map (filterSegment (g.cal.get d.port).cal)))
        g.ports
    without := if raw.isEmpty then bump g.without else g.without }

/-! ### GEOMETRY_SCAN -/

/-- The items that travel with a scan's lists (R88). -/
def ResolvedScan.header (r : ResolvedScan) : ScanHeader where
  scan := r.scan.scan
  distance := r.scan.snapshot.distance
  sense := r.scan.snapshot.sense
  epoch := r.scan.snapshot.epoch
  missing := r.scan.missing
  context := r.context

/-- The geometry unit takes a resolved scan and hands on its raw list (R88, R100). -/
def measureScan (s : State) (r : ResolvedScan) : State :=
  let raw := rawDetections s.geo.cal r.scan
  let s := s.onGeo fun g => g.countScan r.scan raw
  s.onPaths fun p => { p with toMerge := p.toMerge ++ [⟨r.header, raw⟩] }

/-- GEOMETRY_SCAN: the oldest resolved scan is taken. With none waiting there is no event (log entry 12). -/
def geometryScan (s : State) : State :=
  match s.paths.toGeo with
  | r :: rest => measureScan (s.onPaths fun p => { p with toGeo := rest }) r
  | [] => s

/-- GEOMETRY_SCAN. -/
def execGeometryScan (s : State) : Host.Outcome State Fault Refusal := live s geometryScan

/-! ### LOAD_HEAD_CAL (R85, R86) -/

/-- A set that passes replaces the port's set whole, is marked loaded, and sets the expected head id (R86, R10). -/
def storeCal (s : State) (p : Port) (c : CalSet) : State :=
  (s.onGeo fun g => { g with cal := g.cal.set p ⟨true, c⟩ }).onPort p fun k => { k with headId := c.headId }

/-- LOAD_HEAD_CAL's own checks and effects (R85, R86). -/
def loadHeadCal (args : List Byte) (s : State) : State × Reply :=
  let port := (byteAt args 0).toNat
  let c := calSet args
  match firstFailing (calChecks port c) with
  | some i => (s, { result := .badArgument, detail := i })
  | none =>
    match Port.ofIndex port with
    | some p => (storeCal s p c, { result := .done, data := byte port ++ [c.headId] })
    | none => (s, { result := .badArgument })

/-- LOAD_HEAD_CAL. -/
def execLoadHeadCal (address tag : Byte) (args : List Byte) (s : State) : Host.Outcome State Fault Refusal :=
  live s fun s => command s address 0x11 tag args (args.length == 161) standbyOnly (loadHeadCal args)

end Sys2Proof.Machine
end

