-- ==== Sys2Proof/Machine/MergeUnit.lean ====
section
/-! DEFINITION. The merge and wear unit (chapter 7): RAW_LIST_ARRIVAL and LOAD_WIRE_TYPE. -/

namespace Sys2Proof.Machine

/-! ### Clustering (R106) -/

/-- A detection joins the open cluster: its port is not yet in it, and it lies within both tolerances of the anchor
(R106). -/
def joinsCluster (lateral height : Int) (anchor : Detection) (members : List Detection) (d : Detection) : Bool :=
  !(members.any fun m => m.port == d.port) && decide (magnitude (d.stagger - anchor.stagger) ≤ lateral) &&
    decide (magnitude (d.height - anchor.height) ≤ height)

/-- The clusterer with an open cluster, its anchor and its members in raw list order (R106). -/
def clusterFrom (lateral height : Int) (anchor : Detection) (members : List Detection) :
    List Detection → List (List Detection)
  | [] => [members]
  | d :: ds =>
    if joinsCluster lateral height anchor members d then clusterFrom lateral height anchor (members ++ [d]) ds
    else members :: clusterFrom lateral height d [d] ds

/-- The clusters of a raw list, in the order they close (R106). -/
def clusters (lateral height : Int) : List Detection → List (List Detection)
  | [] => []
  | d :: ds => clusterFrom lateral height d [d] ds

/-! ### Merged values (R108 to R110) -/

/-- The merge weight of a detection's head (R84, R108). -/
def weightOf (cal : Quad CalSlot) (d : Detection) : Int := (cal.get d.port).cal.weight

/-- The priority of a detection's head (R84, R110). -/
def priorityOf (cal : Quad CalSlot) (d : Detection) : Nat := (cal.get d.port).cal.priority

/-- The weighted mean of a value over a cluster's members (R108). -/
def mergedValue (cal : Quad CalSlot) (value : Detection → Int) (members : List Detection) : Int :=
  roundDiv (members.map fun d => weightOf cal d * value d).sum (members.map (weightOf cal)).sum

/-- The better of two wear sources: the lower priority value, the earlier member if they are equal (R110). -/
def betterSource (cal : Quad CalSlot) (best : Option Detection) (d : Detection) : Option Detection :=
  match best with
  | none => some d
  | some b => if priorityOf cal d < priorityOf cal b then some d else some b

/-- The wear source of a cluster: among the members that carry a width, the one of best priority (R110). -/
def wearSource (cal : Quad CalSlot) (members : List Detection) : Option Detection :=
  (members.filter fun d => d.width.isSome).foldl (betterSource cal) none

/-- A merged detection before its thickness is computed: stagger, height, flags, and the wear source (R108 to R110). -/
structure MergedCluster where
  stagger : Int
  height  : Int
  flags   : Flags
  source  : Option Detection
  deriving DecidableEq, Repr

/-- A cluster's merged values (R108 to R110). -/
def mergeCluster (cal : Quad CalSlot) (members : List Detection) : MergedCluster where
  stagger := mergedValue cal (·.stagger) members
  height := mergedValue cal (·.height) members
  flags := members.foldl (fun f d => f.union d.flags) {}
  source := wearSource cal members

/-! ### The cluster limit (R111) -/

/-- Whether a cluster ranks before another: nearer the centreline, or equally near and earlier (R111). -/
def ranksBefore (a b : MergedCluster × Nat) : Bool :=
  if magnitude a.1.stagger ≠ magnitude b.1.stagger then decide (magnitude a.1.stagger < magnitude b.1.stagger) else decide (a.2 < b.2)

/-- The 16 clusters nearest the centreline, in cluster order (R111). -/
def limitClusters (cs : List MergedCluster) : List MergedCluster :=
  let numbered := cs.zipIdx
  (numbered.filter fun c => decide (numbered.countP (fun o => ranksBefore o c) < Config.clusterLimit)).map (·.1)

/-! ### Remaining thickness (R115 to R118) -/

/-- Whether a width lies beyond the slot's table (R117). -/
def WireSlot.beyond (w : WireSlot) (width : Int) : Bool := decide (32 * w.step < width)

/-- The remaining thickness of a width (R116 to R118). -/
def WireSlot.thickness (w : WireSlot) (width : Int) : Int :=
  clamp 0 w.nominal (if w.beyond width then w.table.getD 32 0 else interp w.table width w.step)

/-- The wire type slot of a number (R115). -/
def MergeWear.slot (m : MergeWear) (n : Nat) : WireSlot := m.slots.getD n WireSlot.unloaded

/-- A kept cluster as it is handed on (R119). BEYOND_TABLE is added here and is never inherited from a member (R109, R117). -/
def finishCluster (w : WireSlot) (index : Nat) (c : MergedCluster) : Merged :=
  let width := c.source.bind (·.width)
  { index := index
    stagger := c.stagger
    height := c.height
    thickness := width.map w.thickness
    source := c.source.map (·.port)
    flags := { c.flags with beyondTable := width.any w.beyond } }

/-- What a raw list gives: the clusters formed, and the cluster list (R104). -/
structure MergeResult where
  formed : List (List Detection)
  items  : List Merged
  deriving DecidableEq, Repr

/-- Clustering, merging, the limit and thickness of one raw list (R104). -/
def mergeDetections (cal : Quad CalSlot) (params : RunParams) (w : WireSlot) (raw : List Detection) : MergeResult :=
  let formed := clusters params.mergeLateral params.mergeHeight raw
  let kept := limitClusters (formed.map (mergeCluster cal))
  { formed := formed
    items := kept.zipIdx.map fun c => finishCluster w c.2 c.1 }

/-! ### Counters (R121) -/

/-- The merge counters after a scan (R121). -/
def MergeWear.countScan (m : MergeWear) (r : MergeResult) : MergeWear :=
  { m with
    counters :=
      { formed := bumpBy m.counters.formed r.formed.length
        merged := bumpBy m.counters.merged (r.formed.countP fun c => decide (2 ≤ c.length))
        dropped := bumpBy m.counters.dropped (r.formed.length - r.items.length)
        handedOn := bumpBy m.counters.handedOn r.items.length
        wearSamples := bumpBy m.counters.wearSamples (r.items.countP fun i => i.thickness.isSome)
        withoutWear := bumpBy m.counters.withoutWear (r.items.countP fun i => !i.thickness.isSome)
        beyondTable := bumpBy m.counters.beyondTable (r.items.countP fun i => i.flags.beyondTable) }
    sources := Quad.ofFn fun p => bumpBy (m.sources.get p) (r.items.countP fun i => i.source == some p) }

/-! ### RAW_LIST_ARRIVAL -/

/-- The merge and wear unit takes a raw list and hands on its cluster list (R104, R119). -/
def mergeList (s : State) (l : RawList) : State :=
  let r := mergeDetections s.geo.cal s.cmd.params (s.merge.slot l.header.context.wireType) l.detections
  let s := s.onMerge fun m => m.countScan r
  s.onPaths fun p => { p with toTrack := p.toTrack ++ [⟨l.header, r.items⟩] }

/-- RAW_LIST_ARRIVAL: the oldest raw list is taken. With none waiting there is no event (log entry 12). -/
def rawListArrival (s : State) : State :=
  match s.paths.toMerge with
  | l :: rest => mergeList (s.onPaths fun p => { p with toMerge := rest }) l
  | [] => s

/-- RAW_LIST_ARRIVAL. -/
def execRawListArrival (s : State) : Host.Outcome State Fault Refusal := live s rawListArrival

/-! ### LOAD_WIRE_TYPE (R113, R114) -/

/-- LOAD_WIRE_TYPE's own checks and effects (R113, R114). -/
def loadWireType (args : List Byte) (s : State) : State × Reply :=
  let slot := (byteAt args 0).toNat
  let w := wireTypeArg args
  match firstFailing (wireTypeChecks slot w) with
  | some i => (s, { result := .badArgument, detail := i })
  | none => (s.onMerge fun m => { m with slots := m.slots.set slot w }, { result := .done, data := byte slot })

/-- LOAD_WIRE_TYPE. -/
def execLoadWireType (address tag : Byte) (args : List Byte) (s : State) : Host.Outcome State Fault Refusal :=
  live s fun s => command s address 0x12 tag args (args.length == 141) standbyOnly (loadWireType args)

end Sys2Proof.Machine
end

