-- ==== Sys2Proof/Machine/Receive.lean ====
section
/-! DEFINITION. Frames that close at the roof ports and the motion port: PROFILE_FRAME, HEAD_REPLY_FRAME, MOTION_FRAME and
FRAME_FAILED (sections 1.2 to 1.5, 1.7, 2.2). -/

namespace Sys2Proof.Machine

/-- A good frame of a roof port acts on its port state and silence timer (R8). A change of state offers STATUS PORT_STATE
(R5). -/
def goodFrame (s : State) (p : Port) : State :=
  match (s.port p).state with
  | .disabled => s
  | .idle => s
  | .active => s.onPort p fun c => { c with silence := some s.timebase }
  | _ => offerStatus (s.onPort p fun c => { c with state := .active, silence := some s.timebase }) .portState

/-- The verdict comes back to the port and is counted (R13). -/
def PortCounters.countVerdict (c : PortCounters) : Verdict → PortCounters
  | .accepted => { c with accepted := bump c.accepted }
  | .duplicate => { c with duplicate := bump c.duplicate }
  | .late => { c with late := bump c.late }
  | .stray => { c with stray := bump c.stray }

/-- An accepted verdict advances the forward count, and at the divider the copy of the frame is offered to the raw queue
(R18). -/
def forward (s : State) (p : Port) (f : Frame) : State :=
  let n := s.cmd.params.forward.get p
  if n = 0 then s
  else if (s.port p).forwardCount + 1 = n then
    offerRaw
      (s.onPort p fun c =>
        { c with
          forwardCount := 0
          counters := { c.counters with framesForwarded := bump c.counters.framesForwarded } })
      f
  else s.onPort p fun c => { c with forwardCount := c.forwardCount + 1 }

/-- The profile that the filter hands on: the good segments in their order (R11, R12). -/
def filteredProfile (p : Port) (payload : List Byte) : Profile where
  port := p
  scan := profileScan payload
  condition := HeadCondition.ofCode (profileConditionCode payload)
  segments := (profileSegments payload).filter fun g => !g.bad

/-- The filter's counters: one bad segment for each segment left out, one bad condition for an undefined code (R12). -/
def PortCounters.countFilter (c : PortCounters) (payload : List Byte) : PortCounters :=
  { c with
    badSegments := bumpBy c.badSegments ((profileSegments payload).countP Segment.bad)
    badCondition := if profileConditionCode payload > 2 then bump c.badCondition else c.badCondition }

/-- The assembler judges a profile, takes it if it is accepted, and releases what that completes (R51 to R55, R61). -/
def assemble (s : State) (v : Verdict) (prof : Profile) : State :=
  match v with
  | .accepted => release (s.onAsm (acceptProfile prof))
  | _ => s

/-- A good PROFILE frame at a port that is neither DISABLED nor IDLE (R11 to R13, R18). -/
def handProfile (s : State) (p : Port) (f : Frame) : State :=
  let s := s.countPort p fun c => c.countFilter f.payload
  let prof := filteredProfile p f.payload
  let v := classify s.asm.contexts s.seq.scanCounter p prof.scan
  let s := assemble s v prof
  let s := s.countPort p fun c => c.countVerdict v
  if v = .accepted then forward s p f else s

/-- A good PROFILE frame, after R8 (R11). -/
def takeProfile (s : State) (p : Port) (f : Frame) : State :=
  let s := s.countPort p fun c => { c with goodProfiles := bump c.goodProfiles }
  match (s.port p).state with
  | .disabled => s.countPort p fun c => { c with disabledDiscards := bump c.disabledDiscards }
  | .idle => s.countPort p fun c => { c with idleDiscards := bump c.idleDiscards }
  | _ => handProfile s p f

/-- PROFILE_FRAME (R3, R4, R8, R11). A frame that fails a check is counted under it and has no further effect. -/
def profileFrame (s : State) (p : Port) (address : Byte) (payload : List Byte) : State :=
  let f : Frame := ⟨kindProfile, address, payload⟩
  let s := settle s (.roof p) f
  let x := checkIntact (s.portRule (.roof p)) f
  let s := s.countRx (.roof p) x
  match x with
  | .failed _ => s
  | .good f => takeProfile (goodFrame s p) p f

/-- PROFILE_FRAME. -/
def execProfileFrame (p : Port) (address : Byte) (payload : List Byte) (s : State) :
    Host.Outcome State Fault Refusal :=
  live s fun s => profileFrame s p address payload

/-- A good HEAD_REPLY frame, after R8 (R14). -/
def relayReply (s : State) (p : Port) (f : Frame) : State :=
  match (s.port p).state with
  | .disabled => s.countPort p fun c => { c with disabledReplyDiscards := bump c.disabledReplyDiscards }
  | _ => offerB (s.countPort p fun c => { c with relayedReplies := bump c.relayedReplies }) f

/-- HEAD_REPLY_FRAME (R3, R4, R8, R14). -/
def headReplyFrame (s : State) (p : Port) (address : Byte) (payload : List Byte) : State :=
  let f : Frame := ⟨kindHeadReply, address, payload⟩
  let s := settle s (.roof p) f
  let x := checkIntact (s.portRule (.roof p)) f
  let s := s.countRx (.roof p) x
  match x with
  | .failed _ => s
  | .good f => relayReply (goodFrame s p) p f

/-- HEAD_REPLY_FRAME. -/
def execHeadReplyFrame (p : Port) (address : Byte) (payload : List Byte) (s : State) :
    Host.Outcome State Fault Refusal :=
  live s fun s => headReplyFrame s p address payload

/-- The sample that a MOTION payload gives: each value limited to its entry range, CLAMPED if one was replaced (R31). -/
def clampedSample (v : MotionValues) (now : Time) : MotionSample :=
  let roll := clamp (-50000) 50000 v.roll
  let shift := clamp (-500000) 500000 v.shift
  let vertical := clamp 0 8000000 v.vertical
  { roll := roll
    shift := shift
    vertical := vertical
    degraded := v.quality == 1
    clamped := roll != v.roll || shift != v.shift || vertical != v.vertical
    old := false
    arrival := now }

/-- The sample decoder and the motion hold (R30, R31). Quality 0 is GOOD, 1 DEGRADED, any other code INVALID. -/
def MotionPort.take (m : MotionPort) (v : MotionValues) (now : Time) : MotionPort :=
  if v.quality ≤ 1 then
    let sample := clampedSample v now
    { m with
      held := some sample
      sinceStart := true
      counters :=
        { m.counters with
          taken := bump m.counters.taken
          clamped := if sample.clamped then bump m.counters.clamped else m.counters.clamped
          degraded := if sample.degraded then bump m.counters.degraded else m.counters.degraded } }
  else { m with counters := { m.counters with invalid := bump m.counters.invalid } }

/-- MOTION_FRAME (R3, R4, R30, R31). -/
def motionFrame (s : State) (address : Byte) (payload : List Byte) : State :=
  let s := settle s .motion ⟨kindMotion, address, payload⟩
  let x := checkIntact (s.portRule .motion) ⟨kindMotion, address, payload⟩
  let s := s.countRx .motion x
  match x with
  | .failed _ => s
  | .good f => s.onMotion fun m => m.take (motionValues f.payload) s.timebase

/-- MOTION_FRAME. -/
def execMotionFrame (address : Byte) (payload : List Byte) (s : State) : Host.Outcome State Fault Refusal :=
  live s fun s => motionFrame s address payload

/-- The open frame of a receiver, or one that a start delimiter has just opened, with a reception's bytes (R2). -/
def State.received (s : State) (r : Receiver) (rx : Reception) : OpenFrame :=
  ((s.openFrame r).getD {}).feed rx.violation rx.bytes

/-- FRAME_FAILED (R2 to R4). Bytes of a frame that stays open are stored. A start delimiter closes the frame as a framing
failure and opens a new one. An end delimiter closes it, and it is counted under the first check it fails and discarded; a
frame that passes every check belongs to another row, and this one leaves the state as it is (log entry 12). -/
def frameFailed (s : State) (r : Receiver) (rx : Reception) : State :=
  let w := s.received r rx
  match rx.ending with
  | .stillOpen => s.withOpenFrame r (some w)
  | .startDelimiter => (s.withOpenFrame r (some {})).countRx r (checkClosed (s.portRule r) w true)
  | .endDelimiter =>
    match checkClosed (s.portRule r) w false with
    | .good _ => s
    | .failed c => (s.withOpenFrame r none).countRx r (.failed c)

/-- FRAME_FAILED. -/
def execFrameFailed (r : Receiver) (rx : Reception) (s : State) : Host.Outcome State Fault Refusal :=
  live s fun s => frameFailed s r rx

end Sys2Proof.Machine
end

