-- ==== Sys2Proof/Machine/Resets.lean ====
section
/-! DEFINITION. Resets (section 11.5): the reset values of every block, HARD_RESET, HARD_RESET_END and RESET. -/

namespace Sys2Proof.Machine

/-! ### Hard reset (R182) -/

/-- A roof port after a hard reset (R5, R10, R17). -/
def hardPort (present : PortSet) (p : Port) : RoofPort where
  state := if present.get p then .idle else .disabled
  headId := BitVec.ofNat 8 p.index

/-- Every block at its hard reset values, with the straps and the levels of ODA and ODB taken (R182). The trunk link's
indication and the queue of waiting commands are outside the reset. -/
def hardValues (s : State) (staddr : BitVec 4) (present : PortSet) (oda odb : Bool) : State where
  timebase := 0
  held := false
  roof := { enabled := present, ports := Quad.ofFn (hardPort present) }
  motion := {}
  odo := { oda := oda, odb := odb }
  seq := {}
  asm := {}
  paths := {}
  zones := {}
  geo := {}
  merge := {}
  tracks := {}
  span := {}
  out := { linkUp := s.out.linkUp }
  cmd := { station := staddr, present := present }
  pending := s.pending

/-- HARD_RESET (R182): the line is asserted. Frames being sent are cut off, the strobe lines are deasserted, and the part
receives and sends nothing until the line is released. The straps stay as they were latched until then. -/
def execHardReset (s : State) : Host.Outcome State Fault Refusal :=
  .next ((hardValues s s.cmd.station s.cmd.present s.odo.oda s.odo.odb).onHeld fun _ => true)

/-- HARD_RESET_END (R182): the straps are latched, every block takes its hard reset values, the timebase starts at 0, and
STATUS OPERATING_STATE is offered as the first record. -/
def execHardResetEnd (staddr : BitVec 4) (present : PortSet) (oda odb : Bool) (s : State) :
    Host.Outcome State Fault Refusal :=
  .next (offerStatus (hardValues s staddr present oda odb) .operatingState)

/-! ### Soft reset (R183) -/

/-- A roof port after a soft reset: the expected head id is kept (R5, R10, R17, R18). -/
def softPort (enabled : PortSet) (p : Port) (c : RoofPort) : RoofPort where
  state := if enabled.get p then .idle else .disabled
  headId := c.headId

/-- The scans aborted counter after a soft reset keeps its value and adds the contexts aborted (R183). For this one counter R64
and R65 say 0 after a soft reset: DEDUCED, log entry 7. -/
def Assembler.softAborted (a : Assembler) : Counter := bumpBy a.aborted a.contexts.length

/-- Every block at its soft reset values (R183). Kept: the strap latch, calibration sets, wire types, run parameters, the
enabled head mask, the active plan and the track id counter; the reference pair is the levels on the lines. Every context is
freed, and every counter returns to 0 but for the scans aborted counter (log entry 7). Open frames are discarded (R2). -/
def softReset (s : State) : State where
  timebase := 0
  held := s.held
  roof :=
    { enabled := s.roof.enabled
      ports := Quad.ofFn fun p => softPort s.roof.enabled p (s.port p) }
  motion := {}
  odo := { oda := s.odo.oda, odb := s.odo.odb }
  seq := { active := s.seq.active }
  asm := { aborted := s.asm.softAborted }
  paths := {}
  zones := {}
  geo := { cal := s.geo.cal }
  merge := { slots := s.merge.slots }
  tracks := { nextId := s.tracks.nextId }
  span := {}
  out := { linkUp := s.out.linkUp }
  cmd := { station := s.cmd.station, present := s.cmd.present, params := s.cmd.params }
  pending := s.pending

/-- RESET's effects once taken and of the right length (R183): the soft reset, the DONE reply as the first entry of the
emptied record queue, and a STATUS record if the state was not STANDBY. -/
def resetCommand (s : State) (tag : Byte) : State :=
  let t :=
    queueReply (softReset s) 0x4F tag
      { result := .done, data := byte s.asm.contexts.length ++ byte s.cmd.op.code }
  if s.cmd.op = .standby then t else offerStatus t .operatingState

/-- RESET (R174, R183). -/
def execReset (address tag : Byte) (args : List Byte) (s : State) : Host.Outcome State Fault Refusal :=
  live s fun s =>
    takeCommand s address 0x4F tag args fun s =>
      if args.isEmpty then resetCommand s tag else queueReply s 0x4F tag { result := .badLength }

end Sys2Proof.Machine
end

