-- ==== Sys2Proof/Machine/TrackUnit.lean ====
section
/-! DEFINITION. The track table unit (chapter 8): CLUSTER_LIST_ARRIVAL and DRAIN_CLOSE_REQUEST. -/

namespace Sys2Proof.Machine

/-! ### Prediction and association (R127 to R129) -/

/-- The predicted stagger of a track for a scan (R127). -/
def Track.predict (t : Track) (d : Int) (e : Byte) : Int :=
  if e = t.lastEpoch then t.stagger + roundDiv (t.slope * (d - t.lastHit)) 1000 else t.stagger

/-- A candidate pair of a live track and a detection (R128). -/
structure Candidate where
  distance : Int
  slot     : Nat
  index    : Nat
  deriving DecidableEq, Repr

/-- The order in which candidates are taken: lateral distance, slot number, cluster index (R129). -/
def candidateBefore (a b : Candidate) : Bool :=
  if a.distance ≠ b.distance then decide (a.distance < b.distance)
  else if a.slot ≠ b.slot then decide (a.slot < b.slot)
  else decide (a.index ≤ b.index)

/-- The candidate of a track and a detection, if the detection lies inside both gates (R128). -/
def candidateOf (params : RunParams) (h : ScanHeader) (slot : Nat) (t : Track) (m : Merged) : Option Candidate :=
  let lateral := magnitude (m.stagger - t.predict h.distance h.epoch)
  if lateral ≤ params.lateralGate ∧ magnitude (m.height - t.height) ≤ params.heightGate then
    some ⟨lateral, slot, m.index⟩
  else none

/-- The candidates of one slot. -/
def slotCandidates (params : RunParams) (h : ScanHeader) (items : List Merged) (slot : Option Track × Nat) :
    List Candidate :=
  match slot.1 with
  | some t => items.filterMap (candidateOf params h slot.2 t)
  | none => []

/-- All candidates of a scan, in the order they are taken (R128, R129). -/
def candidates (params : RunParams) (h : ScanHeader) (slots : List (Option Track)) (items : List Merged) :
    List Candidate :=
  (slots.zipIdx.flatMap (slotCandidates params h items)).insertionSort fun a b => candidateBefore a b = true

/-- One candidate is assigned if neither its track nor its detection has been assigned (R129). -/
def assignOne (done : List Candidate) (c : Candidate) : List Candidate :=
  if done.any fun k => k.slot == c.slot || k.index == c.index then done else done ++ [c]

/-- The greedy assignment (R129). -/
def assign (cs : List Candidate) : List Candidate := cs.foldl assignOne []

/-! ### Hits and misses (R130 to R133) -/

/-- The raw slope between two hits (R131). -/
def rawSlope (ds dd : Int) : Int :=
  if 0 < dd then roundDiv (ds * 1000) dd else roundDiv (-(ds * 1000)) (-dd)

/-- The slope before its limits, where it is updated at all (R131). -/
def Track.nextSlope (t : Track) (h : ScanHeader) (stagger : Int) : Option Int :=
  if h.epoch = t.lastEpoch ∧ h.distance ≠ t.lastHit then
    some (t.slope + roundDiv (rawSlope (stagger - t.stagger) (h.distance - t.lastHit) - t.slope) 4)
  else none

/-- The slope after a hit, limited to ±100,000 µm/m (R131). -/
def Track.hitSlope (t : Track) (h : ScanHeader) (stagger : Int) : Int :=
  ((t.nextSlope h stagger).map (clamp (-100000) 100000)).getD t.slope

/-- Whether a slope update reaches beyond a limit (R131). -/
def Track.slopeClamped (t : Track) (h : ScanHeader) (stagger : Int) : Bool :=
  (t.nextSlope h stagger).any fun k => clamp (-100000) 100000 k != k

/-- The lesser of a minimum held and a new value; an equal value leaves the earlier one in place (R130, R147). -/
def lesserThickness (held : Option MinThickness) (value : Option Int) (d : Int) : Option MinThickness :=
  match held, value with
  | some k, some v => if v < k.value then some ⟨v, d⟩ else some k
  | none, some v => some ⟨v, d⟩
  | k, none => k

/-- The state after a hit (R132). -/
def stateAfterHit (before : TrackState) (hits : Counter) (confirmHits : Nat) : TrackState :=
  match before with
  | .tentative => if hits.toNat = confirmHits then .confirmed else .tentative
  | _ => .confirmed

/-- A track with a hit (R130 to R132). -/
def Track.hit (t : Track) (h : ScanHeader) (confirmHits : Nat) (m : Merged) : Track :=
  { t with
    state := stateAfterHit t.state (bump t.hits) confirmHits
    stagger := m.stagger
    height := m.height
    slope := t.hitSlope h m.stagger
    lastHit := h.distance
    lastEpoch := h.epoch
    hits := bump t.hits
    misses := 0
    thickness := lesserThickness t.thickness m.thickness h.distance }

/-- What an ended track hands on (R136). -/
def Track.ended (t : Track) (reason : EndReason) (endedAt : Int) : EndedTrack :=
  ⟨t.id, reason, t.birth, t.lastHit, endedAt, t.hits, t.thickness⟩

/-- A coasting track after one more miss (R133). -/
def Track.coast (t : Track) : Track :=
  { t with
    state := .coasting
    misses := if t.state = .coasting then t.misses + 1 else 1 }

/-- A slot after hits and misses, with its entries of the track list (R130 to R133, R136). -/
structure SlotWork where
  track   : Option Track
  entries : List TrackEntry
  deriving DecidableEq, Repr

/-- The entry of a track after a hit: newly confirmed, continuing, or none while TENTATIVE (R132, R136). -/
def hitEntry (before : TrackState) (t : Track) (m : Merged) : List TrackEntry :=
  match before, t.state with
  | .tentative, .confirmed => [.confirmed t.id m]
  | .tentative, _ => []
  | _, state => [.continuing t.id state (some m)]

/-- A live track with a hit (R130 to R132, R136). -/
def workHit (h : ScanHeader) (params : RunParams) (t : Track) (m : Merged) : SlotWork :=
  let k := t.hit h params.confirmHits m
  ⟨some k, hitEntry t.state k m⟩

/-- A live track with a miss (R133, R136). -/
def workMiss (h : ScanHeader) (params : RunParams) (t : Track) : SlotWork :=
  match t.state with
  | .tentative => ⟨none, []⟩
  | _ =>
    let k := t.coast
    if k.misses = params.missLimit then ⟨none, [.ended (k.ended .misses h.distance)]⟩
    else ⟨some k, [.continuing k.id k.state none]⟩

/-- The detection assigned to a slot (R129). -/
def assignedTo (done : List Candidate) (items : List Merged) (slot : Nat) : Option Merged :=
  (done.find? fun c => c.slot == slot).bind fun c => items.find? fun m => m.index == c.index

/-- A slot's work on a scan: a hit, a miss, or nothing if it is FREE (R126). -/
def workSlot (h : ScanHeader) (params : RunParams) (done : List Candidate) (items : List Merged)
    (slot : Option Track × Nat) : SlotWork :=
  match slot.1 with
  | none => ⟨none, []⟩
  | some t =>
    match assignedTo done items slot.2 with
    | some m => workHit h params t m
    | none => workMiss h params t

/-- The detections left unassigned, in ascending cluster index (R129). -/
def unassigned (done : List Candidate) (items : List Merged) : List Merged :=
  items.filter fun m => !(done.any fun c => c.index == m.index)

/-! ### Births (R124, R134, R135) -/

/-- The value after a track id, wrapping from 65,535 to 1 (R124). -/
def idAfter (id : Nat) : Nat := if id = 65535 then 1 else id + 1

/-- The first value from the counter on that no live track holds (R124). At most six are passed over. -/
def freeId (live : List Nat) : Nat → Nat → Nat
  | 0, id => id
  | fuel + 1, id => if live.contains id then freeId live fuel (idAfter id) else id

/-- The ids of the live tracks of some slots. -/
def liveIds (slots : List SlotWork) : List Nat := slots.filterMap fun w => w.track.map (·.id)

/-- A track born of a detection (R134). -/
def newTrack (id : Nat) (h : ScanHeader) (confirmHits : Nat) (m : Merged) : Track where
  id := id
  state := if confirmHits = 1 then .confirmed else .tentative
  stagger := m.stagger
  height := m.height
  slope := 0
  lastHit := h.distance
  lastEpoch := h.epoch
  hits := 1
  misses := 0
  birth := h.distance
  thickness := lesserThickness none m.thickness h.distance

/-- A track placed in the lowest-numbered FREE slot; none if there is none (R134). -/
def placeTrack (t : Track) (m : Merged) : List SlotWork → Option (List SlotWork)
  | [] => none
  | w :: ws =>
    match w.track with
    | none =>
      some (⟨some t, w.entries ++ (if t.state = .confirmed then [.confirmed t.id m] else [])⟩ :: ws)
    | some _ => (placeTrack t m ws).map (w :: ·)

/-- The slots, the id counter, and what the births have made so far (R134, R135). -/
structure BirthWork where
  slots    : List SlotWork
  nextId   : Nat
  births   : Nat
  discards : Nat
  deriving DecidableEq, Repr

/-- One unassigned detection opens a track, or is discarded if no slot is FREE (R134, R135). -/
def bear (h : ScanHeader) (confirmHits : Nat) (b : BirthWork) (m : Merged) : BirthWork :=
  let id := freeId (liveIds b.slots) 7 b.nextId
  match placeTrack (newTrack id h confirmHits m) m b.slots with
  | some slots => { b with slots := slots, nextId := idAfter id, births := b.births + 1 }
  | none => { b with discards := b.discards + 1 }

/-! ### The whole of a scan (R126, R136, R137) -/

/-- What a cluster list does: the slots after hits and misses, then after the births (R126). -/
def trackWork (t : TrackTable) (params : RunParams) (l : ClusterList) : BirthWork :=
  let done := assign (candidates params l.header t.slots l.items)
  let works := t.slots.zipIdx.map (workSlot l.header params done l.items)
  (unassigned done l.items).foldl (bear l.header params.confirmHits) ⟨works, t.nextId, 0, 0⟩

/-- Whether an entry is a CONFIRMED track with a hit in this scan (R137). -/
def TrackEntry.countsAsHit : TrackEntry → Bool
  | .continuing _ state hit => hit.isSome && state == .confirmed
  | .confirmed _ _ => true
  | .ended _ => false

/-- The track list of a scan (R136, R137). -/
def trackListOf (l : ClusterList) (w : BirthWork) : TrackList :=
  let entries := w.slots.flatMap (·.entries)
  { header := l.header
    entries := entries
    tableFull := decide (0 < w.discards)
    confirmedHits := entries.countP TrackEntry.countsAsHit }

/-- A live track before the scan with the hit or miss it took. -/
def slotHits (t : TrackTable) (done : List Candidate) (items : List Merged) : List (Track × Option Merged) :=
  t.slots.zipIdx.filterMap fun s => s.1.map fun k => (k, assignedTo done items s.2)

/-- Whether a hit or miss is a given change of a TENTATIVE, CONFIRMED or COASTING track. -/
def isHitOf (state : TrackState) (k : Track × Option Merged) : Bool := k.1.state == state && k.2.isSome

/-- Whether a live track of a state took a miss. -/
def isMissOf (state : TrackState) (k : Track × Option Merged) : Bool := k.1.state == state && k.2.isNone

/-- Whether a TENTATIVE track was confirmed by its hit (R132). -/
def confirmsNow (confirmHits : Nat) (k : Track × Option Merged) : Bool :=
  isHitOf .tentative k && decide ((bump k.1.hits).toNat = confirmHits)

/-- Whether a track ended by misses (R133). -/
def endsNow (missLimit : Nat) (k : Track × Option Merged) : Bool :=
  k.1.state != .tentative && k.2.isNone && decide (k.1.coast.misses = missLimit)

/-- The track counters after a scan (R140). -/
def TrackCounters.countScan (c : TrackCounters) (params : RunParams) (l : ClusterList)
    (hits : List (Track × Option Merged)) (w : BirthWork) : TrackCounters :=
  { c with
    received := bumpBy c.received l.items.length
    hits := bumpBy c.hits (hits.countP fun k => k.2.isSome)
    births := bumpBy c.births w.births
    fullDiscards := bumpBy c.fullDiscards w.discards
    confirmations :=
      bumpBy c.confirmations
        (hits.countP (confirmsNow params.confirmHits) + if params.confirmHits = 1 then w.births else 0)
    dropped := bumpBy c.dropped (hits.countP (isMissOf .tentative))
    coasting := bumpBy c.coasting (hits.countP (isMissOf .confirmed))
    recoveries := bumpBy c.recoveries (hits.countP (isHitOf .coasting))
    endsMisses := bumpBy c.endsMisses (hits.countP (endsNow params.missLimit))
    slopeClamps :=
      bumpBy c.slopeClamps (hits.countP fun k => k.2.any fun m => k.1.slopeClamped l.header m.stagger) }

/-- The track table after a scan (R122, R124, R125, R140). -/
def TrackTable.afterScan (t : TrackTable) (params : RunParams) (l : ClusterList) (w : BirthWork) : TrackTable where
  slots := w.slots.map (·.track)
  nextId := w.nextId
  last := some ⟨l.header.distance, l.header.sense, l.header.epoch⟩
  counters :=
    t.counters.countScan params l
      (slotHits t (assign (candidates params l.header t.slots l.items)) l.items) w

/-- The track table unit takes a cluster list and hands on its track list; the tally drops and drain control tests it
(R126, R137, R172, R181). -/
def trackScan (s : State) (l : ClusterList) : State :=
  let w := trackWork s.tracks s.cmd.params l
  let s := s.onTracks fun t => t.afterScan s.cmd.params l w
  let s := s.onPaths fun p => { p with toSpan := p.toSpan ++ [.tracks (trackListOf l w)] }
  testTally (s.onCmd fun c => { c with tally := c.tally - 1 })

/-- CLUSTER_LIST_ARRIVAL: the oldest cluster list is taken. With none waiting there is no event (log entry 12). -/
def clusterListArrival (s : State) : State :=
  match s.paths.toTrack with
  | l :: rest => trackScan (s.onPaths fun p => { p with toTrack := rest }) l
  | [] => s

/-- CLUSTER_LIST_ARRIVAL. -/
def execClusterListArrival (s : State) : Host.Outcome State Fault Refusal := live s clusterListArrival

/-! ### The close of a drain (R138) -/

/-- The ended entries of the tracks that are not TENTATIVE, in ascending slot order (R138). -/
def stopEntries (t : TrackTable) : List EndedTrack :=
  t.reported.map fun k => k.ended .stop ((t.last.map (·.distance)).getD k.lastHit)

/-- The track table after a drain close (R138). -/
def TrackTable.closeDrain (t : TrackTable) : TrackTable :=
  { t with
    slots := t.slots.map fun _ => none
    last := none
    counters :=
      { t.counters with
        dropped := bumpBy t.counters.dropped (t.live.countP fun k => k.state == .tentative)
        endsStop := bumpBy t.counters.endsStop t.reported.length } }

/-- DRAIN_CLOSE_REQUEST (R138): with no request waiting there is no event (log entry 12). -/
def drainCloseRequest (s : State) : State :=
  if s.paths.drainRequest then
    let l : StopList := ⟨stopEntries s.tracks, s.tracks.last⟩
    (s.onPaths fun p => { p with drainRequest := false, toSpan := p.toSpan ++ [.stop l] }).onTracks
      TrackTable.closeDrain
  else s

/-- DRAIN_CLOSE_REQUEST. -/
def execDrainCloseRequest (s : State) : Host.Outcome State Fault Refusal := live s drainCloseRequest

end Sys2Proof.Machine
end

