-- ==== Sys2Proof/Machine/Span.lean ====
section
/-! DEFINITION. The span unit (chapter 9): TRACK_LIST_ARRIVAL and STOP_LIST_ARRIVAL. -/

namespace Sys2Proof.Machine

/-! ### Close causes (R142, R146) -/

/-- The device close cause of a scan (R142). -/
def deviceCause (u : SpanUnit) (h : ScanHeader) : Option CloseCause :=
  if h.epoch ≠ u.prevEpoch then some .jump
  else if h.sense ≠ u.prevSense then some .reversal
  else none

/-- Whether two zones are the same: both NONE, or entries with the same entry number (R146). -/
def sameZone : Option ZoneView → Option ZoneView → Bool
  | none, none => true
  | some a, some b => a.number == b.number
  | _, _ => false

/-- The bin index of a distance: the quotient rounded toward minus infinity (R144). -/
def binIndex (binLength d : Int) : Int := d / binLength

/-- Why a continuing track's open bin closes before the scan is added, if it does (R146). -/
def binCloseCause (device : Option CloseCause) (binLength : Int) (h : ScanHeader) (b : Bin) : Option CloseCause :=
  match device with
  | some c => some c
  | none =>
    if h.context.flush || !sameZone h.context.zone b.zone then some .zone
    else if binIndex binLength h.distance ≠ b.index then some .grid
    else none

/-- The cause with which a track's runs close with its bin: none for GRID, FLUSH for ZONE with the flush mark (R153). -/
def runCauseOf (flush : Bool) : CloseCause → Option CloseCause
  | .jump => some .jump
  | .reversal => some .reversal
  | .zone => some (if flush then .flush else .zone)
  | _ => none

/-! ### Bins (R145, R147) -/

/-- An empty bin of a track at a scan (R145). -/
def newBin (binLength : Int) (h : ScanHeader) (id : Nat) : Bin where
  track := id
  zone := h.context.zone
  epoch := h.epoch
  index := binIndex binLength h.distance
  first := h.distance
  last := h.distance
  hits := 0
  misses := 0
  extremes := none
  staggerSum := 0
  heightSum := 0
  samples := 0
  thickness := none
  flags := {}

/-- The extremes with one more hit (R147). -/
def widen (e : Option Extremes) (s h : Int) : Extremes :=
  match e with
  | none => ⟨s, s, h, h⟩
  | some e => ⟨min e.staggerMin s, max e.staggerMax s, min e.heightMin h, max e.heightMax h⟩

/-- A hit added to a bin (R147). Once the hits count has stopped, values no longer enter the sums. -/
def Bin.addHit (b : Bin) (d : Int) (m : Merged) : Bin :=
  let counted := decide (b.hits.toNat < Config.counterMax)
  { b with
    hits := bump b.hits
    extremes := some (widen b.extremes m.stagger m.height)
    staggerSum := if counted then b.staggerSum + m.stagger else b.staggerSum
    heightSum := if counted then b.heightSum + m.height else b.heightSum
    samples := if m.thickness.isSome then bump b.samples else b.samples
    thickness := lesserThickness b.thickness m.thickness d
    flags := b.flags.union m.flags }

/-- A scan added to a bin: a hit or a miss, the last distance, and the scan's own flags (R147). -/
def Bin.addScan (b : Bin) (h : ScanHeader) (tableFull : Bool) (hit : Option Merged) : Bin :=
  let c := match hit with
    | some m => b.addHit h.distance m
    | none => { b with misses := bump b.misses }
  { c with
    last := h.distance
    flags := c.flags.union { tableFull := tableFull, headMissing := !h.missing.isEmpty } }

/-! ### Records (R148, R149, R156) -/

/-- The payload of a WIRE record (R148, Table 10-8). -/
def Bin.wirePayload (b : Bin) (cause : CloseCause) : List Byte :=
  let geometry := b.extremes.isSome
  let n : Int := b.hits.toNat
  natBytes16 b.track ++
    byte (bitValue b.zone.isSome 0 + bitValue geometry 1 + bitValue b.thickness.isSome 2) ++ [b.epoch] ++
    intBytes32 b.index ++ intBytes32 b.first ++ intBytes32 b.last ++ bytes32 b.hits ++ bytes32 b.misses ++
    bytes32 b.samples ++ natBytes16 b.flags.word ++ byte cause.code ++
    (match b.zone with
      | some z => bytes32 z.zoneId ++ byte z.kind.code
      | none => []) ++
    (match b.extremes with
      | some e =>
        intBytes32 e.staggerMin ++ intBytes32 e.staggerMax ++ intBytes32 (roundDiv b.staggerSum n) ++
          intBytes32 e.heightMin ++ intBytes32 e.heightMax ++ intBytes32 (roundDiv b.heightSum n)
      | none => []) ++
    (match b.thickness with
      | some t => intBytes32 t.value ++ intBytes32 t.distance
      | none => [])

/-- The payload of a TRACK_END record (R149, Table 10-9). -/
def EndedTrack.payload (e : EndedTrack) : List Byte :=
  natBytes16 e.id ++ byte (bitValue e.thickness.isSome 0) ++ byte e.reason.code ++ intBytes32 e.birth ++
    intBytes32 e.lastHit ++ intBytes32 e.endedAt ++ bytes32 e.hits ++
    (match e.thickness with
      | some t => intBytes32 t.value ++ intBytes32 t.distance
      | none => [])

/-- The payload of an EXCEEDANCE record (R156, Table 10-10). -/
def Run.payload (r : Run) (cause : CloseCause) : List Byte :=
  natBytes16 r.track ++ byte r.kind.code ++ byte cause.code ++ bytes32 r.zoneId ++ intBytes32 r.first ++
    intBytes32 r.last ++ intBytes32 r.worst ++ intBytes32 r.worstAt ++ bytes32 r.offending

/-! ### Closing and opening -/

/-- The open bin of a track. -/
def SpanUnit.binOf (u : SpanUnit) (id : Nat) : Option Bin := u.bins.find? fun b => b.track == id

/-- The open run of a track and kind. -/
def SpanUnit.runOf (u : SpanUnit) (id : Nat) (kind : RunKind) : Option Run :=
  u.runs.find? fun r => r.track == id && r.kind == kind

/-- Change the span counters. -/
def countSpan (s : State) (f : SpanCounters → SpanCounters) : State :=
  s.onSpan fun u => { u with counters := f u.counters }

/-- A track's open bin closes: its WIRE record is offered as class A, and that one bin leaves the store and is counted (R148,
R160). -/
def closeBin (s : State) (id : Nat) (cause : CloseCause) : State :=
  match s.span.binOf id with
  | some b =>
    (offerA s (s.record kindWire (b.wirePayload cause))).onSpan fun u =>
      { u with
        bins := u.bins.eraseP fun k => k.track == id
        counters := { u.counters with binsClosed := bump u.counters.binsClosed } }
  | none => s

/-- A closing run is counted once: released, or closed by event (R156). -/
def SpanCounters.countClose (c : SpanCounters) (cause : CloseCause) : SpanCounters :=
  if cause = .released then { c with runsReleased := bump c.runsReleased }
  else { c with runsByEvent := bump c.runsByEvent }

/-- Offer a run's EXCEEDANCE record, class B, and count the closing (R156). -/
def reportRun (s : State) (r : Run) (cause : CloseCause) : State :=
  countSpan (offerB s (s.record kindExceedance (r.payload cause))) fun c => c.countClose cause

/-- A track's open run of a kind closes (R156). -/
def closeRun (s : State) (id : Nat) (cause : CloseCause) (kind : RunKind) : State :=
  match s.span.runOf id kind with
  | some r =>
    (reportRun s r cause).onSpan fun u =>
      { u with runs := u.runs.filter fun k => !(k.track == id && k.kind == kind) }
  | none => s

/-- The per-track kinds in their order (R150). -/
def trackKinds : List RunKind := [.stagger, .heightLow, .heightHigh, .thickness]

/-- A track's open runs close in the kind order (R149, R153). -/
def closeRuns (s : State) (id : Nat) (cause : CloseCause) : State :=
  trackKinds.foldl (fun s k => closeRun s id cause k) s

/-- A bin opens with a scan (R145). -/
def openBin (s : State) (h : ScanHeader) (tableFull : Bool) (id : Nat) (hit : Option Merged) : State :=
  s.onSpan fun u =>
    { u with
      bins := u.bins ++ [(newBin s.cmd.params.binLength h id).addScan h tableFull hit]
      counters := { u.counters with binsOpened := bump u.counters.binsOpened } }

/-- A scan is added to a track's open bin (R147). -/
def extendBin (s : State) (h : ScanHeader) (tableFull : Bool) (id : Nat) (hit : Option Merged) : State :=
  s.onSpan fun u =>
    { u with bins := u.bins.map fun b => if b.track == id then b.addScan h tableFull hit else b }

/-! ### Limits and runs (R150 to R152) -/

/-- How a value stands to a limit (R150). -/
inductive Judgement where
  | neither
  | conforms
  | offends (value : Int)
  deriving DecidableEq, Repr

/-- A hit judged against a limit that is on: the value it would be kept with. -/
def judgeValue (offends : Bool) (value : Int) : Judgement := if offends then .offends value else .conforms

/-- The judgement of a hit for one kind (R150). A limit of 0 is off. -/
def judgeHit (z : ZoneView) (kind : RunKind) (m : Merged) : Judgement :=
  match kind with
  | .stagger =>
    if z.staggerLimit = 0 then .neither else judgeValue (decide (z.staggerLimit < magnitude m.stagger)) m.stagger
  | .heightLow =>
    if z.heightMin = 0 then .neither else judgeValue (decide (m.height < z.heightMin)) m.height
  | .heightHigh =>
    if z.heightMax = 0 then .neither else judgeValue (decide (z.heightMax < m.height)) m.height
  | .thickness =>
    match m.thickness with
    | none => .neither
    | some t => if z.minThickness = 0 then .neither else judgeValue (decide (t < z.minThickness)) t
  | .count => .neither

/-- Whether a value is worse than the worst kept (R150, R154). -/
def worse (kind : RunKind) (expected : Nat) (value worst : Int) : Bool :=
  match kind with
  | .stagger => decide (magnitude worst < magnitude value)
  | .heightLow => decide (value < worst)
  | .heightHigh => decide (worst < value)
  | .thickness => decide (value < worst)
  | .count => decide (magnitude (worst - expected) < magnitude (value - expected))

/-- A run opened by an offending value (R151). -/
def newRun (id : Nat) (kind : RunKind) (z : ZoneView) (d value : Int) : Run where
  track := id
  kind := kind
  number := z.number
  zoneId := z.zoneId
  first := d
  last := d
  worst := value
  worstAt := d
  offending := 1
  conforming := 0

/-- An open run with one more offending value (R151). An equally bad value keeps the earlier one. -/
def Run.extend (r : Run) (expected : Nat) (d value : Int) : Run :=
  let bad := worse r.kind expected value r.worst
  { r with
    last := d
    offending := bump r.offending
    conforming := 0
    worst := if bad then value else r.worst
    worstAt := if bad then d else r.worstAt }

/-- The opening of a run is counted and reported to the zone queue unit (R151, R154). -/
def reportOpening (s : State) (z : ZoneView) : State :=
  (countSpan s fun c => { c with runsOpened := bump c.runsOpened }).onPaths fun p =>
    { p with reports := p.reports ++ [.runOpened z.number] }

/-- Change a track's open run of a kind. -/
def changeRun (s : State) (id : Nat) (kind : RunKind) (f : Run → Run) : State :=
  s.onSpan fun u => { u with runs := u.runs.map fun r => if r.track == id && r.kind == kind then f r else r }

/-- One kind's judgement of a hit acts on the run of that kind (R151, R152). -/
def actOnRun (s : State) (z : ZoneView) (d : Int) (id : Nat) (kind : RunKind) (j : Judgement) : State :=
  match j, s.span.runOf id kind with
  | .offends v, none =>
    reportOpening (s.onSpan fun u => { u with runs := u.runs ++ [newRun id kind z d v] }) z
  | .offends v, some _ => changeRun s id kind fun r => r.extend z.expected d v
  | .conforms, some r =>
    let t := changeRun s id kind fun r => { r with conforming := r.conforming + 1 }
    if r.conforming + 1 = s.cmd.params.releaseScans then closeRun t id .released kind else t
  | _, _ => s

/-- The limit checker on a hit: the four kinds in their order (R150). In zone NONE every limit is off. -/
def checkLimits (s : State) (h : ScanHeader) (id : Nat) (m : Merged) : State :=
  match h.context.zone with
  | some z => trackKinds.foldl (fun s k => actOnRun s z h.distance id k (judgeHit z k m)) s
  | none => s

/-! ### Track entries (R142, R146, R149) -/

/-- An ended track: its bin, its runs, its TRACK_END record, its count (R149). -/
def endTrack (s : State) (cause : CloseCause) (e : EndedTrack) : State :=
  let s := closeBin s e.id cause
  let s := closeRuns s e.id cause
  let s := offerB s (s.record kindTrackEnd e.payload)
  countSpan s fun c => { c with trackEnds := bump c.trackEnds }

/-- A continuing entry's bin: closed and reopened with the scan, or extended by it (R146, R153). -/
def continueBin (s : State) (device : Option CloseCause) (l : TrackList) (id : Nat) (hit : Option Merged) : State :=
  let h := l.header
  match s.span.binOf id with
  | some b =>
    match binCloseCause device s.cmd.params.binLength h b with
    | some cause =>
      let s := closeBin s id cause
      let s := match runCauseOf h.context.flush cause with
        | some c => closeRuns s id c
        | none => s
      openBin s h l.tableFull id hit
    | none => extendBin s h l.tableFull id hit
  | none => openBin s h l.tableFull id hit

/-- One entry of a track list, taken whole (R142). A hit of a track that is CONFIRMED after the scan is judged (R150). Entries that
carry the same id, of a track that ends and of one born and confirmed in the same scan, act in the order in which they stand: DESIGN
CHOICE (log entry 23). -/
def takeEntry (device : Option CloseCause) (l : TrackList) (s : State) (e : TrackEntry) : State :=
  match e with
  | .continuing id _ hit =>
    let s := continueBin s device l id hit
    match hit with
    | some m => checkLimits s l.header id m
    | none => s
  | .confirmed id m => checkLimits (openBin s l.header l.tableFull id (some m)) l.header id m
  | .ended e => endTrack s .trackEnd e

/-! ### The COUNT run (R154, R155) -/

/-- Why an open COUNT run closes before the scan is judged, if it does (R155). -/
def countCloseCause (device : Option CloseCause) (h : ScanHeader) (r : Run) : Option CloseCause :=
  match device with
  | some c => some c
  | none =>
    if h.context.flush then some .flush
    else if h.context.zone.any fun z => z.number == r.number then none
    else some .zone

/-- The COUNT run closes with a cause (R155, R156, R158). -/
def closeCount (s : State) (cause : CloseCause) : State :=
  match s.span.count with
  | some r => (reportRun s r cause).onSpan fun u => { u with count := none }
  | none => s

/-- The judgement of a scan's confirmed hit count (R154). -/
def judgeCount (z : ZoneView) (confirmedHits : Nat) : Judgement :=
  if z.expected = 0 then .neither
  else judgeValue (confirmedHits != z.expected) confirmedHits

/-- The judgement acts on the COUNT run (R154). -/
def actOnCount (s : State) (z : ZoneView) (d : Int) (j : Judgement) : State :=
  match j, s.span.count with
  | .offends v, none => reportOpening (s.onSpan fun u => { u with count := some (newRun 0 .count z d v) }) z
  | .offends v, some r => s.onSpan fun u => { u with count := some (r.extend z.expected d v) }
  | .conforms, some r =>
    let t := s.onSpan fun u => { u with count := some { r with conforming := r.conforming + 1 } }
    if r.conforming + 1 = s.cmd.params.releaseScans then closeCount t .released else t
  | _, _ => s

/-- Step 3 of R142: the COUNT run closes if it must, then the scan is judged (R154, R155). -/
def handleCount (s : State) (device : Option CloseCause) (l : TrackList) : State :=
  let h := l.header
  let s := match s.span.count.bind (countCloseCause device h) with
    | some c => closeCount s c
    | none => s
  match h.context.zone with
  | some z => actOnCount s z h.distance (judgeCount z l.confirmedHits)
  | none => s

/-! ### TRACK_LIST_ARRIVAL and STOP_LIST_ARRIVAL -/

/-- Steps 4 and 5 of R142: the scan register, and the scan-finished report (R143, R157). -/
def finishSpan (s : State) (h : ScanHeader) : State :=
  (s.onSpan fun u =>
    { u with
      prevSense := h.sense
      prevEpoch := h.epoch
      counters := { u.counters with finished := bump u.counters.finished } }).onPaths fun p =>
    { p with reports := p.reports ++ [.scanFinished h.scan] }

/-- The span unit takes a track list (R142). -/
def spanScan (s : State) (l : TrackList) : State :=
  let device := deviceCause s.span l.header
  let s := l.entries.foldl (takeEntry device l) s
  let s := handleCount s device l
  finishSpan s l.header

/-- TRACK_LIST_ARRIVAL: the oldest arrival, where it is a track list (log entry 12). -/
def trackListArrival (s : State) : State :=
  match s.paths.toSpan with
  | .tracks l :: rest => spanScan (s.onPaths fun p => { p with toSpan := rest }) l
  | _ => s

/-- TRACK_LIST_ARRIVAL. -/
def execTrackListArrival (s : State) : Host.Outcome State Fault Refusal := live s trackListArrival

/-- The span unit takes a stop list, closes what is listed and the COUNT run, and reports span closed (R158, R181). The report
reaches drain control in the same step unless something sent before it is still on its way (log entry 21). -/
def spanStop (s : State) (l : StopList) : State :=
  let s := l.entries.foldl (fun s e => endTrack s .stop e) s
  settleSpanClosed ((closeCount s .stop).onPaths fun p => { p with spanClosed := true })

/-- STOP_LIST_ARRIVAL: the oldest arrival, where it is a stop list (log entry 12). -/
def stopListArrival (s : State) : State :=
  match s.paths.toSpan with
  | .stop l :: rest => spanStop (s.onPaths fun p => { p with toSpan := rest }) l
  | _ => s

/-- STOP_LIST_ARRIVAL. -/
def execStopListArrival (s : State) : Host.Outcome State Fault Refusal := live s stopListArrival

end Sys2Proof.Machine
end

