-- ==== Sys2Proof/Machine/Trunk.lean ====
section
/-! DEFINITION. The trunk (sections 10.3 and 10.4): TRUNK_END_DELIMITER, LINK_UP, LINK_DOWN. -/

namespace Sys2Proof.Machine

/-- The trunk transmitter sends a frame's end delimiter: the frame leaves its queue and is counted sent, the end of a
STATUS record re-arms the loss notice, and the next frame is chosen (R161, R164 to R166). A free transmitter sends no end
delimiter (log entry 12). -/
def Output.endFrame (o : Output) : Output :=
  match o.tx with
  | .free => o
  | .record =>
    { o with
      tx := .free
      records := o.records.tail
      notice := o.notice || (o.records.head?.any fun (f : Frame) => f.kind == kindStatus)
      counters := { o.counters with sent := bump o.counters.sent } }.kick
  | .raw =>
    { o with
      tx := .free
      raw := o.raw.tail
      counters := { o.counters with rawSent := bump o.counters.rawSent } }.kick

/-- TRUNK_END_DELIMITER. -/
def execTrunkEndDelimiter (s : State) : Host.Outcome State Fault Refusal := live s fun s => s.onOut Output.endFrame

/-- The indication changes to link-up and a free transmitter starts a frame (R166). -/
def Output.up (o : Output) : Output := if o.linkUp then o else { o with linkUp := true }.kick

/-- The indication changes to link-down: the change is counted, and a frame being sent is cut off, stays at its queue's
head and is counted restarted (R167). -/
def Output.down (o : Output) : Output :=
  if o.linkUp then
    { o with
      linkUp := false
      tx := .free
      counters :=
        { o.counters with
          linkDowns := bump o.counters.linkDowns
          restarted := if o.tx = .free then o.counters.restarted else bump o.counters.restarted } }
  else o

/-- LINK_UP. While the reset line is held only the indication follows the line (log entry 2). -/
def execLinkUp (s : State) : Host.Outcome State Fault Refusal :=
  .next (s.onOut fun o => if s.held then { o with linkUp := true } else o.up)

/-- LINK_DOWN. While the reset line is held only the indication follows the line (log entry 2). -/
def execLinkDown (s : State) : Host.Outcome State Fault Refusal :=
  .next (s.onOut fun o => if s.held then { o with linkUp := false } else o.down)

end Sys2Proof.Machine
end

