-- ==== Sys2Proof/Machine/Zones.lean ====
section
/-! DEFINITION. The zone queue unit (chapter 5): SCAN_RESOLUTION, RUN_OPENING_REPORT, SCAN_FINISHED_REPORT, ZONE_APPEND,
ZONE_FLUSH. -/

namespace Sys2Proof.Machine

/-! ### Edges and relations (Table 5-3) -/

/-- A distance is inside an entry: lo ≤ d < hi, whatever the direction. -/
def ZoneEntry.inside (e : ZoneEntry) (d : Int) : Bool := decide (e.lo ≤ d) && decide (d < e.hi)

/-- A distance has passed an entry in the run direction. -/
def ZoneEntry.passed (e : ZoneEntry) (dir : Sense) (d : Int) : Bool :=
  match dir with
  | .increasing => decide (e.hi ≤ d)
  | .decreasing => decide (d < e.lo)

/-- A distance is short of an entry in the run direction. -/
def ZoneEntry.shortOf (e : ZoneEntry) (dir : Sense) (d : Int) : Bool :=
  match dir with
  | .increasing => decide (d < e.lo)
  | .decreasing => decide (e.hi ≤ d)

/-- An entry stands beyond another in the run direction (R68). -/
def ZoneEntry.beyond (e before : ZoneEntry) (dir : Sense) : Bool :=
  match dir with
  | .increasing => decide (before.hi ≤ e.lo)
  | .decreasing => decide (e.hi ≤ before.lo)

/-! ### ZONE records (R79, Table 10-11) -/

/-- The payload of a ZONE record (Table 10-11). -/
def ClosingEntry.payload (c : ClosingEntry) : List Byte :=
  bytes32 c.entry.zoneId ++ byte c.entry.kind.code ++ byte c.cause.code ++ byte (bitValue c.entry.entered.isSome 0) ++
    intBytes32 c.left ++ bytes32 c.entry.scans ++ bytes32 c.entry.runsOpened ++
    (c.entry.entered.map intBytes32).getD []

/-- Offer the ZONE record of a closing entry, class B (R78, R79). -/
def offerZone (s : State) (c : ClosingEntry) : State := offerB s (s.record kindZone c.payload)

/-! ### Exhaustion (R80) -/

/-- The entry store has gone from holding entries to holding none: in RUNNING the flag is set and STATUS ZONES_EXHAUSTED
offered (R80). -/
def exhaust (s : State) : State :=
  if s.cmd.op == .running then offerStatus (s.onZones fun z => { z with exhausted := true }) .zonesExhausted else s

/-! ### Resolving a released scan (R73 to R75) -/

/-- A retired entry as it joins the closing list: PASSED if a scan was resolved to it, else SKIPPED (R73). -/
def retired (scan : Word16) (d : Int) (e : ZoneEntry) : ClosingEntry :=
  ⟨e, if e.entered.isSome then .passed else .skipped, d, scan⟩

/-- Retirement: the entries at the head that the scan's distance has passed leave the store (R73). -/
def ZoneQueue.retire (z : ZoneQueue) (dir : Sense) (scan : Word16) (d : Int) : ZoneQueue :=
  let gone := z.entries.takeWhile fun e => e.passed dir d
  { z with
    entries := z.entries.dropWhile fun e => e.passed dir d
    closing := z.closing ++ gone.map (retired scan d)
    counters :=
      { z.counters with
        passed := bumpBy z.counters.passed (gone.countP fun e => e.entered.isSome)
        skipped := bumpBy z.counters.skipped (gone.countP fun e => !e.entered.isSome) } }

/-- The head entry takes a scan: its count advances and its entered distance is set if it was absent (R74). -/
def ZoneEntry.enter (e : ZoneEntry) (d : Int) : ZoneEntry :=
  { e with scans := bump e.scans, entered := some (e.entered.getD d) }

/-- Resolution: the head entry becomes the current zone if d is inside it, and otherwise the zone is NONE (R74). -/
def ZoneQueue.resolve (z : ZoneQueue) (d : Int) : ZoneQueue :=
  match z.entries with
  | e :: rest =>
    if e.inside d then { z with entries := e.enter d :: rest, current := true }
    else { z with current := false, counters := { z.counters with inNone := bump z.counters.inNone } }
  | [] => { z with current := false, counters := { z.counters with inNone := bump z.counters.inNone } }

/-- What a scan carries of an entry (Table 5-4). -/
def ZoneEntry.view (e : ZoneEntry) : ZoneView where
  number := e.number
  zoneId := e.zoneId
  kind := e.kind
  expected := e.expected
  staggerLimit := e.staggerLimit
  heightMin := e.heightMin
  heightMax := e.heightMax
  minThickness := e.minThickness

/-- The zone context handed on with a scan (R75, Table 5-4). -/
def ZoneQueue.context (z : ZoneQueue) (defaultWire : Nat) : ZoneContext where
  zone := z.currentZone.map ZoneEntry.view
  wireType := (z.currentZone.map (·.wireType)).getD defaultWire
  flush := z.flushMark

/-- The scan is handed on: the flush mark is cleared and the scan counts as in flight (R75). -/
def ZoneQueue.handOn (z : ZoneQueue) (scan : Word16) : ZoneQueue :=
  { z with flushMark := false, inFlight := z.inFlight + 1, lastScan := scan }

/-- The zone queue unit takes a released scan: retirement, resolution, hand-on (R73 to R75, R80). -/
def resolveScan (s : State) (scan : ReleasedScan) : State :=
  let d := scan.snapshot.distance
  let before := s.zones.entries
  let s := s.onZones fun z => z.retire s.cmd.params.direction scan.scan d
  let s := if !before.isEmpty && s.zones.entries.isEmpty then exhaust s else s
  let s := s.onZones fun z => z.resolve d
  let s := s.onPaths fun p =>
    { p with toGeo := p.toGeo ++ [⟨scan, s.zones.context s.cmd.params.defaultWire⟩] }
  s.onZones fun z => z.handOn scan.scan

/-- SCAN_RESOLUTION: the oldest released scan is taken. With none waiting there is no event (log entry 12). -/
def scanResolution (s : State) : State :=
  match s.paths.toZone with
  | scan :: rest => resolveScan (s.onPaths fun p => { p with toZone := rest }) scan
  | [] => s

/-- SCAN_RESOLUTION. -/
def execScanResolution (s : State) : Host.Outcome State Fault Refusal := live s scanResolution

/-! ### Reports of the span unit (R77, R78) -/

/-- A run-opening report counts at the entry with its number (R77). -/
def ZoneEntry.countRun (number : Word16) (e : ZoneEntry) : ZoneEntry :=
  if e.number = number then { e with runsOpened := bump e.runsOpened } else e

/-- A run-opening report reaches the entry in the store or in the closing list (R77). The rule speaks of the one entry with the
number. Where two held entries carry the same number, after the 16 bits have wrapped, the report counts at each of them: DESIGN
CHOICE (log entry 22). -/
def ZoneQueue.countRun (z : ZoneQueue) (number : Word16) : ZoneQueue :=
  { z with
    entries := z.entries.map (ZoneEntry.countRun number)
    closing := z.closing.map fun c => { c with entry := c.entry.countRun number } }

/-- RUN_OPENING_REPORT: the oldest report, where it is a run-opening report (R77). -/
def runOpeningReport (s : State) : State :=
  match s.paths.reports with
  | .runOpened number :: rest =>
    settleSpanClosed ((s.onPaths fun p => { p with reports := rest }).onZones fun z => z.countRun number)
  | _ => s

/-- RUN_OPENING_REPORT. -/
def execRunOpeningReport (s : State) : Host.Outcome State Fault Refusal := live s runOpeningReport

/-- A scan is reported finished: scans in flight drops and the ZONE records of the entries tagged with it are offered in
closing-list order (R78). Entries are found by the scan's 16-bit number, so those tagged with an older scan that carries the same
number go with them: DESIGN CHOICE (log entry 22). -/
def finishScan (s : State) (scan : Word16) : State :=
  let due := s.zones.closing.filter fun c => c.tag == scan
  let s := s.onZones fun z =>
    { z with inFlight := z.inFlight - 1, closing := z.closing.filter fun c => !(c.tag == scan) }
  due.foldl offerZone s

/-- SCAN_FINISHED_REPORT: the oldest report, where it is a scan-finished report (R78). -/
def scanFinishedReport (s : State) : State :=
  match s.paths.reports with
  | .scanFinished scan :: rest => settleSpanClosed (finishScan (s.onPaths fun p => { p with reports := rest }) scan)
  | _ => s

/-- SCAN_FINISHED_REPORT. -/
def execScanFinishedReport (s : State) : Host.Outcome State Fault Refusal := live s scanFinishedReport

/-! ### ZONE_APPEND (R69, R70) -/

/-- The length that ZONE_APPEND must have: a count of 1 to 8 and 31 bytes for each entry (R174). -/
def zoneAppendLengthOk (args : List Byte) : Bool :=
  let n := (byteAt args 0).toNat
  decide (1 ≤ n) && decide (n ≤ 8) && args.length == 1 + 31 * n

/-- The entries of a ZONE_APPEND, as bytes, in command order. -/
def zoneAppendEntries (args : List Byte) : List (List Byte) :=
  (List.range (byteAt args 0).toNat).map (zoneEntryBytes args)

/-- The four tests of one entry after the entry before it (R69). -/
def judgeEntry (s : State) (before : Option ZoneEntry) (b : List Byte) : Option Result :=
  let e := zoneEntryArg b
  if !zoneEntryOk b then some .badArgument
  else if !((s.merge.slots[e.wireType]?).any (·.loaded)) then some .notLoaded
  else if !(before.all fun p => e.beyond p s.cmd.params.direction) then some .order
  else if e.passed s.cmd.params.direction s.odo.mm then some .staleZone
  else none

/-- The entries in turn, numbered from `index`: the first failure gives its result and its entry's index (R69). -/
def judgeEntries (s : State) : Option ZoneEntry → Nat → List (List Byte) → Option (Result × Nat)
  | _, _, [] => none
  | before, index, b :: bs =>
    match judgeEntry s before b with
    | some r => some (r, index)
    | none => judgeEntries s (some (zoneEntryArg b)) (index + 1) bs

/-- The admitted entries with their entry numbers (R66). -/
def numberEntries (first : Word16) (bs : List (List Byte)) : List ZoneEntry :=
  bs.zipIdx.map fun b => { zoneEntryArg b.1 with number := first + BitVec.ofNat 16 b.2 }

/-- The zone queue after an append (R66, R70). -/
def ZoneQueue.append (z : ZoneQueue) (bs : List (List Byte)) : ZoneQueue :=
  { z with
    entries := z.entries ++ numberEntries z.nextEntry bs
    nextEntry := z.nextEntry + BitVec.ofNat 16 bs.length
    exhausted := false
    counters := { z.counters with appended := bumpBy z.counters.appended bs.length } }

/-- ZONE_APPEND's own checks and effects (R69, R70). -/
def zoneAppend (args : List Byte) (s : State) : State × Reply :=
  let bs := zoneAppendEntries args
  if Config.zoneCapacity < s.zones.entries.length + bs.length then (s, { result := .queueFull })
  else
    match judgeEntries s s.zones.entries.getLast? 0 bs with
    | some (r, i) => (s, { result := r, detail := i })
    | none =>
      let t := s.onZones fun z => z.append bs
      (t, { result := .done, data := bytes16 s.zones.nextEntry ++ byte t.zones.entries.length })

/-- ZONE_APPEND. -/
def execZoneAppend (address tag : Byte) (args : List Byte) (s : State) : Host.Outcome State Fault Refusal :=
  live s fun s => command s address 0x20 tag args (zoneAppendLengthOk args) anyState (zoneAppend args)

/-! ### ZONE_FLUSH (R72) -/

/-- The flushed entries as they join the closing list (R72). -/
def flushedEntries (s : State) : List ClosingEntry :=
  s.zones.entries.map fun e => ⟨e, .flushed, s.odo.mm, s.zones.lastScan⟩

/-- The entries leave the store, the zone becomes NONE, the flush mark is set, the counter advances (R72). -/
def ZoneQueue.flush (z : ZoneQueue) : ZoneQueue :=
  { z with
    entries := []
    current := false
    flushMark := true
    counters := { z.counters with flushed := bumpBy z.counters.flushed z.entries.length } }

/-- ZONE_FLUSH's effects (R72, R80). In RUNNING or DRAINING the entries wait in the closing list for the scan in flight, or
their ZONE records are offered at once; in STANDBY there is no record. -/
def zoneFlush (s : State) : State × Reply :=
  let n := s.zones.entries.length
  let reply : Reply := { result := .done, data := byte n }
  if n = 0 then (s, reply)
  else
    let flushed := flushedEntries s
    let t := s.onZones ZoneQueue.flush
    if s.cmd.op = .standby then (t, reply)
    else if s.zones.inFlight = 0 then (exhaust (flushed.foldl offerZone t), reply)
    else (exhaust (t.onZones fun z => { z with closing := z.closing ++ flushed }), reply)

/-- ZONE_FLUSH. -/
def execZoneFlush (address tag : Byte) (args : List Byte) (s : State) : Host.Outcome State Fault Refusal :=
  live s fun s => command s address 0x21 tag args args.isEmpty anyState zoneFlush

end Sys2Proof.Machine
end

