-- ==== Sys2Proof/Machine/Dispatch.lean ====
section
/-! DEFINITION. The meaning of every command: one arm per row of spec/opcode_table.json. -/

namespace Sys2Proof.Machine

def exec (i : Instr) (s : State) : Host.Outcome State Fault Refusal :=
  match i with
  | .profileFrame port address payload => Sys2Proof.Machine.execProfileFrame port address payload s
  | .headReplyFrame port address payload => Sys2Proof.Machine.execHeadReplyFrame port address payload s
  | .motionFrame address payload => Sys2Proof.Machine.execMotionFrame address payload s
  | .frameFailed receiver rx => Sys2Proof.Machine.execFrameFailed receiver rx s
  | .lineChange oda odb late => Sys2Proof.Machine.execLineChange oda odb late s
  | .silenceTimerExpiry port => Sys2Proof.Machine.execSilenceTimerExpiry port s
  | .slotStart port => Sys2Proof.Machine.execSlotStart port s
  | .exposureEnd port => Sys2Proof.Machine.execExposureEnd port s
  | .busyWindowClose => Sys2Proof.Machine.execBusyWindowClose s
  | .deadlineReached scan => Sys2Proof.Machine.execDeadlineReached scan s
  | .holdAgeExpiry => Sys2Proof.Machine.execHoldAgeExpiry s
  | .downlinkEndDelimiter port => Sys2Proof.Machine.execDownlinkEndDelimiter port s
  | .scanResolution => Sys2Proof.Machine.execScanResolution s
  | .geometryScan => Sys2Proof.Machine.execGeometryScan s
  | .rawListArrival => Sys2Proof.Machine.execRawListArrival s
  | .clusterListArrival => Sys2Proof.Machine.execClusterListArrival s
  | .trackListArrival => Sys2Proof.Machine.execTrackListArrival s
  | .runOpeningReport => Sys2Proof.Machine.execRunOpeningReport s
  | .scanFinishedReport => Sys2Proof.Machine.execScanFinishedReport s
  | .drainCloseRequest => Sys2Proof.Machine.execDrainCloseRequest s
  | .stopListArrival => Sys2Proof.Machine.execStopListArrival s
  | .trunkEndDelimiter => Sys2Proof.Machine.execTrunkEndDelimiter s
  | .linkUp => Sys2Proof.Machine.execLinkUp s
  | .linkDown => Sys2Proof.Machine.execLinkDown s
  | .identify address tag args => Sys2Proof.Machine.execIdentify address tag args s
  | .getState address tag args => Sys2Proof.Machine.execGetState address tag args s
  | .getCounters address tag args => Sys2Proof.Machine.execGetCounters address tag args s
  | .clearCounters address tag args => Sys2Proof.Machine.execClearCounters address tag args s
  | .setHeads address tag args => Sys2Proof.Machine.execSetHeads address tag args s
  | .loadHeadCal address tag args => Sys2Proof.Machine.execLoadHeadCal address tag args s
  | .loadWireType address tag args => Sys2Proof.Machine.execLoadWireType address tag args s
  | .setRunParams address tag args => Sys2Proof.Machine.execSetRunParams address tag args s
  | .setScanSpacing address tag args => Sys2Proof.Machine.execSetScanSpacing address tag args s
  | .setStrobe address tag args => Sys2Proof.Machine.execSetStrobe address tag args s
  | .setDistance address tag args => Sys2Proof.Machine.execSetDistance address tag args s
  | .zoneAppend address tag args => Sys2Proof.Machine.execZoneAppend address tag args s
  | .zoneFlush address tag args => Sys2Proof.Machine.execZoneFlush address tag args s
  | .headPass address tag args => Sys2Proof.Machine.execHeadPass address tag args s
  | .start address tag args => Sys2Proof.Machine.execStart address tag args s
  | .stop address tag args => Sys2Proof.Machine.execStop address tag args s
  | .reset address tag args => Sys2Proof.Machine.execReset address tag args s
  | .unknownCommand address code tag args => Sys2Proof.Machine.execUnknownCommand address code tag args s
  | .hardReset => Sys2Proof.Machine.execHardReset s
  | .triggerArrival => Sys2Proof.Machine.execTriggerArrival s
  | .hardResetEnd staddr portpres oda odb => Sys2Proof.Machine.execHardResetEnd staddr portpres oda odb s

end Sys2Proof.Machine
end

