-- ==== Sys2Proof/Machine/Step.lean ====
section
/-! DEFINITION. One step: the command at the front of the queue, or the passing of time when none waits. -/

namespace Sys2Proof.Machine

/-- One step: the command at the front of the queue is taken and has its effect with the queue's rest. On an empty queue
the block idles: the events that are due join the queue, or one microsecond passes (log entry 1). -/
def step (s : State) : Host.Outcome State Fault Refusal :=
  match s.pending with
  | c :: rest => exec c (s.onPending fun _ => rest)
  | [] => .next (idle s)

/-- The state with the command that a word spells put at the front of its queue. No row has bits, so no word spells one. -/
def State.withFetchWord (s : State) (nbits w : Nat) : State :=
  match decodeTableWord nbits w with
  | some c => s.onPending fun q => c :: q
  | none => s

end Sys2Proof.Machine
end

