-- ==== Sys2Proof/WellFormed.lean ====
section
/-! DEFINITION. Which command terms can stand for a row of the table: the lengths that a good frame has (Table 1-10) and
the codes that an unknown command may carry (R174). exec is total: it has a meaning for the other terms too. -/

namespace Sys2Proof

/-- A COMMAND payload holds the code, the tag and the arguments: at most 320 bytes. -/
def argsFit (args : List Byte) : Bool := decide (args.length + 2 ≤ Config.maxPayload)

/-- The well-formedness of a command term. -/
def Instr.wellFormed : Instr → Bool
  | .profileFrame _ _ payload => Machine.kindLengthOk Machine.kindProfile payload
  | .headReplyFrame _ _ payload => Machine.kindLengthOk Machine.kindHeadReply payload
  | .motionFrame _ payload => Machine.kindLengthOk Machine.kindMotion payload
  | .frameFailed _ _ => true
  | .lineChange _ _ _ => true
  | .silenceTimerExpiry _ => true
  | .slotStart _ => true
  | .exposureEnd _ => true
  | .busyWindowClose => true
  | .deadlineReached _ => true
  | .holdAgeExpiry => true
  | .downlinkEndDelimiter _ => true
  | .scanResolution => true
  | .geometryScan => true
  | .rawListArrival => true
  | .clusterListArrival => true
  | .trackListArrival => true
  | .runOpeningReport => true
  | .scanFinishedReport => true
  | .drainCloseRequest => true
  | .stopListArrival => true
  | .trunkEndDelimiter => true
  | .linkUp => true
  | .linkDown => true
  | .identify _ _ args => argsFit args
  | .getState _ _ args => argsFit args
  | .getCounters _ _ args => argsFit args
  | .clearCounters _ _ args => argsFit args
  | .setHeads _ _ args => argsFit args
  | .loadHeadCal _ _ args => argsFit args
  | .loadWireType _ _ args => argsFit args
  | .setRunParams _ _ args => argsFit args
  | .setScanSpacing _ _ args => argsFit args
  | .setStrobe _ _ args => argsFit args
  | .setDistance _ _ args => argsFit args
  | .zoneAppend _ _ args => argsFit args
  | .zoneFlush _ _ args => argsFit args
  | .headPass _ _ args => argsFit args
  | .start _ _ args => argsFit args
  | .stop _ _ args => argsFit args
  | .reset _ _ args => argsFit args
  | .unknownCommand _ code _ args => argsFit args && !Machine.commandCodes.contains code
  | .hardReset => true
  | .triggerArrival => true
  | .hardResetEnd _ _ _ _ => true

/-- The gauge frame that closes at a receiver in a row, where the row is a good frame (Tables 1-3, 10-7, 11-2). -/
def Instr.carries : Instr → Option Frame
  | .profileFrame _ address payload => some ⟨Machine.kindProfile, address, payload⟩
  | .headReplyFrame _ address payload => some ⟨Machine.kindHeadReply, address, payload⟩
  | .motionFrame address payload => some ⟨Machine.kindMotion, address, payload⟩
  | .frameFailed _ _ => none
  | .lineChange _ _ _ => none
  | .silenceTimerExpiry _ => none
  | .slotStart _ => none
  | .exposureEnd _ => none
  | .busyWindowClose => none
  | .deadlineReached _ => none
  | .holdAgeExpiry => none
  | .downlinkEndDelimiter _ => none
  | .scanResolution => none
  | .geometryScan => none
  | .rawListArrival => none
  | .clusterListArrival => none
  | .trackListArrival => none
  | .runOpeningReport => none
  | .scanFinishedReport => none
  | .drainCloseRequest => none
  | .stopListArrival => none
  | .trunkEndDelimiter => none
  | .linkUp => none
  | .linkDown => none
  | .identify address tag args => some ⟨Machine.kindCommand, address, [0x01, tag] ++ args⟩
  | .getState address tag args => some ⟨Machine.kindCommand, address, [0x02, tag] ++ args⟩
  | .getCounters address tag args => some ⟨Machine.kindCommand, address, [0x03, tag] ++ args⟩
  | .clearCounters address tag args => some ⟨Machine.kindCommand, address, [0x04, tag] ++ args⟩
  | .setHeads address tag args => some ⟨Machine.kindCommand, address, [0x10, tag] ++ args⟩
  | .loadHeadCal address tag args => some ⟨Machine.kindCommand, address, [0x11, tag] ++ args⟩
  | .loadWireType address tag args => some ⟨Machine.kindCommand, address, [0x12, tag] ++ args⟩
  | .setRunParams address tag args => some ⟨Machine.kindCommand, address, [0x13, tag] ++ args⟩
  | .setScanSpacing address tag args => some ⟨Machine.kindCommand, address, [0x14, tag] ++ args⟩
  | .setStrobe address tag args => some ⟨Machine.kindCommand, address, [0x15, tag] ++ args⟩
  | .setDistance address tag args => some ⟨Machine.kindCommand, address, [0x16, tag] ++ args⟩
  | .zoneAppend address tag args => some ⟨Machine.kindCommand, address, [0x20, tag] ++ args⟩
  | .zoneFlush address tag args => some ⟨Machine.kindCommand, address, [0x21, tag] ++ args⟩
  | .headPass address tag args => some ⟨Machine.kindCommand, address, [0x30, tag] ++ args⟩
  | .start address tag args => some ⟨Machine.kindCommand, address, [0x40, tag] ++ args⟩
  | .stop address tag args => some ⟨Machine.kindCommand, address, [0x41, tag] ++ args⟩
  | .reset address tag args => some ⟨Machine.kindCommand, address, [0x4F, tag] ++ args⟩
  | .unknownCommand address code tag args => some ⟨Machine.kindCommand, address, [code, tag] ++ args⟩
  | .hardReset => none
  | .triggerArrival => none
  | .hardResetEnd _ _ _ _ => none

end Sys2Proof
end

