-- ==== Sys2Proof/Safety.lean ====
section
/-! DEFINITION. The words that the claims use: what a command leaves unchanged, when a COMMAND frame is taken and how it is
answered, what a STATUS record shows, the invariants of the device (its Laws 1, 3, 5, 8, 9, 10 and 12 among them) and the
balances of its counters (its Laws 6 and 7 among them). -/

namespace Sys2Proof.Machine

/-! ### Frames -/

/-- The parts of the state, but for the queue of waiting commands. -/
inductive Part where
  | timebase | held | roof | motion | odo | seq | asm | paths | zones | geo | merge | tracks | span | out | cmd
  deriving DecidableEq, Repr

/-- Two states agree on a part. -/
def Agree (s t : State) : Part → Prop
  | .timebase => t.timebase = s.timebase
  | .held => t.held = s.held
  | .roof => t.roof = s.roof
  | .motion => t.motion = s.motion
  | .odo => t.odo = s.odo
  | .seq => t.seq = s.seq
  | .asm => t.asm = s.asm
  | .paths => t.paths = s.paths
  | .zones => t.zones = s.zones
  | .geo => t.geo = s.geo
  | .merge => t.merge = s.merge
  | .tracks => t.tracks = s.tracks
  | .span => t.span = s.span
  | .out => t.out = s.out
  | .cmd => t.cmd = s.cmd

/-- From s to t nothing changes outside the parts named; the queue of waiting commands does not change at all. -/
def OnlyChanges (parts : List Part) (s t : State) : Prop :=
  (∀ p, p ∉ parts → Agree s t p) ∧ t.pending = s.pending

/-- From s to t no roof port changes but one, and the enabled mask stays. -/
def OnlyPort (p : Port) (s t : State) : Prop :=
  (∀ q, q ≠ p → t.port q = s.port q) ∧ t.roof.enabled = s.roof.enabled

/-! ### Commands (R163, R173) -/

/-- A COMMAND frame with these fields is taken: the part is live, no other frame is open in the trunk receiver, the arguments
fit a frame, the Address is the station address, and there is class C room (R2, R163, R173). What an open frame adds is
FailedFrameIsOnlyCounted's to say. -/
structure Taken (s : State) (address : Byte) (args : List Byte) : Prop where
  live : s.held = false
  clear : s.cmd.frame = none
  fits : args.length + 2 ≤ 320
  mine : address = s.cmd.station.setWidth 8
  room : s.out.records.length + (if s.out.reserved then 1 else 0) < 64

/-- The argument lengths of Table 11-2 for a listed code (R174). -/
def lengthRight (code : Byte) (args : List Byte) : Bool :=
  let n := (byteAt args 0).toNat
  if code ∈ ([0x01, 0x02, 0x04, 0x21, 0x40, 0x41, 0x4F] : List Byte) then args.length == 0
  else if code ∈ ([0x03, 0x10] : List Byte) then args.length == 1
  else if code = 0x11 then args.length == 161
  else if code = 0x12 then args.length == 141
  else if code = 0x13 then args.length == 51
  else if code = 0x14 then args.length == 2
  else if code = 0x15 then args.length == 12
  else if code = 0x16 then args.length == 4
  else if code = 0x20 then decide (1 ≤ n ∧ n ≤ 8 ∧ args.length + 2 = 3 + 31 * n)
  else decide (4 ≤ args.length + 2 ∧ args.length + 2 ≤ 67)

/-- The codes of Table 11-2 that are allowed in STANDBY alone. -/
def standbyCodes : List Byte := [0x04, 0x10, 0x11, 0x12, 0x13, 0x40]

/-- The REPLY frame of Table 10-7. -/
def replyFrame (station : BitVec 4) (code tag : Byte) (r : Reply) : Frame :=
  ⟨kindReply, station.setWidth 8,
    [code, tag, BitVec.ofNat 8 r.result.code, BitVec.ofNat 8 r.detail] ++ r.data⟩

/-- The output unit after one frame more has joined the record queue: the frame stands at the tail, the admission is
counted, and a free transmitter on a live link starts the head record (R161, R162, R166). -/
def withRecord (o : Output) (f : Frame) : Output :=
  { o with
    records := o.records ++ [f]
    tx := if o.tx = .free ∧ o.linkUp = true then .record else o.tx
    counters := { o.counters with admitted := bump o.counters.admitted } }

/-- The output unit after a REPLY has been queued and the reservation has closed (R163). -/
def replied (o : Output) (f : Frame) : Output := withRecord { o with reserved := false } f

/-- The command unit after it has taken a command and its REPLY has been queued: one good frame at the trunk receiver, one
command taken, and one refused if the result is neither DONE nor CLAMPED (R4, R173). -/
def tookOne (c : CommandUnit) (r : Result) : CommandUnit :=
  { c with
    rx := { c.rx with good := bump c.rx.good }
    counters :=
      { c.counters with
        taken := bump c.counters.taken
        refused := if r = .done ∨ r = .clamped then c.counters.refused else bump c.counters.refused } }

/-- From s to t one command has been taken and answered by one REPLY, and the output and command units show nothing
else. -/
def Answered (s t : State) (code tag : Byte) (r : Reply) : Prop :=
  t.out = replied s.out (replyFrame s.cmd.station code tag r) ∧ t.cmd = tookOne s.cmd r.result

/-- From s to t one command has been answered by one REPLY and nothing else has changed. -/
def OnlyAnswers (s t : State) (code tag : Byte) (r : Reply) : Prop :=
  Answered s t code tag r ∧ OnlyChanges [.out, .cmd] s t

/-! ### Receivers (R4) -/

/-- The six receive counters of a receiver. -/
def State.rx (s : State) : Receiver → RxCounters
  | .roof p => (s.port p).counters.rx
  | .motion => s.motion.rx
  | .trunk => s.cmd.rx

/-- One of the six counters advances (R4). -/
def RxCounters.oneMore (c : RxCounters) : RxFailure → RxCounters
  | .framing => { c with framing := bump c.framing }
  | .length => { c with length := bump c.length }
  | .check => { c with check := bump c.check }
  | .address => { c with address := bump c.address }
  | .kind => { c with kind := bump c.kind }

/-- The receiver at which a row's good frame closes (Table 1-11). -/
def receiverOf : Instr → Option Receiver
  | .profileFrame p _ _ => some (.roof p)
  | .headReplyFrame p _ _ => some (.roof p)
  | .motionFrame _ _ => some .motion
  | c => if c.carries.isSome then some .trunk else none

/-- The part of the state that a receiver's frame and counters stand in. -/
def receiverPart : Receiver → Part
  | .roof _ => .roof
  | .motion => .motion
  | .trunk => .cmd

/-- From s to t a receiver's open frame and receive counters may change, and nothing else does: no port state, timer, queue or
unit, and no other receiver (R2 to R4). -/
structure OnlyReceives (r : Receiver) (s t : State) : Prop where
  parts : OnlyChanges [receiverPart r] s t
  others : ∀ q, q ≠ r → t.openFrame q = s.openFrame q ∧ t.rx q = s.rx q
  enabled : t.roof.enabled = s.roof.enabled
  ports : ∀ p, t.port p =
    { s.port p with
      frame := t.openFrame (.roof p)
      counters := { (s.port p).counters with rx := t.rx (.roof p) } }
  motion : t.motion = { s.motion with frame := t.openFrame .motion, rx := t.rx .motion }
  cmd : t.cmd = { s.cmd with frame := t.openFrame .trunk, rx := t.rx .trunk }

/-! ### STATUS records (Table 10-12) -/

/-- A frame is a STATUS record of this station with a cause, an operating state and the states of the four ports. -/
def ShowsStatus (f : Frame) (station : BitVec 4) (cause : StatusCause) (op : OpState) (roof : Roof) : Prop :=
  f.kind = kindStatus ∧ f.address = station.setWidth 8 ∧ f.payload.length = 32 ∧
    f.payload.take 6 =
      [BitVec.ofNat 8 cause.code, BitVec.ofNat 8 op.code, BitVec.ofNat 8 roof.ports.h0.state.code,
        BitVec.ofNat 8 roof.ports.h1.state.code, BitVec.ofNat 8 roof.ports.h2.state.code,
        BitVec.ofNat 8 roof.ports.h3.state.code]

/-- The output unit after one STATUS record has been admitted: the record-loss flag is clear (R164, R169). -/
def withStatus (o : Output) (f : Frame) : Output := withRecord { o with lossFlag := false } f

/-! ### The release of scans (R61, R63, R172, R181) -/

/-- The command unit after some scans have been released. Each advances the scans-in-pipeline tally (R172), and one that comes
while the drain waits for the span unit sets the late release mark (R181). In DRAINING a release that frees the last context in
use reports assembly drained (R63), and a drain that waits for assembly then waits for the pipeline (R181), whose tally counts
the released scan and so is not 0. -/
def CommandUnit.released (c : CommandUnit) (scans : Nat) (frees : Bool) : CommandUnit :=
  if scans = 0 then c
  else
    { c with
      tally := c.tally + scans
      lateMark := c.lateMark || decide (c.drain = .waitingSpan)
      drain :=
        if frees = true ∧ c.op = .draining ∧ c.drain = .waitingAssembly then .waitingPipeline else c.drain }

/-! ### The close of a drain (R149, R158, R181) -/

/-- The open run of a track and kind. -/
def openRun (u : SpanUnit) (id : Nat) (kind : RunKind) : Option Run :=
  u.runs.find? fun r => decide (r.track = id ∧ r.kind = kind)

/-- The four kinds of a track's runs, in the order of R150. -/
def runKinds : List RunKind := [.stagger, .heightLow, .heightHigh, .thickness]

/-- The EXCEEDANCE record of a closing run (R156). -/
def exceedance (s : State) (r : Run) (cause : CloseCause) : Frame :=
  ⟨kindExceedance, s.cmd.station.setWidth 8, r.payload cause⟩

/-- The records of an ended track: the WIRE record of its open bin, the EXCEEDANCE records of its open runs in the kind order, and
its TRACK_END record (R149, R158). -/
def endRecords (s : State) (cause : CloseCause) (e : EndedTrack) : List Frame :=
  ((s.span.bins.find? fun b => decide (b.track = e.id)).toList.map fun b =>
      ⟨kindWire, s.cmd.station.setWidth 8, b.wirePayload cause⟩) ++
    (runKinds.filterMap fun k => (openRun s.span e.id k).map fun r => exceedance s r cause) ++
    [⟨kindTrackEnd, s.cmd.station.setWidth 8, e.payload⟩]

/-- From u to t a span closed report has reached drain control (R181). Where the drain does not wait for it, nothing happens.
With a context in use the drain waits for assembly again; with none and a late release, for the pipeline, or, with nothing in
the pipeline either, it asks for a second drain close. Otherwise the part enters STANDBY: ports in SEEKING, ACTIVE and LOST go
IDLE with their timers stopped (R7), a staged plan becomes active (R38), and STATUS OPERATING_STATE is offered, which class B
room admits. -/
structure ReachesDrain (u t : State) : Prop where
  other : u.cmd.drain ≠ .waitingSpan → t = u
  assembly : u.cmd.drain = .waitingSpan → u.asm.contexts ≠ [] →
    t = { u with cmd := { u.cmd with drain := .waitingAssembly } }
  pipeline : u.cmd.drain = .waitingSpan → u.asm.contexts = [] → u.cmd.lateMark = true → 0 < u.cmd.tally →
    t = { u with cmd := { u.cmd with drain := .waitingPipeline } }
  again : u.cmd.drain = .waitingSpan → u.asm.contexts = [] → u.cmd.lateMark = true → u.cmd.tally = 0 →
    t = { u with cmd := { u.cmd with lateMark := false }, paths := { u.paths with drainRequest := true } }
  standby : u.cmd.drain = .waitingSpan → u.asm.contexts = [] → u.cmd.lateMark = false →
    OnlyChanges [.roof, .seq, .out, .cmd] u t ∧ t.cmd = { u.cmd with op := .standby, drain := .none } ∧
      t.seq = { u.seq with active := u.seq.staged.getD u.seq.active, staged := none } ∧
      t.roof.enabled = u.roof.enabled ∧
      (∀ p, (u.port p).state ∈ ([.seeking, .active, .lost] : List PortState) →
        t.port p = { u.port p with state := .idle, silence := none }) ∧
      (∀ p, (u.port p).state ∉ ([.seeking, .active, .lost] : List PortState) → t.port p = u.port p) ∧
      (u.out.records.length + (if u.out.reserved = true then 1 else 0) < 60 →
        ∃ f, ShowsStatus f u.cmd.station .operatingState .standby t.roof ∧ t.out = withStatus u.out f)

/-- A row has something to act on that a pending span closed report can wait for (log entry 21): a trigger on its way, or a report
at the head of its path. -/
def ActsBeforeSpanClosed (s : State) (c : Instr) : Prop :=
  (c = .triggerArrival ∧ 0 < s.seq.onWay) ∨
    (∃ n rest, c = .runOpeningReport ∧ s.paths.reports = .runOpened n :: rest) ∨
    ∃ k rest, c = .scanFinishedReport ∧ s.paths.reports = .scanFinished k :: rest

/-! ### Track ids (R124) -/

/-- The track id after another, wrapping from 65,535 to 1. -/
def nextTrackId (id : Nat) : Nat := if id = 65535 then 1 else id + 1

/-- Births take these ids, one after another: each takes the first value from the counter on that no live track holds, and the
counter is set to the value after it (R124). -/
def TakesIds (live : List Nat) (next : Nat) : List Nat → Nat → Prop
  | [], after => after = next
  | id :: ids, after =>
    (∃ k, id = nextTrackId^[k] next ∧ id ∉ live ∧ ∀ j < k, nextTrackId^[j] next ∈ live) ∧
      TakesIds (live ++ [id]) (nextTrackId id) ids after

/-! ### Calibration sets and wire types (R85, R113) -/

/-- The knots of a list lie in a range. -/
def KnotsWithin (lo hi : Int) (k : List Int) : Prop := ∀ x ∈ k, lo ≤ x ∧ x ≤ hi

/-- A calibration set that R85 lets pass. -/
structure CalSet.Valid (c : CalSet) : Prop where
  columns : KnotsWithin (-2000000) 2000000 c.columns
  monotone : c.columns.Pairwise (· < ·) ∨ c.columns.Pairwise (· > ·)
  ranges : KnotsWithin 1 4000000 c.ranges
  rising : c.ranges.Pairwise (· < ·)
  reference : 100000 ≤ c.reference ∧ c.reference ≤ 3000000
  lateral : -1500000 ≤ c.mountLateral ∧ c.mountLateral ≤ 1500000
  height : 0 ≤ c.mountHeight ∧ c.mountHeight ≤ 2000000
  weight : 1 ≤ c.weight ∧ c.weight ≤ 255
  priority : c.priority ≤ 3
  window : c.colLo ≤ c.colHi ∧ c.colHi ≤ 2047 ∧ c.rangeLo ≤ c.rangeHi ∧ c.rangeHi ≤ 4095

/-- A wire type that R113 lets pass. -/
structure WireSlot.Valid (w : WireSlot) : Prop where
  nominal : 1 ≤ w.nominal ∧ w.nominal ≤ 30000
  step : 100 ≤ w.step ∧ w.step ≤ 2000
  count : w.table.length = 33
  entries : ∀ x ∈ w.table, 0 ≤ x ∧ x ≤ w.nominal
  falling : w.table.Pairwise (· ≥ ·)

/-- A value lies outside a range. -/
def Outside (lo hi x : Int) : Prop := x < lo ∨ hi < x

/-- A field of a LOAD_HEAD_CAL for a port index fails (R85, Table 6-1): the index; a column knot outside its range, equal to C[0]
as C[1], or, from C[2] on, not beyond the knot before it in the direction that C[0] and C[1] fix; a range knot outside its range or
not above the knot before it; any later field outside its range, or the upper of a pair below the lower. -/
def calFieldFails (port : Nat) (c : CalSet) (field : Nat) : Prop :=
  let column (k : Nat) : Int := c.columns.getD k 0
  let range (k : Nat) : Int := c.ranges.getD k 0
  if field = 0 then 3 < port
  else if field ≤ 17 then
    Outside (-2000000) 2000000 (column (field - 1)) ∨ (field = 2 ∧ column 1 = column 0) ∨
      (3 ≤ field ∧ column 0 < column 1 ∧ column (field - 1) ≤ column (field - 2)) ∨
      (3 ≤ field ∧ column 1 < column 0 ∧ column (field - 2) ≤ column (field - 1))
  else if field ≤ 34 then
    Outside 1 4000000 (range (field - 18)) ∨ (19 ≤ field ∧ range (field - 18) ≤ range (field - 19))
  else match field with
    | 35 => Outside 100000 3000000 c.reference
    | 36 => Outside (-1500000) 1500000 c.mountLateral
    | 37 => Outside 0 2000000 c.mountHeight
    | 38 => Outside 1 255 c.weight
    | 39 => 3 < c.priority
    | 40 => 255 < c.minIntensity
    | 41 => 2047 < c.colLo
    | 42 => 2047 < c.colHi ∨ c.colHi < c.colLo
    | 43 => 4095 < c.rangeLo
    | 44 => 4095 < c.rangeHi ∨ c.rangeHi < c.rangeLo
    | _ => False

/-- A field of a LOAD_WIRE_TYPE for a slot number fails (R113, Table 7-2): the number; the nominal thickness or the width step
outside its range; T[0] negative or above the nominal thickness; a later entry negative or above the entry before it. -/
def wireFieldFails (slot : Nat) (w : WireSlot) (field : Nat) : Prop :=
  let entry (j : Nat) : Int := w.table.getD j 0
  match field with
  | 0 => 7 < slot
  | 1 => Outside 1 30000 w.nominal
  | 2 => Outside 100 2000 w.step
  | 3 => entry 0 < 0 ∨ w.nominal < entry 0
  | j + 4 => j < 32 ∧ (entry (j + 1) < 0 ∨ entry j < entry (j + 1))

/-- The first field of a command that fails. -/
def FirstFailing (fails : Nat → Prop) (field : Nat) : Prop := fails field ∧ ∀ j < field, ¬fails j

/-! ### Zone entries (R69) -/

/-- The bytes of a zone entry pass R69's test for BAD_ARGUMENT: lo below hi, one of the five kind codes, at most 4 expected wires,
a wire type up to 7, limits within their ranges, and height min not above height max where both are on. -/
structure ZoneArgLegal (b : List Byte) : Prop where
  bounds : (zoneEntryArg b).lo < (zoneEntryArg b).hi
  kind : natField b 12 1 ≤ 4
  expected : (zoneEntryArg b).expected ≤ 4
  wireType : (zoneEntryArg b).wireType ≤ 7
  stagger : (zoneEntryArg b).staggerLimit ≤ 1000000
  low : (zoneEntryArg b).heightMin ≤ 8000000
  high : (zoneEntryArg b).heightMax ≤ 8000000
  thickness : (zoneEntryArg b).minThickness ≤ 30000
  heights : (zoneEntryArg b).heightMin ≠ 0 → (zoneEntryArg b).heightMax ≠ 0 →
    (zoneEntryArg b).heightMin ≤ (zoneEntryArg b).heightMax

/-- The result of the first of R69's four tests that an entry fails, with what the entry passes of them: its fields are legal, its
wire type is loaded, it stands beyond the entry before it, and the accumulator has not passed it. -/
def zoneArgFails (legal loaded beyond ahead : Prop) : Result → Prop
  | .badArgument => ¬legal
  | .notLoaded => legal ∧ ¬loaded
  | .order => legal ∧ loaded ∧ ¬beyond
  | .staleZone => legal ∧ loaded ∧ beyond ∧ ¬ahead
  | _ => False

/-! ### Invariants -/

/-- The stores hold no more than the manual gives them, the trunk transmitter sends what stands at a queue's head, and no
reply reservation stays open between commands (R2, R48, R68, R112, R122, R161, R163, R165, R166; Law 8). -/
structure Capacity (s : State) : Prop where
  frames : ∀ r w, s.openFrame r = some w → w.stored.length = min 326 w.total
  record : s.out.tx = .record → s.out.records ≠ []
  rawHead : s.out.tx = .raw → s.out.raw ≠ []
  records : s.out.records.length ≤ 64
  closed : s.out.reserved = false
  raw : s.out.raw.length ≤ 16
  contexts : s.asm.contexts.length ≤ 4
  zones : s.zones.entries.length ≤ 64
  slots : s.tracks.slots.length = 6
  wires : s.merge.slots.length = 8

/-- One roof port in a legal state (Table 1-12, R7, R17): its silence timer runs in SEEKING and ACTIVE alone; it is DISABLED
exactly when it is not enabled; an enabled port is IDLE exactly in STANDBY; the relay slot holds what the downlink sends; an
idle downlink has nothing to send. -/
structure PortLegal (enabled : Bool) (op : OpState) (c : RoofPort) : Prop where
  timer : c.silence.isSome = true ↔ c.state = .seeking ∨ c.state = .active
  disabled : c.state = .disabled ↔ enabled = false
  idle : enabled = true → (c.state = .idle ↔ op = .standby)
  relay : c.tx = .config → c.relay.isSome = true
  quiet : c.tx = .idle → c.waiting = none ∧ c.relay = none

/-- The four roof ports are legal and no enabled port is absent. -/
structure PortsLegal (s : State) : Prop where
  port : ∀ p, PortLegal (s.roof.enabled.get p) s.cmd.op (s.port p)
  present : ∀ p, s.roof.enabled.get p = true → s.cmd.present.get p = true

/-- The port of the slot that is being exposed. -/
def Sequencer.exposing (q : Sequencer) : Option Port := q.slots.bind fun k => k.current.map (·.port)

/-- A strobe line is asserted exactly while its slot is being exposed, so no two lines are asserted together (R43, R44,
Law 9). -/
def LinesLegal (s : State) : Prop := ∀ p, s.seq.lines.get p = true ↔ s.seq.exposing = some p

/-- The contexts in use (R48, R49, R52, R61; Law 5): at most four, numbered consecutively up to the scan number counter,
the oldest one still collecting; and a collecting context awaits at least one strobed port, none of which has
delivered. -/
structure ContextsLegal (s : State) : Prop where
  four : s.asm.contexts.length ≤ 4
  numbers : ∀ i (h : i < s.asm.contexts.length),
    s.asm.contexts[i].scan = s.seq.scanCounter - BitVec.ofNat 16 (s.asm.contexts.length - i)
  oldest : ∀ c, s.asm.contexts.head? = some c → c.complete = false
  waits : ∀ c ∈ s.asm.contexts, c.complete = false → ∃ p, c.awaited.get p = true
  strobed : ∀ c ∈ s.asm.contexts, ∀ p, c.awaited.get p = true → c.strobed.get p = true
  absent : ∀ c ∈ s.asm.contexts, c.complete = false → ∀ p, c.awaited.get p = true → c.deliveries.get p = .absent

/-- The track table (Table 8-1, R122, R124; Law 1): six slots, ids that differ and are never 0, slopes within their limits,
and misses counted by COASTING tracks alone. -/
structure TracksLegal (s : State) : Prop where
  slots : s.tracks.slots.length = 6
  ids : (s.tracks.live.map (·.id)).Nodup
  range : ∀ t ∈ s.tracks.live, 1 ≤ t.id ∧ t.id ≤ 65535
  next : 1 ≤ s.tracks.nextId ∧ s.tracks.nextId ≤ 65535
  slope : ∀ t ∈ s.tracks.live, -100000 ≤ t.slope ∧ t.slope ≤ 100000
  misses : ∀ t ∈ s.tracks.live, (t.state = .coasting ↔ 1 ≤ t.misses)

/-- The zone queue (R68, R74; Law 3): at most 64 entries, each with lo below hi, each beyond every entry before it in the
run direction; and no current zone in an empty queue. -/
structure ZonesLegal (s : State) : Prop where
  room : s.zones.entries.length ≤ 64
  bounds : ∀ e ∈ s.zones.entries, e.lo < e.hi
  order : s.zones.entries.Pairwise fun a b =>
    match s.cmd.params.direction with
    | .increasing => a.hi ≤ b.lo
    | .decreasing => b.hi ≤ a.lo
  current : s.zones.current = true → s.zones.entries ≠ []

/-- The odometer unit's ranges (Table 2-1, R22, R26). -/
structure OdometerLegal (s : State) : Prop where
  low : -(2147483647 * 65536) ≤ s.odo.units
  high : s.odo.units ≤ 2147483647 * 65536
  spacing : 1 ≤ s.odo.spacing ∧ s.odo.spacing ≤ 256
  divider : s.odo.divider ≤ 256

/-- A strobe plan inside the ranges of Table 3-1. -/
def Plan.InRange (p : Plan) : Prop :=
  (∀ k, 1 ≤ p.exposure.get k ∧ p.exposure.get k ≤ 2000) ∧ p.guard ≤ 255 ∧ p.firstDelay ≤ 1000

/-- The plan store and the operating state (R35, R36, R38, Table 11-1): plans in range; in RUNNING and DRAINING no plan longer
than 4,000 µs over the enabled ports; no staged plan in STANDBY; a drain in progress exactly in DRAINING. -/
structure PlansLegal (s : State) : Prop where
  active : s.seq.active.InRange
  staged : ∀ p, s.seq.staged = some p → p.InRange
  activeLength : s.cmd.op ≠ .standby → s.seq.active.length s.roof.enabled ≤ 4000
  stagedLength : ∀ p, s.seq.staged = some p → p.length s.roof.enabled ≤ 4000
  standby : s.cmd.op = .standby → s.seq.staged = none
  drain : s.cmd.drain = .none ↔ s.cmd.op ≠ .draining

/-- The run store (R151, R154; Law 12): at most one open run for a track and kind, none of kind COUNT among them, and the
COUNT run of kind COUNT with track id 0. -/
structure RunsLegal (s : State) : Prop where
  keys : s.span.runs.Pairwise fun a b => ¬(a.track = b.track ∧ a.kind = b.kind)
  kinds : ∀ r ∈ s.span.runs, r.kind ≠ .count
  count : ∀ r, s.span.count = some r → r.kind = .count ∧ r.track = 0

/-- The scans that have been resolved and not been reported finished, oldest first (R75, R78). -/
def inPipeline (p : Paths) : List Word16 :=
  p.reports.filterMap (fun | .scanFinished k => some k | .runOpened _ => none) ++
    p.toSpan.filterMap (fun | .tracks l => some l.header.scan | .stop _ => none) ++
    p.toTrack.map (·.header.scan) ++ p.toMerge.map (·.header.scan) ++ p.toGeo.map (·.scan.scan)

/-- Whether an arrival at the span unit is a stop list. -/
def SpanArrival.isStop : SpanArrival → Bool
  | .stop _ => true
  | .tracks _ => false

/-- What the units hold between START and the end of the drain (R47, R63, R67, R78, R172, R180, R181). The tally and scans in
flight count what the paths hold. Every entry of the closing list waits for a scan that is still in the pipeline. While the
drain waits for the span unit, one close request, stop list or span closed report is under way, and with the late release
mark clear nothing comes after it. In STANDBY nothing is under way: no trigger, no scan, no entry of the closing list, no
live track. -/
structure DrainLegal (s : State) : Prop where
  progress : s.cmd.drain = .none ↔ s.cmd.op ≠ .draining
  tally : s.cmd.tally =
    s.paths.toZone.length + s.paths.toGeo.length + s.paths.toMerge.length + s.paths.toTrack.length
  flight : s.zones.inFlight = (inPipeline s.paths).length
  last : ∀ k, (inPipeline s.paths).getLast? = some k → k = s.zones.lastScan
  closing : ∀ c ∈ s.zones.closing, c.tag ∈ inPipeline s.paths
  token : s.paths.drainRequest.toNat + s.paths.toSpan.countP SpanArrival.isStop + s.paths.spanClosed.toNat =
    if s.cmd.drain = .waitingSpan then 1 else 0
  after : s.cmd.drain = .waitingSpan → s.cmd.lateMark = false →
    s.cmd.tally = 0 ∧ (s.paths.drainRequest = false → s.tracks.live = []) ∧
      (s.paths.spanClosed = true → s.paths.toSpan = []) ∧
      ∀ before l rest, s.paths.toSpan = before ++ l :: rest → l.isStop = true → rest = []
  standby : s.cmd.op = .standby →
    s.asm.contexts = [] ∧ s.cmd.tally = 0 ∧ s.paths.toSpan = [] ∧ s.paths.reports = [] ∧ s.seq.onWay = 0 ∧
      s.tracks.live = []

/-- Whether a record's kind is WIRE, TRACK_END, EXCEEDANCE or ZONE (R157). -/
def measures (f : Frame) : Bool := decide (f.kind ∈ [kindWire, kindTrackEnd, kindExceedance, kindZone])

/-- Every step keeps an invariant, from every state that meets it. -/
def Kept (inv : State → Prop) : Prop := ∀ s t, inv s → step s = .next t → inv t

/-! ### Balances of the counters -/

/-- Law 7 (R13): as long as the good PROFILE frames counter of a port has not saturated, it equals the sum of the port's six
dispositions. -/
def PortBalance (s : State) : Prop :=
  ∀ p, (s.port p).counters.goodProfiles.toNat < Config.counterMax →
    (s.port p).counters.goodProfiles.toNat =
      (s.port p).counters.accepted.toNat + (s.port p).counters.duplicate.toNat + (s.port p).counters.late.toNat +
        (s.port p).counters.stray.toNat + (s.port p).counters.idleDiscards.toNat +
        (s.port p).counters.disabledDiscards.toNat

/-- R121: as long as clusters formed has not saturated, it equals clusters handed on plus clusters dropped; handed on equals
wear samples plus without wear; and wear samples equals the four ports' wear sources. -/
def MergeBalance (s : State) : Prop :=
  s.merge.counters.formed.toNat < Config.counterMax →
    s.merge.counters.formed.toNat = s.merge.counters.handedOn.toNat + s.merge.counters.dropped.toNat ∧
    s.merge.counters.handedOn.toNat = s.merge.counters.wearSamples.toNat + s.merge.counters.withoutWear.toNat ∧
    s.merge.counters.wearSamples.toNat =
      s.merge.sources.h0.toNat + s.merge.sources.h1.toNat + s.merge.sources.h2.toNat + s.merge.sources.h3.toNat

/-- R103: as long as segments examined of a port has not saturated, it equals noise drops plus window drops plus detections
made, and clipped segments is a part of detections made. -/
def GeometryBalance (s : State) : Prop :=
  ∀ p, (s.geo.ports.get p).examined.toNat < Config.counterMax →
    (s.geo.ports.get p).examined.toNat =
      (s.geo.ports.get p).noise.toNat + (s.geo.ports.get p).window.toNat + (s.geo.ports.get p).detections.toNat ∧
    (s.geo.ports.get p).clipped.toNat ≤ (s.geo.ports.get p).detections.toNat

/-- R34: as long as the good frames counter of the motion receiver has not saturated, it equals samples taken plus invalid
samples. -/
def MotionBalance (s : State) : Prop :=
  s.motion.rx.good.toNat < Config.counterMax →
    s.motion.rx.good.toNat = s.motion.counters.taken.toNat + s.motion.counters.invalid.toNat

/-- Law 6 (R28, R47, R65): as long as the counter on the left has not saturated, triggers equals scans started plus
overrun-busy plus overrun-context plus the triggers on their way, and scans started equals scans released plus the contexts in
use. -/
def TriggerBalance (s : State) : Prop :=
  (s.odo.counters.triggers.toNat < Config.counterMax →
    s.odo.counters.triggers.toNat =
      s.seq.counters.started.toNat + s.seq.counters.overrunBusy.toNat + s.seq.counters.overrunContext.toNat +
        s.seq.onWay) ∧
    (s.seq.counters.started.toNat < Config.counterMax →
      s.seq.counters.started.toNat = s.asm.released.toNat + s.asm.contexts.length)

/-- R140: as long as the counter on the left has not saturated, detections received equals hits plus births plus table full
discards; births equals confirmations plus tentatives dropped plus the live TENTATIVE tracks; and confirmations equals ends by
misses plus ends at stop plus the live CONFIRMED and COASTING tracks. The cluster lists that wait number their detections apart
(R119). -/
structure TrackBalance (s : State) : Prop where
  received : s.tracks.counters.received.toNat < Config.counterMax →
    s.tracks.counters.received.toNat =
      s.tracks.counters.hits.toNat + s.tracks.counters.births.toNat + s.tracks.counters.fullDiscards.toNat
  births : s.tracks.counters.births.toNat < Config.counterMax →
    s.tracks.counters.births.toNat =
      s.tracks.counters.confirmations.toNat + s.tracks.counters.dropped.toNat +
        s.tracks.live.countP fun k => k.state == .tentative
  confirmations : s.tracks.counters.confirmations.toNat < Config.counterMax →
    s.tracks.counters.confirmations.toNat =
      s.tracks.counters.endsMisses.toNat + s.tracks.counters.endsStop.toNat + s.tracks.reported.length
  indices : ∀ l ∈ s.paths.toTrack, (l.items.map (·.index)).Nodup

/-! ### Balances counted from a point (R83, R160, R170, R184) -/

/-- The rows that return counters to 0, where they are carried out (R176, R182, R183). -/
def clearsCounters : Instr → Bool
  | .clearCounters _ _ _ => true
  | .reset _ _ _ => true
  | .hardReset => true
  | .hardResetEnd _ _ _ _ => true
  | _ => false

/-- Every step but one that clears the counters moves both sides of a balance by the same amount, from a state that meets a
condition to one in which no counter of the balance has saturated: so the sides stay equal if each is counted from any
point at which they are. -/
def Carried (meets : State → Prop) (counters : State → List Counter) (left right : State → Nat) : Prop :=
  ∀ s t, meets s → (∀ c, s.pending.head? = some c → clearsCounters c = false) → step s = .next t →
    (∀ c ∈ counters t, c.toNat < Config.counterMax) → left t + right s = left s + right t

/-- The other side of R83's balance of entries appended: passed, skipped, flushed, and the entries held. -/
def zonesAccounted (s : State) : Nat :=
  s.zones.counters.passed.toNat + s.zones.counters.skipped.toNat + s.zones.counters.flushed.toNat +
    s.zones.entries.length

/-- The other side of R160's balance of bins opened: bins closed and the open bins. -/
def binsAccounted (s : State) : Nat := s.span.counters.binsClosed.toNat + s.span.bins.length

/-- The other side of R160's balance of runs opened: released, closed by event, and the open runs, the COUNT run among
them. -/
def runsAccounted (s : State) : Nat :=
  s.span.counters.runsReleased.toNat + s.span.counters.runsByEvent.toNat + s.span.runs.length +
    s.span.count.toList.length

/-- The other side of R170's balance of records admitted: records sent and the records held. -/
def recordsAccounted (s : State) : Nat := s.out.counters.sent.toNat + s.out.records.length

/-- The other side of R170's balance of raw frames admitted: raw frames sent and the raw frames held. -/
def rawAccounted (s : State) : Nat := s.out.counters.rawSent.toNat + s.out.raw.length

/-- The other side of R184's balance of the trunk receiver's good frames: taken, dropped and misaddressed commands. -/
def commandsAccounted (s : State) : Nat :=
  s.cmd.counters.taken.toNat + s.cmd.counters.dropped.toNat + s.cmd.counters.misaddressed.toNat

/-- The tracks that an arrival at the span unit continues (R136). -/
def SpanArrival.continues : SpanArrival → List Nat
  | .tracks l => l.entries.filterMap fun | .continuing id _ _ => some id | _ => none
  | .stop _ => []

/-- The tracks that an arrival at the span unit confirms (R136). -/
def SpanArrival.confirms : SpanArrival → List Nat
  | .tracks l => l.entries.filterMap fun | .confirmed id _ => some id | _ => none
  | .stop _ => []

/-- The tracks that an arrival at the span unit ends (R136, R138). -/
def SpanArrival.ends : SpanArrival → List Nat
  | .tracks l => l.entries.filterMap fun | .ended e => some e.id | _ => none
  | .stop l => l.entries.map (·.id)

/-- An arrival fits the tracks that have an open bin: it has one entry for a track, continues and ends tracks with a bin alone, and
confirms tracks without one alone; but it may confirm a track under the id of one that it ends (R124, R136, log entry 23). -/
structure SpanArrival.Fits (a : SpanArrival) (open_ : List Nat) : Prop where
  after : (a.continues ++ a.confirms).Nodup
  before : (a.continues ++ a.ends).Nodup
  known : ∀ id ∈ a.continues ++ a.ends, id ∈ open_
  fresh : ∀ id ∈ a.confirms, id ∈ open_ → id ∈ a.ends

/-- The open bins are keyed by track id and the open runs by track id and kind (R141), and what arrives next at the span unit fits
the open bins (R124, R136). -/
structure SpanKeyed (s : State) : Prop where
  bins : (s.span.bins.map (·.track)).Nodup
  runs : s.span.runs.Pairwise fun a b => ¬(a.track = b.track ∧ a.kind = b.kind)
  fits : ∀ a rest, s.paths.toSpan = a :: rest → a.Fits (s.span.bins.map (·.track))

/-- From the tracks with an open bin on, each arrival that waits fits those that have one when its turn comes; and when all have
been taken, the open bins are those of the tracks reported (R136, R138, R141, R145, R149). -/
def FollowsTable (reported : List Nat) : List Nat → List SpanArrival → Prop
  | open_, [] => ∀ id, id ∈ open_ ↔ id ∈ reported
  | open_, a :: rest =>
    a.Fits open_ ∧ FollowsTable reported ((open_.filter fun id => decide (id ∉ a.ends)) ++ a.confirms) rest

/-- The span unit follows the track table: its bins and runs are keyed (R141), and the lists on their way lead from the open bins
to those of the tracks that are CONFIRMED or COASTING. -/
structure SpanFollows (s : State) : Prop where
  bins : (s.span.bins.map (·.track)).Nodup
  runs : s.span.runs.Pairwise fun a b => ¬(a.track = b.track ∧ a.kind = b.kind)
  follows : FollowsTable (s.tracks.reported.map (·.id)) (s.span.bins.map (·.track)) s.paths.toSpan

end Sys2Proof.Machine
end

