-- ==== Sys2Proof/Certificates/Slice0/Obligations.lean ====
section
/-! DEFINITION. The statements for the provers, in the order of the manual's chapters but for the step and the resets, which
come first, and the invariants and balances, which come last. -/

section Statements

open Sys2Proof Sys2Proof.Machine

/-! ### The step and the queue -/

/-- A step runs the command at the front of the queue on the state with the queue's rest. On an empty queue the block is the
clock, which is the model's choice (log entry 1): the timed events that are due at the timebase reading join the queue, in the
order exposure end, slot start, busy window close (R39), deadlines in start order (R50), silence timers in ascending port
index (R9), hold age (R32); where none is due, or while the reset line is held, the timebase advances by one microsecond. A slot
start is due at its offset where no slot is exposed or the exposure ends now (R43, R44). -/
def Obligations.StepRunsFront : Prop :=
  (∀ (c : Instr) (rest : List Instr) (s : State),
    step { s with pending := c :: rest } = exec c { s with pending := rest }) ∧
  ∀ s : State, s.pending = [] →
    let since (t : Time) : Nat := (s.timebase - t).toNat
    let slots : List Instr := match s.seq.slots with
      | none => []
      | some q =>
        let starts : List Instr := match q.remaining with
          | [] => []
          | k :: _ => if k.offset ≤ since q.trigger then [.slotStart k.port] else []
        match q.current with
        | none => starts
        | some k => if k.offset + k.exposure ≤ since q.trigger then .exposureEnd k.port :: starts else []
    let busy : List Instr := match s.seq.busy with
      | none => []
      | some w => if w.length ≤ since w.trigger then [.busyWindowClose] else []
    let deadlines : List Instr :=
      (s.asm.contexts.filter fun c =>
        decide (c.complete = false ∧ (c.deadline - c.trigger).toNat ≤ since c.trigger)).map fun c =>
          .deadlineReached c.scan
    let silences : List Instr :=
      (([.h0, .h1, .h2, .h3] : List Port).filter fun p => match (s.port p).silence with
        | none => false
        | some t => decide (s.cmd.params.silenceTimeout * 1000 ≤ since t)).map .silenceTimerExpiry
    let age : List Instr := match s.motion.held with
      | none => []
      | some h => if h.old = false ∧ 1000000 ≤ since h.arrival then [.holdAgeExpiry] else []
    let due := slots ++ busy ++ deadlines ++ silences ++ age
    (s.held = true ∨ due = [] → step s = .next { s with timebase := s.timebase + 1 }) ∧
      (s.held = false → due ≠ [] → step s = .next { s with pending := due })

/-- Every command, in every state, answers a next state and leaves the waiting commands as they are: the part has no fault
and nothing is refused. An event whose own condition does not hold is no event in this model (log entry 12). -/
def Obligations.EveryCommandAnswersNext : Prop :=
  ∀ (c : Instr) (s : State), ∃ t, exec c s = .next t ∧ t.pending = s.pending

/-! ### Resets (R182, R183) -/

/-- While the reset line is held the part receives and sends nothing (R182). The model's reading of it: no row but the two of the
trunk link and the two of the reset line itself does anything, so the timed events, line changes and hand-overs leave the state as
it is (DEDUCED, log entry 14), and LINK_UP and LINK_DOWN are left out here because the link's indication still follows the line
(DESIGN CHOICE, log entry 2). -/
def Obligations.HeldPartIsSilent : Prop :=
  ∀ (s : State) (c : Instr), s.held = true → c ≠ .linkUp → c ≠ .linkDown → c ≠ .hardReset →
    (∀ a m x y, c ≠ .hardResetEnd a m x y) → exec c s = .next s

/-- HARD_RESET: the line is asserted. Frames being sent are cut off, nothing waits to be sent, the strobe lines are
deasserted, and every table and queue is emptied, with no calibration set and no wire type loaded; the straps are not latched yet
(R182). How R182 is split over the two rows of the reset line is the model's reading (log entry 14), and so is that nothing is left
on its way between the units, reports and a close request among them (log entry 13). Frames open in the receivers are discarded
(R2). -/
def Obligations.HardResetAsserted : Prop :=
  ∀ s : State, ∃ t, exec .hardReset s = .next t ∧
    t.held = true ∧ t.pending = s.pending ∧ (∀ r, t.openFrame r = none) ∧
    (∀ p, t.seq.lines.get p = false) ∧ t.seq.slots = none ∧ t.seq.busy = none ∧
    (∀ p, (t.port p).tx = .idle ∧ (t.port p).waiting = none ∧ (t.port p).relay = none) ∧
    t.out.records = [] ∧ t.out.raw = [] ∧ t.out.tx = .free ∧ t.out.reserved = false ∧
    t.asm.contexts = [] ∧ t.zones.entries = [] ∧ t.zones.closing = [] ∧ t.span.bins = [] ∧ t.span.runs = [] ∧
    t.span.count = none ∧ t.tracks.live = [] ∧ t.paths = {} ∧
    (∀ p, (t.geo.cal.get p).loaded = false) ∧ (∀ w ∈ t.merge.slots, w.loaded = false) ∧ t.cmd.op = .standby ∧
    t.cmd.station = s.cmd.station ∧ t.cmd.present = s.cmd.present

/-- HARD_RESET_END: the straps are latched, every block stands at its hard reset values, the timebase is 0, and one STATUS
record with cause OPERATING_STATE is the only record queued (R182 and the reset values of Tables 2-1, 2-7, 3-3, 5-2, 9-1,
11-1, 11-3 and of R2, R5, R10, R17, R48, R84, R112, R122, R124, R168). The output unit holds nothing else: its counters show the
one record admitted, and the transmitter sends it if the link is up (R166, R168). Four clauses are the model's reading. It does so
in every state, since the end of the power-on reset is the same row (log entry 14); nothing is left on its way between the units,
reports to the zone queue unit among them (log entry 13), nor a trigger on its way to the sequencer (log entry 6); the number of the
most recent scan is 0 (log entry 4); and the trunk link's indication stays as it is (log entry 2). -/
def Obligations.HardResetValues : Prop :=
  ∀ (s : State) (station : BitVec 4) (present : PortSet) (oda odb : Bool),
    ∃ t, exec (.hardResetEnd station present oda odb) s = .next t ∧
      t.timebase = 0 ∧ t.held = false ∧ t.pending = s.pending ∧
      t.roof.enabled = present ∧
      (∀ p, t.port p =
        { state := if present.get p = true then .idle else .disabled, headId := BitVec.ofNat 8 p.index }) ∧
      t.motion.frame = none ∧ t.motion.held = none ∧ t.motion.sinceStart = false ∧ t.motion.rx = {} ∧
      t.motion.counters = {} ∧
      t.odo.oda = oda ∧ t.odo.odb = odb ∧ t.odo.mm = 0 ∧ t.odo.fraction = 0 ∧ t.odo.sense = .increasing ∧
      t.odo.saturated = false ∧ t.odo.epoch = 0 ∧ t.odo.spacing = 16 ∧ t.odo.divider = 16 ∧ t.odo.counters = {} ∧
      t.seq.active = ⟨⟨200, 200, 200, 200⟩, 20, 50⟩ ∧ t.seq.staged = none ∧ t.seq.busy = none ∧
      t.seq.scanCounter = 0 ∧ t.seq.slots = none ∧ t.seq.lines = ⟨false, false, false, false⟩ ∧
      t.seq.onWay = 0 ∧ t.seq.counters = {} ∧
      t.asm = {} ∧
      t.zones.entries = [] ∧ t.zones.current = false ∧ t.zones.flushMark = false ∧ t.zones.exhausted = false ∧
      t.zones.closing = [] ∧ t.zones.inFlight = 0 ∧ t.zones.lastScan = 0 ∧ t.zones.nextEntry = 0 ∧
      t.zones.counters = {} ∧
      t.paths = {} ∧
      (∀ p, (t.geo.cal.get p).loaded = false) ∧ (∀ p, t.geo.ports.get p = {}) ∧ t.geo.without = 0 ∧
      (∀ w ∈ t.merge.slots, w.loaded = false) ∧
      t.merge.slots.length = 8 ∧ t.merge.counters = {} ∧ (∀ p, t.merge.sources.get p = 0) ∧
      t.tracks.slots = List.replicate 6 none ∧ t.tracks.nextId = 1 ∧ t.tracks.last = none ∧
      t.tracks.counters = {} ∧
      t.span.bins = [] ∧ t.span.runs = [] ∧ t.span.count = none ∧ t.span.prevSense = .increasing ∧
      t.span.prevEpoch = 0 ∧ t.span.counters = {} ∧
      t.cmd.frame = none ∧ t.cmd.op = .standby ∧ t.cmd.station = station ∧ t.cmd.present = present ∧ t.cmd.drain = .none ∧
      t.cmd.lateMark = false ∧ t.cmd.tally = 0 ∧ t.cmd.rx = {} ∧ t.cmd.counters = {} ∧
      t.cmd.params =
        { stepLength := 183501, odoSense := .aLeadsIncreasing, binLength := 1000, lateralGate := 25000,
          heightGate := 100000, mergeLateral := 8000, mergeHeight := 50000, confirmHits := 3, missLimit := 8,
          releaseScans := 3, assemblyTimeout := 5000, motionMaxAge := 5000, silenceTimeout := 100,
          direction := .increasing, defaultWire := 0, roofHeight := 3900000, forward := ⟨0, 0, 0, 0⟩,
          motionId := 0 } ∧
      ∃ f, ShowsStatus f station .operatingState .standby t.roof ∧
        t.out =
          { records := [f], reserved := false, lossFlag := false, notice := true, raw := [], linkUp := s.out.linkUp
            tx := if s.out.linkUp = true then .record else .free, counters := { admitted := 1 } }

/-- RESET, taken and of the right length: every block stands at its soft reset values, the DONE reply with the number of
contexts aborted and the old operating state is the first record, and a STATUS record follows it if that state was not
STANDBY (R183). The output unit holds nothing else: its counters show these records admitted, and the transmitter sends the first
if the link is up (R166, R168). Every assembly counter is 0 but for scans aborted, which keeps its value and adds the contexts
aborted (R183). Five clauses are the model's reading: that value, where R64 and R65 say 0 (log entry 7); nothing is left on its
way between the units, reports to the zone queue unit among them (log entry 13); no trigger is on its way to the sequencer (log
entry 6); the number of the most recent scan is 0 (log entry 4); and the trunk link's indication stays as it is (log entry 2). -/
def Obligations.SoftResetValues : Prop :=
  ∀ (s : State) (address tag : Byte), Taken s address [] →
    ∃ t, exec (.reset address tag []) s = .next t ∧
      t.timebase = 0 ∧ t.held = false ∧ t.pending = s.pending ∧
      t.roof.enabled = s.roof.enabled ∧
      (∀ p, t.port p =
        { state := if s.roof.enabled.get p = true then .idle else .disabled, headId := (s.port p).headId }) ∧
      t.motion = {} ∧ t.odo = { oda := s.odo.oda, odb := s.odo.odb } ∧ t.seq = { active := s.seq.active } ∧
      t.asm = { aborted := bumpBy s.asm.aborted s.asm.contexts.length } ∧
      t.paths = {} ∧ t.zones = {} ∧ t.geo = { cal := s.geo.cal } ∧ t.merge = { slots := s.merge.slots } ∧
      t.tracks = { nextId := s.tracks.nextId } ∧ t.span = {} ∧
      t.cmd =
        { station := s.cmd.station, present := s.cmd.present, params := s.cmd.params, counters := { taken := 1 } } ∧
      ∃ f, f = replyFrame s.cmd.station 0x4F tag
          { result := .done, data := [BitVec.ofNat 8 s.asm.contexts.length, BitVec.ofNat 8 s.cmd.op.code] } ∧
        let holds (records : List Frame) (admitted : Counter) : Output :=
          { records := records, reserved := false, lossFlag := false, notice := true, raw := []
            linkUp := s.out.linkUp, tx := if s.out.linkUp = true then .record else .free
            counters := { admitted := admitted } }
        (s.cmd.op = .standby → t.out = holds [f] 1) ∧
        (s.cmd.op ≠ .standby →
          ∃ g, ShowsStatus g s.cmd.station .operatingState .standby t.roof ∧ t.out = holds [f, g] 2)

/-! ### Chapter 1: frames and the roof ports -/

/-- The check of R1 has its reference value. A frame built as R1 says and received whole, in one piece or two, before its end
delimiter meets the framing check, the Length and the Check of R3 whatever its payload of 0 to 320 bytes: what is left to judge
is its kind's length rule, its Address and its Kind. So 326 bytes are stored whole (R2). -/
def Obligations.BuiltFrameIsIntact : Prop :=
  crc16 [0x31, 0x32, 0x33, 0x34, 0x35, 0x36, 0x37, 0x38, 0x39] = 0x29B1 ∧
  ∀ (rule : PortRule) (f : Frame) (a b : List Byte), f.payload.length ≤ 320 → a ++ b = frameWire f →
    checkClosed rule ((({} : OpenFrame).feed false a).feed false b) false =
      (if kindLengthOk f.kind f.payload = false then .failed .length
       else if ∃ a, rule.address = some a ∧ a ≠ f.address then .failed .address
       else if f.kind ∉ rule.kinds then .failed .kind
       else .good f)

/-- FRAME_FAILED, which is also the row of the bytes of a frame that stays open, and the frame store of R2. Bytes join the open
frame: 326 of them are stored, all of them count, and a coding violation marks it. A start delimiter closes it as a framing
failure and opens a new one. An end delimiter closes it: it is counted under the first check it fails (R3), at its own
receiver (R4), and has no further effect; a frame that fails no check belongs to another row, and nothing changes here (log
entry 12). A row of a good frame that finds a frame open there first closes it: silently where what is stored can be the row's
own frame's beginning, else as a framing failure; that the row carries the whole frame is the model's reading (log entry 5). -/
def Obligations.FailedFrameIsOnlyCounted : Prop :=
  (∀ (s : State) (r : Receiver) (rx : Reception), s.held = false →
    let before : OpenFrame := match s.openFrame r with
      | some w => w
      | none => ⟨false, [], 0⟩
    let w : OpenFrame :=
      ⟨before.violation || rx.violation, (before.stored ++ rx.bytes).take 326, before.total + rx.bytes.length⟩
    ∃ t, exec (.frameFailed r rx) s = .next t ∧ OnlyReceives r s t ∧
      (rx.ending = .stillOpen → t.openFrame r = some w ∧ t.rx r = s.rx r) ∧
      (rx.ending = .startDelimiter → t.openFrame r = some ⟨false, [], 0⟩ ∧ t.rx r = (s.rx r).oneMore .framing) ∧
      (rx.ending = .endDelimiter → w.violation = true ∨ w.total < 6 →
        t.openFrame r = none ∧ t.rx r = (s.rx r).oneMore .framing) ∧
      (∀ c, rx.ending = .endDelimiter → checkClosed (s.portRule r) w false = .failed c →
        t.openFrame r = none ∧ t.rx r = (s.rx r).oneMore c) ∧
      (∀ f, rx.ending = .endDelimiter → checkClosed (s.portRule r) w false = .good f → t = s)) ∧
  ∀ (s : State) (c : Instr) (f : Frame) (r : Receiver) (w : OpenFrame), s.held = false → c.wellFormed = true →
    c.carries = some f → receiverOf c = some r → s.openFrame r = some w →
    ∃ u, exec c s = exec c u ∧ OnlyReceives r s u ∧ u.openFrame r = none ∧
      u.rx r =
        (if w.violation = false ∧ w.stored.length = w.total ∧ w.stored <+: frameWire f then s.rx r
         else (s.rx r).oneMore .framing)

/-- R11: a good PROFILE frame at a DISABLED or IDLE port is counted and discarded. Nothing else changes. No other frame is open at
the port (R2). -/
def Obligations.ProfileDiscarded : Prop :=
  ∀ (s : State) (p : Port) (address : Byte) (payload : List Byte),
    s.held = false → (s.port p).frame = none → checkIntact (s.portRule (.roof p)) ⟨kindProfile, address, payload⟩ =
      .good ⟨kindProfile, address, payload⟩ →
    (s.port p).state = .disabled ∨ (s.port p).state = .idle →
    ∃ t, exec (.profileFrame p address payload) s = .next t ∧
      OnlyChanges [.roof] s t ∧ OnlyPort p s t ∧
      t.port p =
        { s.port p with
          counters :=
            { (s.port p).counters with
              rx := { (s.port p).counters.rx with good := bump (s.port p).counters.rx.good }
              goodProfiles := bump (s.port p).counters.goodProfiles
              idleDiscards :=
                if (s.port p).state = .idle then bump (s.port p).counters.idleDiscards
                else (s.port p).counters.idleDiscards
              disabledDiscards :=
                if (s.port p).state = .disabled then bump (s.port p).counters.disabledDiscards
                else (s.port p).counters.disabledDiscards } }

/-- PROFILE_FRAME, with no other frame open at the port. At a SEEKING or LOST port the port first becomes ACTIVE with its timer
restarted and STATUS PORT_STATE is offered, which class B room admits (R5, R8); all else is as at an ACTIVE port. There the timer
restarts (R8), bad segments and a bad condition are counted (R12), and the verdict of R51 is counted at the port (R13). A verdict
other than accepted changes nothing else (R54, R55). An accepted one gives the assembler the profile without its bad segments
(R12, R52, R53), which AcceptedProfileDelivers describes, advances the forward count of the port, leaves every other port alone, and
touches no unit but the assembler, the command unit's drain control, the paths and the output unit. When the forward count reaches
the divider it returns to 0, frames forwarded advances, and the frame is offered to the raw queue (R18). Nothing else of the port
changes. -/
def Obligations.ProfileJudged : Prop :=
  ∀ (s : State) (p : Port) (address : Byte) (payload : List Byte),
    s.held = false → (s.port p).frame = none → checkIntact (s.portRule (.roof p)) ⟨kindProfile, address, payload⟩ =
      .good ⟨kindProfile, address, payload⟩ →
    let isBad (g : Segment) : Bool :=
      decide (g.colLast < g.colFirst ∨ 2047 < g.colFirst ∨ 2047 < g.colLast ∨ 4095 < g.range)
    ((s.port p).state = .seeking ∨ (s.port p).state = .lost →
      s.out.records.length + (if s.out.reserved = true then 1 else 0) < 60 →
      let woken : Roof :=
        { s.roof with ports := s.roof.ports.set p { s.port p with state := .active, silence := some s.timebase } }
      ∃ f, ShowsStatus f s.cmd.station .portState s.cmd.op woken ∧
        exec (.profileFrame p address payload) s =
          exec (.profileFrame p address payload) { s with roof := woken, out := withStatus s.out f }) ∧
    ((s.port p).state = .active →
    ∃ t, exec (.profileFrame p address payload) s = .next t ∧ OnlyPort p s t ∧
      (let c := (s.port p).counters
      let v := classify s.asm.contexts s.seq.scanCounter p (profileScan payload)
      let n := s.cmd.params.forward.get p
      let advances := v = .accepted ∧ n ≠ 0
      let forwards := advances ∧ (s.port p).forwardCount + 1 = n
      t.port p =
        { s.port p with
          silence := some s.timebase
          forwardCount :=
            if forwards then 0
            else if advances then (s.port p).forwardCount + 1 else (s.port p).forwardCount
          counters :=
            { c with
              rx := { c.rx with good := bump c.rx.good }
              goodProfiles := bump c.goodProfiles
              badSegments := bumpBy c.badSegments ((profileSegments payload).countP isBad)
              badCondition := if 2 < (byteAt payload 2).toNat then bump c.badCondition else c.badCondition
              accepted := if v = .accepted then bump c.accepted else c.accepted
              duplicate := if v = .duplicate then bump c.duplicate else c.duplicate
              late := if v = .late then bump c.late else c.late
              stray := if v = .stray then bump c.stray else c.stray
              framesForwarded := if forwards then bump c.framesForwarded else c.framesForwarded } } ∧
      (v ≠ .accepted → OnlyChanges [.roof] s t) ∧
      (v = .accepted →
        OnlyChanges [.roof, .asm, .paths, .cmd, .out] s t ∧
        (let condition : HeadCondition := match (byteAt payload 2).toNat with
          | 0 => .ok
          | 1 => .degraded
          | _ => .failed
        let prof : Profile :=
          ⟨p, profileScan payload, condition, (profileSegments payload).filter fun g => !isBad g⟩
        let u := assemble s .accepted prof
        t.asm = u.asm ∧ t.paths = u.paths ∧ t.cmd = u.cmd) ∧
        t.out = (if forwards then (offerRaw s ⟨kindProfile, address, payload⟩).out else s.out))))

/-- R8 and R5: a good HEAD_REPLY frame at a port in SEEKING or LOST makes it ACTIVE and restarts its timer, and the STATUS
record PORT_STATE and then the reply itself join the record queue, where there is room for both under class B (R14,
R162). No other frame is open at the port (R2). -/
def Obligations.ReplyWakesPort : Prop :=
  ∀ (s : State) (p : Port) (address : Byte) (payload : List Byte),
    s.held = false → (s.port p).frame = none → s.out.reserved = false → s.out.records.length < 59 →
    checkIntact (s.portRule (.roof p)) ⟨kindHeadReply, address, payload⟩ = .good ⟨kindHeadReply, address, payload⟩ →
    (s.port p).state = .seeking ∨ (s.port p).state = .lost →
    ∃ t f, exec (.headReplyFrame p address payload) s = .next t ∧
      OnlyChanges [.roof, .out] s t ∧ OnlyPort p s t ∧
      t.port p =
        { s.port p with
          state := .active
          silence := some s.timebase
          counters :=
            { (s.port p).counters with
              rx := { (s.port p).counters.rx with good := bump (s.port p).counters.rx.good }
              relayedReplies := bump (s.port p).counters.relayedReplies } } ∧
      ShowsStatus f s.cmd.station .portState s.cmd.op t.roof ∧
      t.out = withRecord (withStatus s.out f) ⟨kindHeadReply, address, payload⟩

/-- R14: a good HEAD_REPLY frame at an IDLE or ACTIVE port is offered unchanged and counted at the port; at a DISABLED port it
is discarded and counted. No other frame is open at the port (R2). -/
def Obligations.ReplyRelayed : Prop :=
  ∀ (s : State) (p : Port) (address : Byte) (payload : List Byte),
    s.held = false → (s.port p).frame = none →
    checkIntact (s.portRule (.roof p)) ⟨kindHeadReply, address, payload⟩ = .good ⟨kindHeadReply, address, payload⟩ →
    ((s.port p).state = .idle ∨ (s.port p).state = .active →
      s.out.records.length + (if s.out.reserved = true then 1 else 0) < 60 →
      ∃ t, exec (.headReplyFrame p address payload) s = .next t ∧
        OnlyChanges [.roof, .out] s t ∧ OnlyPort p s t ∧ (t.port p).state = (s.port p).state ∧
        (t.port p).silence = (if (s.port p).state = .active then some s.timebase else (s.port p).silence) ∧
        (t.port p).counters.relayedReplies = bump (s.port p).counters.relayedReplies ∧
        t.out = withRecord s.out ⟨kindHeadReply, address, payload⟩) ∧
    ((s.port p).state = .disabled →
      ∃ t, exec (.headReplyFrame p address payload) s = .next t ∧
        OnlyChanges [.roof] s t ∧ OnlyPort p s t ∧ (t.port p).state = .disabled ∧
        (t.port p).counters.disabledReplyDiscards = bump (s.port p).counters.disabledReplyDiscards ∧
        (t.port p).counters.relayedReplies = (s.port p).counters.relayedReplies)

/-- R15 to R17: when a downlink sends an end delimiter the frame is counted sent, a HEAD_CONFIG frame leaves the relay slot,
and the next frame starts at once: the waiting TRIGGER if there is one, else the frame in the relay slot. -/
def Obligations.DownlinkGoesOn : Prop :=
  ∀ (s : State) (p : Port), s.held = false → (s.port p).tx ≠ .idle →
    ∃ t, exec (.downlinkEndDelimiter p) s = .next t ∧ OnlyChanges [.roof] s t ∧ OnlyPort p s t ∧
      (t.port p).relay = (if (s.port p).tx = .config then none else (s.port p).relay) ∧
      (t.port p).waiting = none ∧
      (t.port p).tx =
        (match (s.port p).waiting with
          | some f => .trigger f
          | none => if (s.port p).tx ≠ .config ∧ (s.port p).relay.isSome = true then .config else .idle) ∧
      (t.port p).counters =
        (if (s.port p).tx = .config then
          { (s.port p).counters with configsSent := bump (s.port p).counters.configsSent }
         else { (s.port p).counters with triggersSent := bump (s.port p).counters.triggersSent }) ∧
      (t.port p).state = (s.port p).state ∧ (t.port p).silence = (s.port p).silence ∧
      (t.port p).headId = (s.port p).headId ∧ (t.port p).forwardCount = (s.port p).forwardCount

/-- R9 and R57: when a port's silence timer has reached the timeout the port becomes LOST with its timer stopped, the expiry is
counted, no other port changes, and STATUS PORT_STATE joins the record queue where class B has room. The port leaves the awaited
set of every collecting context; one that this empties becomes COMPLETE with its missing set formed and counted (R60); and the
COMPLETE contexts at the head of the start order are released (R61), with what a release does in the command unit (R63, R172,
R181): in DRAINING the drain that waited for assembly goes on when the last context is freed. Where no collecting context awaits
the port and the oldest one is collecting, nothing else happens at all. What becomes of the contexts is said where their scan
numbers differ, as in every run (R42). -/
def Obligations.SilenceExpires : Prop :=
  ∀ (s : State) (p : Port) (since : Time),
    s.held = false → (s.port p).silence = some since →
    s.cmd.params.silenceTimeout * 1000 ≤ (s.timebase - since).toNat →
    ∃ t, exec (.silenceTimerExpiry p) s = .next t ∧ OnlyPort p s t ∧
      t.port p =
        { s.port p with
          state := .lost
          silence := none
          counters :=
            { (s.port p).counters with silenceExpiries := bump (s.port p).counters.silenceExpiries } } ∧
      OnlyChanges [.roof, .out, .asm, .paths, .cmd] s t ∧
      (s.out.records.length + (if s.out.reserved = true then 1 else 0) < 60 →
        ∃ f, ShowsStatus f s.cmd.station .portState s.cmd.op t.roof ∧ t.out = withStatus s.out f) ∧
      ((∀ c ∈ s.asm.contexts, c.complete = false → c.awaited.get p = false) →
        (∀ c, s.asm.contexts.head? = some c → c.complete = false) → OnlyChanges [.roof, .out] s t) ∧
      ((s.asm.contexts.map (·.scan)).Nodup →
        let others (c : ScanContext) : Bool :=
          ([.h0, .h1, .h2, .h3] : List Port).any fun q => decide (q ≠ p) && c.awaited.get q
        let missing (c : ScanContext) (q : Port) : Bool :=
          c.strobed.get q && (match c.deliveries.get q with | .delivered _ _ => false | _ => true)
        let pruned (c : ScanContext) : ScanContext :=
          if c.complete = true ∨ c.awaited.get p = false then c
          else if others c = true then { c with awaited := c.awaited.set p false }
          else
            { c with
              awaited := c.awaited.set p false
              complete := true
              missing := ⟨missing c .h0, missing c .h1, missing c .h2, missing c .h3⟩ }
        let after := s.asm.contexts.map pruned
        let gone := after.takeWhile (·.complete)
        t.asm.contexts = after.drop gone.length ∧
          t.paths = { s.paths with toZone := s.paths.toZone ++ gone.map ScanContext.toReleased } ∧
          t.cmd = s.cmd.released gone.length (after.drop gone.length).isEmpty ∧
          t.asm.released = bumpBy s.asm.released gone.length ∧
          t.asm.aborted = s.asm.aborted ∧ t.asm.deadlines = s.asm.deadlines ∧ t.asm.failed = s.asm.failed ∧
          ∀ q, t.asm.missing.get q =
            bumpBy (s.asm.missing.get q)
              (s.asm.contexts.countP fun c => !c.complete && c.awaited.get p && !others c && missing c q))

/-! ### Chapter 2: odometry, body motion and scan triggers -/

/-- R19 to R22, R25. A change of both lines is an odometer error: it is counted, the new pair becomes the reference pair, and
nothing else changes. A change of one line is a step: its sense follows Table 2-2 and the odometer sense; the sense is
written; the step length is added or subtracted; and the divider counts it down in RUNNING alone. Here the step neither passes
a limit nor raises a trigger, and nothing but the odometer unit changes. -/
def Obligations.LineChangeCounts : Prop :=
  ∀ (s : State) (oda odb late : Bool), s.held = false →
    (oda ≠ s.odo.oda → odb ≠ s.odo.odb →
      ∃ t, exec (.lineChange oda odb late) s = .next t ∧ OnlyChanges [.odo] s t ∧
        t.odo =
          { s.odo with
            oda := oda
            odb := odb
            counters := { s.odo.counters with errors := bump s.odo.counters.errors } }) ∧
    ((oda = s.odo.oda ↔ odb ≠ s.odo.odb) → (s.cmd.op = .running → 2 ≤ s.odo.divider) →
      let aLeads := (s.odo.oda, s.odo.odb, oda, odb) ∈
        [(false, false, true, false), (true, false, true, true), (true, true, false, true), (false, true, false, false)]
      let sense : Sense := if aLeads ↔ s.cmd.params.odoSense = .aLeadsIncreasing then .increasing else .decreasing
      let moved := if sense = .increasing then s.odo.units + s.cmd.params.stepLength
        else s.odo.units - s.cmd.params.stepLength
      moved ≤ 2147483647 * 65536 → -(2147483647 * 65536) ≤ moved →
      ∃ t, exec (.lineChange oda odb late) s = .next t ∧ OnlyChanges [.odo] s t ∧
        t.odo.oda = oda ∧ t.odo.odb = odb ∧ t.odo.sense = sense ∧
        t.odo.mm * 65536 + t.odo.fraction = moved ∧ 0 ≤ t.odo.fraction ∧ t.odo.fraction < 65536 ∧
        t.odo.divider = (if s.cmd.op = .running then s.odo.divider - 1 else s.odo.divider) ∧
        t.odo.saturated = s.odo.saturated ∧ t.odo.epoch = s.odo.epoch ∧ t.odo.spacing = s.odo.spacing ∧
        t.odo.counters =
          (if sense = .increasing then
            { s.odo.counters with increasing := bump s.odo.counters.increasing }
           else { s.odo.counters with decreasing := bump s.odo.counters.decreasing }))

/-- R22: a step beyond a limit sets the accumulator to that limit with fraction 0 and sets the saturated flag; the STATUS
record DISTANCE_SATURATED is offered if the flag was clear, and no record is if it was set. The divider keeps its count outside
RUNNING and counts the step down in RUNNING, where it raises no trigger here (R25). -/
def Obligations.DistanceSaturates : Prop :=
  ∀ (s : State) (oda odb late : Bool), s.held = false →
    (oda = s.odo.oda ↔ odb ≠ s.odo.odb) → (s.cmd.op = .running → 2 ≤ s.odo.divider) →
    (∃ t, exec (.lineChange oda odb late) s = .next t ∧
      t.odo.divider = (if s.cmd.op = .running then s.odo.divider - 1 else s.odo.divider) ∧
      (t.odo.sense = .increasing → 2147483647 * 65536 < s.odo.units + s.cmd.params.stepLength →
        t.odo.mm = 2147483647 ∧ t.odo.fraction = 0 ∧ t.odo.saturated = true) ∧
      (t.odo.sense = .decreasing → s.odo.units - s.cmd.params.stepLength < -(2147483647 * 65536) →
        t.odo.mm = -2147483647 ∧ t.odo.fraction = 0 ∧ t.odo.saturated = true) ∧
      (t.odo.saturated = s.odo.saturated → OnlyChanges [.odo] s t) ∧
      (t.odo.saturated ≠ s.odo.saturated →
        s.out.records.length + (if s.out.reserved = true then 1 else 0) < 60 →
        OnlyChanges [.odo, .out] s t ∧
        ∃ f, ShowsStatus f s.cmd.station .distanceSaturated s.cmd.op s.roof ∧ t.out = withStatus s.out f))

/-- R20 to R22 and R25: in RUNNING the step that brings the count to 0 writes the sense, is counted, moves the accumulator and holds
it to the limits, counts one trigger and reloads the count with the scan spacing; nothing else of the odometer unit changes. A step
that passes a limit with the saturated flag clear sets the flag and offers STATUS DISTANCE_SATURATED as well, which class B room
admits. A trigger that stays on its way (log entry 6) changes nothing else but the number of triggers on their way; handled at once,
it is the same as the step followed by TRIGGER_ARRIVAL. No span closed report waits, as in every run (log entry 21). -/
def Obligations.DividerRaisesTrigger : Prop :=
  ∀ (s : State) (oda odb : Bool), s.held = false →
    (oda = s.odo.oda ↔ odb ≠ s.odo.odb) → s.cmd.op = .running → s.odo.divider = 1 → s.paths.spanClosed = false →
    let aLeads := (s.odo.oda, s.odo.odb, oda, odb) ∈
      [(false, false, true, false), (true, false, true, true), (true, true, false, true), (false, true, false, false)]
    let sense : Sense := if aLeads ↔ s.cmd.params.odoSense = .aLeadsIncreasing then .increasing else .decreasing
    let moved := if sense = .increasing then s.odo.units + s.cmd.params.stepLength
      else s.odo.units - s.cmd.params.stepLength
    let limit : Int := 2147483647 * 65536
    let passes := limit < moved ∨ moved < -limit
    let c := s.odo.counters
    ∃ t, exec (.lineChange oda odb true) s = .next t ∧
      t.odo =
        { s.odo with
          oda := oda
          odb := odb
          units := if limit < moved then limit else if moved < -limit then -limit else moved
          sense := sense
          saturated := s.odo.saturated || decide passes
          divider := s.odo.spacing
          counters :=
            { c with
              increasing := if sense = .increasing then bump c.increasing else c.increasing
              decreasing := if sense = .increasing then c.decreasing else bump c.decreasing
              triggers := bump c.triggers } } ∧
      t.seq = { s.seq with onWay := s.seq.onWay + 1 } ∧
      (s.odo.saturated = true ∨ ¬passes → OnlyChanges [.odo, .seq] s t) ∧
      (s.odo.saturated = false → passes →
        OnlyChanges [.odo, .seq, .out] s t ∧
        (s.out.records.length + (if s.out.reserved = true then 1 else 0) < 60 →
          ∃ f, ShowsStatus f s.cmd.station .distanceSaturated .running s.roof ∧ t.out = withStatus s.out f)) ∧
      exec (.lineChange oda odb false) s = exec .triggerArrival t

/-- R30 and R31: a good MOTION frame of quality GOOD or DEGRADED replaces the hold with its values limited to their entry
ranges, sets the since-start indicator and is counted. One whose quality is INVALID or an undefined code is counted, and the
hold and the since-start indicator are unchanged. No other frame is open in the motion receiver (R2). -/
def Obligations.MotionFrameTaken : Prop :=
  ∀ (s : State) (payload : List Byte), s.held = false → s.motion.frame = none →
    payload.length = 13 →
    let roll := intField payload 0 4
    let shift := intField payload 4 4
    let vertical : Int := natField payload 8 4
    let cut := ¬(-50000 ≤ roll ∧ roll ≤ 50000 ∧ -500000 ≤ shift ∧ shift ≤ 500000 ∧ vertical ≤ 8000000)
    ∃ t, exec (.motionFrame s.cmd.params.motionId payload) s = .next t ∧ OnlyChanges [.motion] s t ∧
      t.motion.rx = { s.motion.rx with good := bump s.motion.rx.good } ∧
      (natField payload 12 1 ≤ 1 →
        ∃ h, t.motion.held = some h ∧ t.motion.sinceStart = true ∧
          h.roll = max (-50000) (min 50000 roll) ∧ h.shift = max (-500000) (min 500000 shift) ∧
          h.vertical = min 8000000 vertical ∧ (h.clamped = true ↔ cut) ∧ h.old = false ∧
          h.arrival = s.timebase ∧ (h.degraded = true ↔ natField payload 12 1 = 1) ∧
          t.motion.counters =
            { s.motion.counters with
              taken := bump s.motion.counters.taken
              clamped := if h.clamped = true then bump s.motion.counters.clamped else s.motion.counters.clamped
              degraded :=
                if h.degraded = true then bump s.motion.counters.degraded else s.motion.counters.degraded }) ∧
      (2 ≤ natField payload 12 1 →
        t.motion.held = s.motion.held ∧ t.motion.sinceStart = s.motion.sinceStart ∧
        t.motion.counters = { s.motion.counters with invalid := bump s.motion.counters.invalid })

/-! ### Chapters 3 and 4: the strobe sequencer and the scan assembler -/

/-- R43, Law 9: the slots of a scan, one for each strobed port in ascending port index. Each begins at least the guard after
the end of every slot before it, none begins before the first delay, and the last one ends at the plan length. -/
def Obligations.SlotsNeverOverlap : Prop :=
  ∀ (plan : Plan) (ports : PortSet),
    (plan.slots ports).map (·.port) = ports.members ∧
    (∀ k ∈ plan.slots ports, plan.firstDelay ≤ k.offset ∧ k.exposure = plan.exposure.get k.port) ∧
    (plan.slots ports).Pairwise (fun a b => a.offset + a.exposure + plan.guard ≤ b.offset) ∧
    (∀ k, (plan.slots ports).getLast? = some k → k.offset + k.exposure = plan.length ports)

/-- R40 and R41: a trigger that finds the busy window open, or no context free, is counted and has no other effect: no context
is taken, no snapshot read, the staged plan stays, the scan number, the lines and the slots are unchanged. The trigger is no
longer on its way (log entry 6), and no span closed report waits for it (log entry 21). -/
def Obligations.TriggerOverrun : Prop :=
  ∀ s : State, s.held = false → 0 < s.seq.onWay → s.paths.spanClosed = false →
    let open_ := ∃ w, s.seq.busy = some w ∧ (s.timebase - w.trigger).toNat < w.length
    (open_ → ∃ t, exec .triggerArrival s = .next t ∧ OnlyChanges [.seq] s t ∧
      t.seq =
        { s.seq with
          onWay := s.seq.onWay - 1
          counters := { s.seq.counters with overrunBusy := bump s.seq.counters.overrunBusy } }) ∧
    (¬open_ → 4 ≤ s.asm.contexts.length →
      ∃ t, exec .triggerArrival s = .next t ∧ OnlyChanges [.seq] s t ∧
        t.seq =
          { s.seq with
            onWay := s.seq.onWay - 1
            counters := { s.seq.counters with overrunContext := bump s.seq.counters.overrunContext } })

/-- R42, R49 and R33: a trigger that finds the window closed and a context free starts a scan. A staged plan becomes active; the
scan takes the counter's number and the counter advances; a context joins the tail with the snapshot (Table 2-3: with no sample
held since START it is NO_MOTION at the nominal roof height), the strobed set and the awaited set of the SEEKING and ACTIVE
ports; the busy window opens over the plan's length; the slots are laid out. With a strobed port awaited the context collects. With
none (every strobed port is LOST) it is COMPLETE at once with every strobed port missing and counted (R60), and the COMPLETE
contexts at the head of the start order are released (R61, R62), with what a release does in the command unit (R63, R172, R181);
then no context in use has the new scan's number here, as in every run (R42). The trigger comes from those on their way (log entry 6)
and no span closed report waits for it (log entry 21). Slots of an earlier scan that are still listed are replaced and every strobe
line is off, which is the model's reading (DEDUCED, log entry 16). -/
def Obligations.TriggerStartsScan : Prop :=
  ∀ s : State, s.held = false → 0 < s.seq.onWay → s.paths.spanClosed = false →
    (∀ w, s.seq.busy = some w → w.length ≤ (s.timebase - w.trigger).toNat) →
    s.asm.contexts.length < 4 →
    let awaits (p : Port) : Prop :=
      s.roof.enabled.get p = true ∧ ((s.port p).state = .seeking ∨ (s.port p).state = .active)
    ∃ t c, exec .triggerArrival s = .next t ∧ OnlyChanges [.motion, .seq, .asm, .paths, .cmd] s t ∧
      ((∃ p, awaits p) →
        OnlyChanges [.motion, .seq, .asm] s t ∧ t.asm = { s.asm with contexts := s.asm.contexts ++ [c] } ∧
        c.complete = false ∧ ∀ p, c.missing.get p = false) ∧
      ((∀ p, ¬awaits p) → (∀ k ∈ s.asm.contexts, k.scan ≠ s.seq.scanCounter) →
        let after := s.asm.contexts ++ [c]
        let gone := after.takeWhile (·.complete)
        let rest := after.drop gone.length
        c.complete = true ∧ c.missing = s.roof.enabled ∧
        t.asm.contexts = rest ∧ t.asm.released = bumpBy s.asm.released gone.length ∧
        t.asm.aborted = s.asm.aborted ∧ t.asm.deadlines = s.asm.deadlines ∧ t.asm.failed = s.asm.failed ∧
        (∀ p, t.asm.missing.get p =
          if s.roof.enabled.get p = true then bump (s.asm.missing.get p) else s.asm.missing.get p) ∧
        t.paths = { s.paths with toZone := s.paths.toZone ++ gone.map ScanContext.toReleased } ∧
        t.cmd = s.cmd.released gone.length rest.isEmpty) ∧
      c.scan = s.seq.scanCounter ∧ c.trigger = s.timebase ∧
      c.deadline = s.timebase + BitVec.ofNat 32 s.cmd.params.assemblyTimeout ∧
      c.strobed = s.roof.enabled ∧ (∀ p, c.awaited.get p = true ↔ awaits p) ∧
      (∀ p, c.deliveries.get p = .absent) ∧
      c.snapshot.distance = s.odo.mm ∧ c.snapshot.sense = s.odo.sense ∧ c.snapshot.epoch = s.odo.epoch ∧
      (s.motion.sinceStart = false ∨ s.motion.held = none →
        c.snapshot.roll = 0 ∧ c.snapshot.shift = 0 ∧ c.snapshot.vertical = s.cmd.params.roofHeight ∧
        c.snapshot.motion = { noMotion := true } ∧
        t.motion = { s.motion with
          counters := { s.motion.counters with noMotion := bump s.motion.counters.noMotion } }) ∧
      (∀ h, s.motion.sinceStart = true → s.motion.held = some h →
        let stale := h.old = true ∨ s.cmd.params.motionMaxAge < (s.timebase - h.arrival).toNat
        c.snapshot.roll = h.roll ∧ c.snapshot.shift = h.shift ∧ c.snapshot.vertical = h.vertical ∧
        c.snapshot.motion =
          { motionStale := decide stale, motionDegraded := h.degraded, motionClamped := h.clamped } ∧
        (stale → t.motion =
          { s.motion with counters := { s.motion.counters with stale := bump s.motion.counters.stale } }) ∧
        (¬stale → t.motion = s.motion)) ∧
      let plan := match s.seq.staged with
        | some p => p
        | none => s.seq.active
      let slots := plan.slots s.roof.enabled
      t.seq =
        { active := plan
          staged := none
          busy := some ⟨s.timebase, plan.length s.roof.enabled⟩
          scanCounter := s.seq.scanCounter + 1
          slots := if slots = [] then none else some ⟨s.seq.scanCounter, s.timebase, none, slots⟩
          lines := ⟨false, false, false, false⟩
          onWay := s.seq.onWay - 1
          counters := { s.seq.counters with started := bump s.seq.counters.started } }

/-- R44 and R15: when the time of the next slot has come, its strobe line is asserted and a TRIGGER frame with the scan's
number, the slot's exposure and the expected head id is requested. It is sent at once if the downlink is free, and otherwise
it waits, replacing and counting an earlier one. -/
def Obligations.SlotBegins : Prop :=
  ∀ (s : State) (q : SlotSequence) (k : Slot) (rest : List Slot),
    s.held = false → s.seq.slots = some q → q.current = none → q.remaining = k :: rest →
    k.offset ≤ (s.timebase - q.trigger).toNat →
    let f : Frame := ⟨kindTrigger, (s.port k.port).headId, bytes16 q.scan ++ natBytes16 k.exposure⟩
    ∃ t, exec (.slotStart k.port) s = .next t ∧ OnlyChanges [.seq, .roof] s t ∧ OnlyPort k.port s t ∧
      t.seq =
        { s.seq with
          slots := some { q with current := some k, remaining := rest }
          lines := s.seq.lines.set k.port true } ∧
      t.port k.port =
        { s.port k.port with
          tx := if (s.port k.port).tx = .idle then .trigger f else (s.port k.port).tx
          waiting := if (s.port k.port).tx = .idle then none else some f
          counters :=
            if (s.port k.port).waiting = none then (s.port k.port).counters
            else
              { (s.port k.port).counters with
                triggerReplacements := bump (s.port k.port).counters.triggerReplacements } }

/-- R32, R39 and R44, the ends that time brings. When a slot's exposure has elapsed its strobe line is deasserted, and after the
last slot the sequence is over; when the plan length has elapsed since the trigger the busy window is closed; when the held
sample's age reaches 1,000,000 µs it is marked OLD. -/
def Obligations.TimedEnds : Prop :=
  ∀ s : State, s.held = false →
    (∀ (q : SlotSequence) (k : Slot), s.seq.slots = some q → q.current = some k →
      k.offset + k.exposure ≤ (s.timebase - q.trigger).toNat →
      ∃ t, exec (.exposureEnd k.port) s = .next t ∧ OnlyChanges [.seq] s t ∧
        t.seq =
          { s.seq with
            slots := if q.remaining = [] then none else some { q with current := none }
            lines := s.seq.lines.set k.port false }) ∧
    (∀ w : BusyWindow, s.seq.busy = some w → w.length ≤ (s.timebase - w.trigger).toNat →
      ∃ t, exec .busyWindowClose s = .next t ∧ OnlyChanges [.seq] s t ∧ t.seq = { s.seq with busy := none }) ∧
    (∀ h : MotionSample, s.motion.held = some h → h.old = false → 1000000 ≤ (s.timebase - h.arrival).toNat →
      ∃ t, exec .holdAgeExpiry s = .next t ∧ OnlyChanges [.motion] s t ∧
        t.motion = { s.motion with held := some { h with old := true } })

/-- R51: the profile classifier. A matching context in use judges by its state, its strobed set and the port's delivery; with
no match the profile is late if it stands 1 to 32,767 behind the next scan number, and stray otherwise. -/
def Obligations.VerdictOfProfile : Prop :=
  ∀ (contexts : List ScanContext) (next scan : Word16) (p : Port),
    (∀ c, contexts.find? (fun k => k.scan == scan) = some c →
      classify contexts next p scan =
        (if c.deliveries.get p ≠ .absent then .duplicate
         else if c.complete = false ∧ c.strobed.get p = true then .accepted else .stray)) ∧
    ((∀ c ∈ contexts, c.scan ≠ scan) →
      classify contexts next p scan =
        (if 1 ≤ (next - scan).toNat ∧ (next - scan).toNat ≤ 32767 then .late else .stray))

/-- R52, R53, R60 and R61: an accepted profile becomes its port's delivery in its context, and the port leaves the awaited set.
The only context in use is this one here. While another port is awaited, nothing else happens in the assembler but the count of a
failed delivery; when the set empties the context completes, its missing set is counted, and the scan is released to the zone queue
unit with exactly the usable deliveries of its strobed ports, in ascending port index (R62). In DRAINING that release moves a drain
that waits for assembly on to the pipeline (R63, R181), and one that comes while the drain waits for the span unit sets the late
release mark; in every operating state it advances the tally (R172).
That PROFILE_FRAME does this with the filtered profile is ProfileJudged's to say. -/
def Obligations.AcceptedProfileDelivers : Prop :=
  ∀ (s : State) (c : ScanContext) (prof : Profile),
    s.asm.contexts = [c] → c.complete = false → c.scan = prof.scan → c.strobed.get prof.port = true →
    c.deliveries.get prof.port = .absent →
    let d := match prof.condition with
      | .ok => Delivery.delivered false prof.segments
      | .degraded => Delivery.delivered true prof.segments
      | .failed => Delivery.failed
    let failed := fun p =>
      if p = prof.port ∧ prof.condition = .failed then bump (s.asm.failed.get p) else s.asm.failed.get p
    let t := assemble s .accepted prof
    (∀ p, t.asm.failed.get p = failed p) ∧ t.asm.aborted = s.asm.aborted ∧ t.asm.deadlines = s.asm.deadlines ∧
    ((∃ p, p ≠ prof.port ∧ c.awaited.get p = true) →
      t.asm.contexts =
        [{ c with deliveries := c.deliveries.set prof.port d, awaited := c.awaited.set prof.port false }] ∧
      t.paths = s.paths ∧ t.cmd = s.cmd ∧ t.asm.released = s.asm.released ∧ t.asm.missing = s.asm.missing) ∧
    ((∀ p, p ≠ prof.port → c.awaited.get p = false) →
      let missing := fun p =>
        c.strobed.get p && (match (c.deliveries.set prof.port d).get p with | .delivered _ _ => false | _ => true)
      t.asm.contexts = [] ∧ t.asm.released = bump s.asm.released ∧
      t.cmd = s.cmd.released 1 true ∧
      (∀ p, t.asm.missing.get p = if missing p = true then bump (s.asm.missing.get p) else s.asm.missing.get p) ∧
      ∃ r, t.paths = { s.paths with toZone := s.paths.toZone ++ [r] } ∧
        r.scan = c.scan ∧ r.trigger = c.trigger ∧ r.snapshot = c.snapshot ∧ r.strobed = c.strobed ∧
        (∀ p, r.missing.get p = missing p) ∧
        (∀ x, x ∈ r.deliveries ↔ c.strobed.get x.port = true ∧
          (c.deliveries.set prof.port d).get x.port = .delivered x.degraded x.segments) ∧
        r.deliveries.Pairwise (fun a b => a.port.index < b.port.index))

/-- R59 to R61: when the oldest context in use is collecting and its deadline is reached, it completes and its scan is
released; the deadline completions counter advances. The next context, if there is one, is still collecting here, so it is
the only release. It advances the tally (R172), sets the late release mark while the drain waits for the span unit, and, where it
frees the last context in DRAINING, moves a drain that waits for assembly on to the pipeline (R63, R181). That the context is
freed in the step of its completion, so that a profile taken after it is late, is the model's reading (log entry 24). -/
def Obligations.DeadlineCompletes : Prop :=
  ∀ (s : State) (c : ScanContext) (rest : List ScanContext),
    s.held = false → s.asm.contexts = c :: rest → c.complete = false →
    (∀ k ∈ rest, k.scan ≠ c.scan) → (∀ k, rest.head? = some k → k.complete = false) →
    (c.deadline - c.trigger).toNat ≤ (s.timebase - c.trigger).toNat →
    ∃ t r, exec (.deadlineReached c.scan) s = .next t ∧ OnlyChanges [.asm, .paths, .cmd] s t ∧
      t.asm.contexts = rest ∧ t.asm.deadlines = bump s.asm.deadlines ∧ t.asm.released = bump s.asm.released ∧
      t.asm.aborted = s.asm.aborted ∧ t.asm.failed = s.asm.failed ∧
      t.paths = { s.paths with toZone := s.paths.toZone ++ [r] } ∧
      r.scan = c.scan ∧ r.trigger = c.trigger ∧ r.snapshot = c.snapshot ∧ r.strobed = c.strobed ∧
      (∀ x, x ∈ r.deliveries ↔
        c.strobed.get x.port = true ∧ c.deliveries.get x.port = .delivered x.degraded x.segments) ∧
      (∀ p, r.missing.get p = true ↔
        c.strobed.get p = true ∧ ∀ b g, c.deliveries.get p ≠ .delivered b g) ∧
      (∀ p, t.asm.missing.get p =
        if r.missing.get p = true then bump (s.asm.missing.get p) else s.asm.missing.get p) ∧
      t.cmd = s.cmd.released 1 rest.isEmpty

/-! ### Chapter 5: the zone queue -/

/-- R73 to R75 and R80: the oldest released scan is taken. The entries at the head that its distance has passed (Table 5-3)
join the closing list as PASSED or SKIPPED; the new head becomes the current zone if the distance is inside it; the scan goes
on with the zone's items, or with the default wire type, and with the flush mark, which is cleared. A store that this empties
in RUNNING sets the exhaustion flag and offers STATUS ZONES_EXHAUSTED, which class B room admits. -/
def Obligations.ScanResolved : Prop :=
  ∀ (s : State) (r : ReleasedScan) (rest : List ReleasedScan), s.held = false → s.paths.toZone = r :: rest →
    let d := r.snapshot.distance
    let gone := s.zones.entries.takeWhile fun e =>
      match s.cmd.params.direction with
      | .increasing => decide (e.hi ≤ d)
      | .decreasing => decide (d < e.lo)
    let kept := s.zones.entries.drop gone.length
    let emptied := s.zones.entries ≠ [] ∧ kept = [] ∧ s.cmd.op = .running
    ∃ t x, exec .scanResolution s = .next t ∧ OnlyChanges [.paths, .zones, .out] s t ∧
      t.paths = { s.paths with toZone := rest, toGeo := s.paths.toGeo ++ [⟨r, x⟩] } ∧
      t.zones.closing =
        s.zones.closing ++
          (gone.map fun e => ⟨e, if e.entered = none then .skipped else .passed, d, r.scan⟩) ∧
      t.zones.inFlight = s.zones.inFlight + 1 ∧ t.zones.lastScan = r.scan ∧
      t.zones.nextEntry = s.zones.nextEntry ∧ t.zones.flushMark = false ∧ x.flush = s.zones.flushMark ∧
      t.zones.counters.passed = bumpBy s.zones.counters.passed (gone.countP fun e => e.entered.isSome) ∧
      t.zones.counters.skipped = bumpBy s.zones.counters.skipped (gone.countP fun e => e.entered.isNone) ∧
      t.zones.counters.appended = s.zones.counters.appended ∧ t.zones.counters.flushed = s.zones.counters.flushed ∧
      (∀ e es, kept = e :: es → e.lo ≤ d ∧ d < e.hi →
        t.zones.current = true ∧ t.zones.counters.inNone = s.zones.counters.inNone ∧
        t.zones.entries = { e with entered := some (e.entered.getD d), scans := bump e.scans } :: es ∧
        x.wireType = e.wireType ∧
        x.zone = some ⟨e.number, e.zoneId, e.kind, e.expected, e.staggerLimit, e.heightMin, e.heightMax,
          e.minThickness⟩) ∧
      ((∀ e, kept.head? = some e → ¬(e.lo ≤ d ∧ d < e.hi)) →
        t.zones.current = false ∧ t.zones.counters.inNone = bump s.zones.counters.inNone ∧
        t.zones.entries = kept ∧ x.zone = none ∧ x.wireType = s.cmd.params.defaultWire) ∧
      (¬emptied → t.zones.exhausted = s.zones.exhausted ∧ t.out = s.out) ∧
      (emptied → t.zones.exhausted = true ∧
        (s.out.records.length + (if s.out.reserved = true then 1 else 0) < 60 →
          ∃ f, ShowsStatus f s.cmd.station .zonesExhausted .running s.roof ∧ t.out = withStatus s.out f))

/-- R77 and R78: a run-opening report counts at the entry with its number, in the store or in the closing list; where two held
entries carry the number it counts at both, which is the model's choice (DESIGN CHOICE, log entry 22). A
scan-finished report takes the scan off those in flight, and the entries of the closing list that are tagged with it leave
it; where class B has room for them all, their ZONE records join the record queue in closing-list order. No span closed report
waits for them (log entry 21; DrainCloses says what it does). -/
def Obligations.ReportsReachZones : Prop :=
  ∀ (s : State) (rest : List SpanReport), s.held = false → s.paths.spanClosed = false →
    (∀ n : Word16, s.paths.reports = .runOpened n :: rest →
      let count (e : ZoneEntry) : ZoneEntry := if e.number = n then { e with runsOpened := bump e.runsOpened } else e
      ∃ t, exec .runOpeningReport s = .next t ∧ OnlyChanges [.paths, .zones] s t ∧
        t.paths = { s.paths with reports := rest } ∧
        t.zones =
          { s.zones with
            entries := s.zones.entries.map count
            closing := s.zones.closing.map fun c => { c with entry := count c.entry } }) ∧
    (∀ k : Word16, s.paths.reports = .scanFinished k :: rest →
      ∃ t, exec .scanFinishedReport s = .next t ∧ OnlyChanges [.paths, .zones, .out] s t ∧
        t.paths = { s.paths with reports := rest } ∧
        t.zones =
          { s.zones with
            inFlight := s.zones.inFlight - 1
            closing := s.zones.closing.filter fun c => decide (c.tag ≠ k) } ∧
        (s.out.records.length + (s.zones.closing.countP fun c => decide (c.tag = k)) +
            (if s.out.reserved = true then 1 else 0) ≤ 60 →
          t.out.records =
              s.out.records ++ ((s.zones.closing.filter fun c => decide (c.tag = k)).map fun c =>
                ⟨kindZone, s.cmd.station.setWidth 8, c.payload⟩) ∧
            t.out.lossFlag = s.out.lossFlag ∧ t.out.raw = s.out.raw))

/-! ### Chapter 6: profile geometry -/

/-- R88 to R97, R99, R100 and R103: the oldest resolved scan is taken and its raw list handed on with the scan's own items.
RoundDiv and Interp are those of section 0.5. A segment that passes the intensity, range and column tests gives one detection:
its span is cut to the column window (R91); its range is R92's, its lateral position R93's and R94's, its width R95's or absent
where it is CLIPPED, its car-frame position R96's and its stagger and height R97's, with the flags of R98. The list holds
exactly these, in ascending stagger, then height, then port, then segment position; and each segment is counted as noise, as out
of window, or as a detection made. -/
def Obligations.GeometryScanned : Prop :=
  (∀ a b : Int, 0 < b →
    let twice := 2 * (a - roundDiv a b * b)
    twice ≤ b ∧ -b ≤ twice ∧ (twice = b → a < 0) ∧ (twice = -b → 0 < a)) ∧
  (∀ (knots : List Int) (s : Int), 0 < s → 2 ≤ knots.length →
    let k (i : Nat) : Int := knots.getD i 0
    (∀ x ≤ 0, interp knots x s = k 0) ∧
    (∀ x, ((knots.length : Int) - 1) * s ≤ x → interp knots x s = k (knots.length - 1)) ∧
    ∀ (i : Nat) (f : Int), i + 1 < knots.length → 0 ≤ f → f < s →
      interp knots (i * s + f) s = k i + roundDiv ((k (i + 1) - k i) * f) s) ∧
  ∀ (s : State) (r : ResolvedScan) (rest : List ResolvedScan), s.held = false → s.paths.toGeo = r :: rest →
    let snap := r.scan.snapshot
    let segments (p : Port) : List Segment :=
      (r.scan.deliveries.filter fun d => decide (d.port = p)).flatMap (·.segments)
    let cal (p : Port) : CalSet := (s.geo.cal.get p).cal
    let detection (d : PortDelivery) (position : Nat) (g : Segment) : Option Detection :=
      let c := cal d.port
      let first := max g.colFirst c.colLo
      let last := min g.colLast c.colHi
      let clipped := decide (g.colFirst < c.colLo ∨ c.colHi < g.colLast ∨ first = 0 ∨ last = 2047)
      let range := interp c.ranges (g.range : Nat) 256
      let centre := interp c.columns ((first + last + 1 : Nat) : Int) 256
      let edge (x : Nat) : Int := interp c.columns (x : Int) 128
      let y := c.mountLateral + roundDiv (centre * range) c.reference
      let z := c.mountHeight + range
      if c.minIntensity ≤ g.intensity ∧ c.rangeLo ≤ g.range ∧ g.range ≤ c.rangeHi ∧ c.colLo ≤ g.colLast ∧
          g.colFirst ≤ c.colHi then
        some
          { port := d.port
            position := position
            stagger := y + snap.shift + roundDiv (z * snap.roll) 1000000
            height := z + snap.vertical - roundDiv (y * snap.roll) 1000000
            width :=
              if clipped = true then none
              else some (roundDiv (((edge (last + 1) - edge first).natAbs : Int) * range) c.reference)
            flags := { snap.motion with clipped := clipped, saturated := g.saturated, degradedHead := d.degraded } }
      else none
    ∃ t raw, exec .geometryScan s = .next t ∧ OnlyChanges [.paths, .geo] s t ∧
      t.paths =
        { s.paths with
          toGeo := rest
          toMerge :=
            s.paths.toMerge ++
              [⟨⟨r.scan.scan, snap.distance, snap.sense, snap.epoch, r.scan.missing, r.context⟩, raw⟩] } ∧
      t.geo.cal = s.geo.cal ∧ t.geo.without = (if raw = [] then bump s.geo.without else s.geo.without) ∧
      raw.Pairwise (fun a b =>
        a.stagger < b.stagger ∨ a.stagger = b.stagger ∧ (a.height < b.height ∨ a.height = b.height ∧
          (a.port.index < b.port.index ∨ a.port = b.port ∧ a.position ≤ b.position))) ∧
      raw.Perm (r.scan.deliveries.flatMap fun d => d.segments.zipIdx.filterMap fun g => detection d g.2 g.1) ∧
      ∀ p,
        (t.geo.ports.get p).examined = bumpBy (s.geo.ports.get p).examined (segments p).length ∧
        (t.geo.ports.get p).noise =
          bumpBy (s.geo.ports.get p).noise
            ((segments p).countP fun g => decide (g.intensity < (cal p).minIntensity)) ∧
        (t.geo.ports.get p).window =
          bumpBy (s.geo.ports.get p).window
            ((segments p).countP fun g => decide
              ((cal p).minIntensity ≤ g.intensity ∧
                ¬((cal p).rangeLo ≤ g.range ∧ g.range ≤ (cal p).rangeHi ∧ (cal p).colLo ≤ g.colLast ∧
                  g.colFirst ≤ (cal p).colHi))) ∧
        (t.geo.ports.get p).detections =
          bumpBy (s.geo.ports.get p).detections (raw.countP fun d => decide (d.port = p)) ∧
        (t.geo.ports.get p).clipped =
          bumpBy (s.geo.ports.get p).clipped (raw.countP fun d => decide (d.port = p ∧ d.width = none))

/-! ### Chapter 7: head merging and remaining thickness -/

/-- R106: the clusters cut the raw list into pieces in its own order. A cluster is not empty, holds at most one detection of a
port, and lies within both tolerances of its first member, its anchor; the detection that opens the next cluster could not
have joined it. -/
def Obligations.ClustersPartition : Prop :=
  ∀ (lateral height : Int) (raw : List Detection), 0 ≤ lateral → 0 ≤ height →
    let near (a d : Detection) : Prop :=
      -lateral ≤ d.stagger - a.stagger ∧ d.stagger - a.stagger ≤ lateral ∧ -height ≤ d.height - a.height ∧
        d.height - a.height ≤ height
    (clusters lateral height raw).flatten = raw ∧
    (∀ c ∈ clusters lateral height raw, ∃ a ms, c = a :: ms ∧ (c.map (·.port)).Nodup ∧ ∀ d ∈ c, near a d) ∧
    (∀ pre c n post, clusters lateral height raw = pre ++ c :: n :: post →
      ∃ a ms d ds, c = a :: ms ∧ n = d :: ds ∧ ¬(d.port ∉ c.map (·.port) ∧ near a d))

/-- R104 to R121: the oldest raw list is taken and its cluster list handed on with the scan's own items. The clusters kept are
the 16 whose merged staggers have the smallest magnitude, the earlier of two that are equal, in cluster order (R111). Item by
item, each has its cluster's weighted means (R108) and the union of its members' flags (R109); its wear source is a member with
a width that no member with a width betters in priority (R110); its thickness is that width's by the wire type's table (R115,
R116), or the last entry with BEYOND_TABLE (R117), between 0 and the nominal thickness (R118, Law 4); and without a width it has
neither source nor thickness. Every cluster and kept detection is counted. -/
def Obligations.RawListMerged : Prop :=
  ∀ (s : State) (l : RawList) (rest : List RawList), s.held = false → s.paths.toMerge = l :: rest →
    let formed := clusters s.cmd.params.mergeLateral s.cmd.params.mergeHeight l.detections
    let w := s.merge.slots.getD l.header.context.wireType WireSlot.unloaded
    let weight (d : Detection) : Int := (s.geo.cal.get d.port).cal.weight
    let priority (d : Detection) : Nat := (s.geo.cal.get d.port).cal.priority
    let mean (value : Detection → Int) (c : List Detection) : Int :=
      roundDiv ((c.map fun d => weight d * value d).sum) ((c.map weight).sum)
    let off (c : List Detection) : Nat := (mean (·.stagger) c).natAbs
    let kept := (formed.zipIdx.filter fun c => decide
      ((formed.zipIdx.countP fun o => decide (off o.1 < off c.1 ∨ off o.1 = off c.1 ∧ o.2 < c.2)) < 16)).map (·.1)
    let beyond (width : Int) : Bool := decide (32 * w.step < width)
    let thickness (width : Int) : Int :=
      let x := if beyond width = true then w.table.getD 32 0 else interp w.table width w.step
      if x < 0 then 0 else if w.nominal < x then w.nominal else x
    ∃ t items, exec .rawListArrival s = .next t ∧ OnlyChanges [.paths, .merge] s t ∧
      t.paths = { s.paths with toMerge := rest, toTrack := s.paths.toTrack ++ [⟨l.header, items⟩] } ∧
      t.merge.slots = s.merge.slots ∧ items.length = min 16 formed.length ∧
      items.map (·.index) = List.range items.length ∧
      List.Forall₂ (fun m c =>
        m.stagger = mean (·.stagger) c ∧ m.height = mean (·.height) c ∧
        (m.source = none ↔ ∀ d ∈ c, d.width = none) ∧
        (m.source = none → m.thickness = none) ∧
        (∀ p, m.source = some p → ∃ d ∈ c, ∃ width, d.port = p ∧ d.width = some width ∧
          (∀ e ∈ c, e.width ≠ none → priority d ≤ priority e) ∧ m.thickness = some (thickness width) ∧
          m.flags.beyondTable = beyond width) ∧
        m.flags =
          { clipped := c.any (·.flags.clipped), saturated := c.any (·.flags.saturated)
            degradedHead := c.any (·.flags.degradedHead), motionStale := c.any (·.flags.motionStale)
            noMotion := c.any (·.flags.noMotion), motionDegraded := c.any (·.flags.motionDegraded)
            motionClamped := c.any (·.flags.motionClamped), tableFull := c.any (·.flags.tableFull)
            headMissing := c.any (·.flags.headMissing)
            beyondTable := m.source.isSome && m.flags.beyondTable }) items kept ∧
      (w.Valid → ∀ m ∈ items, ∀ v, m.thickness = some v → 0 ≤ v ∧ v ≤ w.nominal) ∧
      t.merge.counters.formed = bumpBy s.merge.counters.formed formed.length ∧
      t.merge.counters.merged = bumpBy s.merge.counters.merged (formed.countP fun c => decide (2 ≤ c.length)) ∧
      t.merge.counters.dropped = bumpBy s.merge.counters.dropped (formed.length - 16) ∧
      t.merge.counters.handedOn = bumpBy s.merge.counters.handedOn items.length ∧
      t.merge.counters.wearSamples = bumpBy s.merge.counters.wearSamples (items.countP (·.thickness.isSome)) ∧
      t.merge.counters.withoutWear = bumpBy s.merge.counters.withoutWear (items.countP (·.thickness.isNone)) ∧
      t.merge.counters.beyondTable = bumpBy s.merge.counters.beyondTable (items.countP (·.flags.beyondTable)) ∧
      ∀ p, t.merge.sources.get p = bumpBy (s.merge.sources.get p) (items.countP fun m => decide (m.source = some p))

/-! ### Chapter 8: the wire track table -/

/-- R127 to R129, Law 2: the assignment of a scan. No track and no detection is assigned twice; each pair lies inside both
gates about the track's prediction; and a pair inside both gates that is not assigned has its track or its detection assigned
in a pair that the order of R129 takes no later. -/
def Obligations.AssignmentGreedy : Prop :=
  ∀ (params : RunParams) (h : ScanHeader) (slots : List (Option Track)) (items : List Merged),
    let away (k : Track) (m : Merged) : Int :=
      let p := if h.epoch = k.lastEpoch then k.stagger + roundDiv (k.slope * (h.distance - k.lastHit)) 1000
        else k.stagger
      max (m.stagger - p) (p - m.stagger)
    let gated (k : Track) (m : Merged) : Prop :=
      away k m ≤ params.lateralGate ∧ m.height - k.height ≤ params.heightGate ∧
        k.height - m.height ≤ params.heightGate
    let done := assign (candidates params h slots items)
    (done.map (·.slot)).Nodup ∧ (done.map (·.index)).Nodup ∧
    (∀ c ∈ done, ∃ k m, slots[c.slot]? = some (some k) ∧ m ∈ items ∧ m.index = c.index ∧ gated k m ∧
      c.distance = away k m) ∧
    (∀ i k m, slots[i]? = some (some k) → m ∈ items → gated k m →
      ∃ c ∈ done, (c.slot = i ∨ c.index = m.index) ∧
        (c.distance < away k m ∨ c.distance = away k m ∧ (c.slot < i ∨ c.slot = i ∧ c.index ≤ m.index)))

/-- R126 to R137, R172 and R181: the oldest cluster list is taken and its track list handed on with the scan's own items. A
track that the assignment gives a detection takes it (R130), with the slope of R131 and the state of R132. Without one a
TENTATIVE track is freed, and a CONFIRMED or COASTING one coasts with one more miss, or ends at the miss limit (R133). Then each
unassigned detection, in cluster order, opens a track as R134 sets it up, with the id of R124, in the lowest FREE slot, or is
counted as discarded (R135, Law 2). The track list has the entries of R136 in slot order, an ended one before the birth in its
slot, and the confirmed hit count is the number of tracks CONFIRMED after the scan, each of which had a hit in it (R137). Every
change is counted (R140). The scan leaves the pipeline tally, and a drain that waits for the pipeline goes on when the tally is
0. The table has its six slots (R122) and the list numbers its detections apart (R119). -/
def Obligations.ClusterListTracked : Prop :=
  ∀ (s : State) (l : ClusterList) (rest : List ClusterList), s.held = false → s.paths.toTrack = l :: rest →
    (l.items.map (·.index)).Nodup → s.tracks.slots.length = 6 →
    let h := l.header
    let d := h.distance
    let params := s.cmd.params
    let slots := s.tracks.slots.zipIdx
    let done := assign (candidates params h s.tracks.slots l.items)
    let taken (i : Nat) : Option Merged := l.items.find? fun m => done.any fun c => c.slot == i && c.index == m.index
    let slope (k : Track) (m : Merged) : Int :=
      let raw :=
        if k.lastHit < d then roundDiv ((m.stagger - k.stagger) * 1000) (d - k.lastHit)
        else roundDiv (-((m.stagger - k.stagger) * 1000)) (k.lastHit - d)
      k.slope + roundDiv (raw - k.slope) 4
    let sloped (k : Track) : Prop := h.epoch = k.lastEpoch ∧ d ≠ k.lastHit
    let hit (k : Track) (m : Merged) : Track :=
      { id := k.id
        state :=
          if k.state = .tentative ∧ (bump k.hits).toNat ≠ params.confirmHits then .tentative else .confirmed
        stagger := m.stagger
        height := m.height
        slope := if sloped k then max (-100000) (min 100000 (slope k m)) else k.slope
        lastHit := d
        lastEpoch := h.epoch
        hits := bump k.hits
        misses := 0
        birth := k.birth
        thickness := match m.thickness, k.thickness with
          | none, held => held
          | some v, none => some ⟨v, d⟩
          | some v, some held => if v < held.value then some ⟨v, d⟩ else some held }
    let misses (k : Track) : Nat := if k.state = .coasting then k.misses + 1 else 1
    let ends (k : Track) : Prop := k.state ≠ .tentative ∧ misses k = params.missLimit
    let worked : List (Option Track) := slots.map fun x => x.1.bind fun k => match taken x.2 with
      | some m => some (hit k m)
      | none => if k.state = .tentative ∨ ends k then none else some { k with state := .coasting, misses := misses k }
    let entries (i : Nat) : List TrackEntry := match s.tracks.slots[i]? with
      | some (some k) => match taken i with
        | some m =>
          if k.state ≠ .tentative then [.continuing k.id .confirmed (some m)]
          else if (hit k m).state = .confirmed then [.confirmed k.id m] else []
        | none =>
          if k.state = .tentative then []
          else if ends k then [.ended ⟨k.id, .misses, k.birth, k.lastHit, d, k.hits, k.thickness⟩]
          else [.continuing k.id .coasting none]
      | _ => []
    let unassigned := l.items.filter fun m => !done.any fun c => c.index == m.index
    let free : List Nat := (List.range 6).filter fun (i : Nat) => decide (worked[i]? = some none)
    let opens (id : Nat) (m : Merged) : Track :=
      { id := id, state := if params.confirmHits = 1 then .confirmed else .tentative, stagger := m.stagger
        height := m.height, slope := 0, lastHit := d, lastEpoch := h.epoch, hits := 1, misses := 0, birth := d
        thickness := m.thickness.map fun v => ⟨v, d⟩ }
    let count (p : Track → Option Merged → Bool) : Nat := slots.countP fun x => x.1.any fun k => p k (taken x.2)
    let c := s.tracks.counters
    ∃ t tl ids, exec .clusterListArrival s = .next t ∧ OnlyChanges [.paths, .tracks, .cmd] s t ∧
      ids.length = min unassigned.length free.length ∧
      TakesIds (worked.filterMap fun k => k.map (·.id)) s.tracks.nextId ids t.tracks.nextId ∧
      (let born := (unassigned.zip free).zip ids
      t.tracks.slots = born.foldl (fun slots b => slots.set b.1.2 (some (opens b.2 b.1.1))) worked ∧
      tl.entries = (List.range 6).flatMap fun i => entries i ++
        (born.filter fun b => decide (b.1.2 = i ∧ params.confirmHits = 1)).map fun b => .confirmed b.2 b.1.1) ∧
      t.tracks.last = some ⟨d, h.sense, h.epoch⟩ ∧
      tl.header = h ∧ tl.tableFull = decide (ids.length < unassigned.length) ∧
      tl.confirmedHits = (t.tracks.live.countP fun k => decide (k.state = .confirmed)) ∧
      t.tracks.counters =
        { received := bumpBy c.received l.items.length
          hits := bumpBy c.hits done.length
          births := bumpBy c.births ids.length
          fullDiscards := bumpBy c.fullDiscards (unassigned.length - ids.length)
          confirmations :=
            bumpBy c.confirmations (tl.entries.countP fun | .confirmed _ _ => true | _ => false)
          dropped := bumpBy c.dropped (count fun k m => decide (k.state = .tentative ∧ m = none))
          coasting := bumpBy c.coasting (count fun k m => decide (k.state = .confirmed ∧ m = none))
          recoveries := bumpBy c.recoveries (count fun k m => decide (k.state = .coasting ∧ m ≠ none))
          endsMisses := bumpBy c.endsMisses (tl.entries.countP fun | .ended _ => true | _ => false)
          endsStop := c.endsStop
          slopeClamps := bumpBy c.slopeClamps
            (count fun k m => m.any fun m => decide (sloped k ∧ (slope k m < -100000 ∨ 100000 < slope k m))) } ∧
      (let asks := s.cmd.drain = .waitingPipeline ∧ s.cmd.tally ≤ 1
      t.cmd =
        (if asks then { s.cmd with tally := 0, drain := .waitingSpan, lateMark := false }
         else { s.cmd with tally := s.cmd.tally - 1 }) ∧
      t.paths =
        { s.paths with
          toTrack := rest
          toSpan := s.paths.toSpan ++ [.tracks tl]
          drainRequest := s.paths.drainRequest || decide asks })

/-! ### Chapter 9: span bins and exceedance runs -/

/-- R142, R143, R151, R154 to R157: the oldest track list is taken. The scan register takes the scan's sense and epoch, the scan
is counted finished, every run that it opens is counted and reported under the number of the scan's own zone, and the
scan-finished report follows. No run opens otherwise: the runs opened and the runs open before are together the runs open
afterwards and the closings counted, and a run open afterwards that was not open before lies in the scan's zone. In zone NONE no
run opens and no COUNT run stays open. The COUNT run closes first if R155 says so; then, in a zone that expects wires, a
confirmed hit count other than those expected opens or extends it, and an equal one conforms or, at the release scans, releases
it (R154). With no track entry and class B room, its EXCEEDANCE record is the only record (R156). The open runs are keyed by
track id and kind, and the COUNT run is of kind COUNT (R141, R154). -/
def Obligations.TrackListSpanned : Prop :=
  ∀ (s : State) (l : TrackList) (rest : List SpanArrival), s.held = false → s.paths.toSpan = .tracks l :: rest →
    (s.span.runs.Pairwise fun a b => ¬(a.track = b.track ∧ a.kind = b.kind)) →
    (∀ r, s.span.count = some r → r.kind = .count) →
    let h := l.header
    let hits : Int := l.confirmedHits
    let event (r : Run) : Option CloseCause :=
      if h.epoch ≠ s.span.prevEpoch then some .jump
      else if h.sense ≠ s.span.prevSense then some .reversal
      else if h.context.flush = true then some .flush
      else if h.context.zone.map (·.number) ≠ some r.number then some .zone
      else none
    let stays := s.span.count.filter fun r => decide (event r = none)
    let conforms := h.context.zone.any fun z => decide (z.expected ≠ 0 ∧ hits = z.expected)
    let closing : Option CloseCause := s.span.count.bind fun r =>
      if event r ≠ none then event r
      else if conforms = true ∧ r.conforming + 1 = s.cmd.params.releaseScans then some .released
      else none
    ∃ t opened released byEvent, exec .trackListArrival s = .next t ∧ OnlyChanges [.paths, .span, .out] s t ∧
      t.paths =
        { s.paths with
          toSpan := rest
          reports := s.paths.reports ++ opened.map .runOpened ++ [.scanFinished h.scan] } ∧
      t.span.prevSense = h.sense ∧ t.span.prevEpoch = h.epoch ∧
      t.span.counters.finished = bump s.span.counters.finished ∧
      t.span.counters.runsOpened = bumpBy s.span.counters.runsOpened opened.length ∧
      t.span.counters.runsReleased = bumpBy s.span.counters.runsReleased released ∧
      t.span.counters.runsByEvent = bumpBy s.span.counters.runsByEvent byEvent ∧
      opened.length + s.span.runs.length + s.span.count.toList.length =
        t.span.runs.length + t.span.count.toList.length + released + byEvent ∧
      (∀ r ∈ t.span.runs, openRun s.span r.track r.kind = none → r.number ∈ opened) ∧
      (∀ z, h.context.zone = some z → ∀ n ∈ opened, n = z.number) ∧
      (h.context.zone = none → opened = [] ∧ t.span.runs.Sublist s.span.runs ∧ t.span.count = none) ∧
      (∀ z, h.context.zone = some z → z.expected = 0 → t.span.count = stays) ∧
      (∀ z, h.context.zone = some z → z.expected ≠ 0 → hits ≠ z.expected →
        t.span.count = some (match stays with
          | none => ⟨0, .count, z.number, z.zoneId, h.distance, h.distance, hits, h.distance, 1, 0⟩
          | some r =>
            let bad := (r.worst - z.expected).natAbs < (hits - z.expected).natAbs
            { r with
              last := h.distance
              offending := bump r.offending
              conforming := 0
              worst := if bad then hits else r.worst
              worstAt := if bad then h.distance else r.worstAt })) ∧
      (conforms = true →
        t.span.count = (stays.filter fun r => decide (r.conforming + 1 ≠ s.cmd.params.releaseScans)).map fun r =>
          { r with conforming := r.conforming + 1 }) ∧
      (l.entries = [] → s.out.records.length + (if s.out.reserved = true then 1 else 0) < 60 →
        t.out = (match s.span.count, closing with
          | some r, some c => withRecord s.out (exceedance s r c)
          | _, _ => s.out) ∧
        t.span.runs = s.span.runs ∧ t.span.bins = s.span.bins)

/-- R144 to R149 and R153, for a track list of one entry, with class A room. A continuing track's open bin takes the scan unless
a close cause of R146 stands, in the order JUMP, REVERSAL, ZONE, GRID; then its WIRE record is offered first, the bin leaves the
store and a new one opens with the scan. A GRID close leaves the track's runs open; every other cause closes them. A newly
confirmed entry opens the track's first bin. What is added to a bin is R147's: a hit's values, thickness and flags, or a miss,
and the scan's own flags. An ended entry closes the track's bin with TRACK_END, then its runs in the kind order, then gives its
TRACK_END record and is counted (R149). No COUNT run is open and no wires are expected where the ended entry's records are
given. -/
def Obligations.BinTakesScan : Prop :=
  ∀ (s : State) (l : TrackList) (rest : List SpanArrival) (id : Nat),
    s.held = false → s.paths.toSpan = .tracks l :: rest →
    s.out.records.length + (if s.out.reserved = true then 1 else 0) < 52 →
    let h := l.header
    let place := h.distance / s.cmd.params.binLength
    let least (held : Option MinThickness) (value : Option Int) : Option MinThickness := match value, held with
      | none, _ => held
      | some v, none => some ⟨v, h.distance⟩
      | some v, some k => if v < k.value then some ⟨v, h.distance⟩ else some k
    let withHit (k : Bin) (m : Merged) : Bin :=
      { k with
        hits := bump k.hits
        extremes := some (match k.extremes with
          | none => ⟨m.stagger, m.stagger, m.height, m.height⟩
          | some e =>
            ⟨min e.staggerMin m.stagger, max e.staggerMax m.stagger, min e.heightMin m.height,
              max e.heightMax m.height⟩)
        staggerSum := if k.hits.toNat < 4294967295 then k.staggerSum + m.stagger else k.staggerSum
        heightSum := if k.hits.toNat < 4294967295 then k.heightSum + m.height else k.heightSum
        samples := if m.thickness = none then k.samples else bump k.samples
        thickness := least k.thickness m.thickness
        flags := k.flags.union m.flags }
    let added (hit : Option Merged) (k : Bin) : Bin :=
      let c := match hit with
        | some m => withHit k m
        | none => { k with misses := bump k.misses }
      { c with
        last := h.distance
        flags :=
          { c.flags with
            tableFull := c.flags.tableFull || l.tableFull
            headMissing := c.flags.headMissing || !h.missing.isEmpty } }
    let fresh : Bin :=
      { track := id, zone := h.context.zone, epoch := h.epoch, index := place, first := h.distance
        last := h.distance, hits := 0, misses := 0, extremes := none, staggerSum := 0, heightSum := 0
        samples := 0, thickness := none, flags := {} }
    (∀ (state : TrackState) (hit : Option Merged) (b : Bin), l.entries = [.continuing id state hit] →
      s.span.bins.find? (fun k => decide (k.track = id)) = some b →
      let zoneSame := h.context.zone.map (·.number) = b.zone.map (·.number)
      let cause : Option CloseCause :=
        if h.epoch ≠ s.span.prevEpoch then some .jump
        else if h.sense ≠ s.span.prevSense then some .reversal
        else if h.context.flush = true ∨ ¬zoneSame then some .zone
        else if place ≠ b.index then some .grid
        else none
      ∃ t more, exec .trackListArrival s = .next t ∧
        (cause = none →
          t.span.bins = (s.span.bins.map fun k => if k.track = id then added hit k else k) ∧
          (hit = none → t.span.runs = s.span.runs) ∧ t.span.counters.binsOpened = s.span.counters.binsOpened ∧
          t.span.counters.binsClosed = s.span.counters.binsClosed ∧ t.out.records = s.out.records ++ more) ∧
        (∀ c, cause = some c →
          t.span.bins = (s.span.bins.eraseP fun k => decide (k.track = id)) ++ [added hit fresh] ∧
          (c = .grid → hit = none → t.span.runs = s.span.runs) ∧
          (c ≠ .grid → hit = none → ∀ k ∈ t.span.runs, k.track = id → k.kind = .count) ∧
          (c ≠ .grid → ∀ k ∈ t.span.runs, k.track = id → k.kind ≠ .count →
            k.first = h.distance ∧ k.last = h.distance ∧ k.offending = 1) ∧
          t.span.counters.binsOpened = bump s.span.counters.binsOpened ∧
          t.span.counters.binsClosed = bump s.span.counters.binsClosed ∧
          t.out.records = s.out.records ++ ⟨kindWire, s.cmd.station.setWidth 8, b.wirePayload c⟩ :: more) ∧
        ∀ f ∈ more, f.kind = kindExceedance) ∧
    (∀ m : Merged, l.entries = [.confirmed id m] →
      ∃ t, exec .trackListArrival s = .next t ∧ t.span.bins = s.span.bins ++ [added (some m) fresh] ∧
        t.span.counters.binsOpened = bump s.span.counters.binsOpened ∧
        t.span.counters.binsClosed = s.span.counters.binsClosed) ∧
    ∀ e : EndedTrack, l.entries = [.ended e] → s.span.count = none →
      (∀ z, h.context.zone = some z → z.expected = 0) →
      ∃ t, exec .trackListArrival s = .next t ∧
        t.out.records = s.out.records ++ endRecords s .trackEnd e ∧
        t.span.bins = (s.span.bins.eraseP fun k => decide (k.track = e.id)) ∧
        t.span.counters.binsClosed =
          (if (s.span.bins.any fun k => decide (k.track = e.id)) = true then bump s.span.counters.binsClosed
           else s.span.counters.binsClosed) ∧
        t.span.runs = (s.span.runs.filter fun k => decide (k.track ≠ e.id ∨ k.kind = .count)) ∧
        t.span.counters.trackEnds = bump s.span.counters.trackEnds

/-- R150 to R152 and R156, for the kinds STAGGER, HEIGHT_LOW, HEIGHT_HIGH and THICKNESS: a hit of a CONFIRMED track, continuing
in its bin's own zone or newly confirmed. A kind whose limit is off, or THICKNESS without a thickness, is not judged. Beyond the
limit the hit opens the track's run of the kind or extends it, and the worst value is replaced by a worse one alone; within the
limit it conforms, and the release scans parameter's number of conforming hits in a row releases the run. Every run opened is
counted and reported, every run released is counted and gives its EXCEEDANCE record, in the kind order, and no other track's run
changes. Some WIRE record may come first, where the bin closes with GRID. The list has this entry alone; epoch and sense are the
scan register's, no flush mark is set, no COUNT run is open and no wires are expected; and the open runs are keyed by track id
and kind (R141). -/
def Obligations.StaggerRunFollowsHits : Prop :=
  ∀ (s : State) (l : TrackList) (rest : List SpanArrival) (id : Nat) (m : Merged) (z : ZoneView),
    s.held = false → s.paths.toSpan = .tracks l :: rest →
    (l.entries = [.confirmed id m] ∨
      l.entries = [.continuing id .confirmed (some m)] ∧ ∃ b y,
        s.span.bins.find? (fun k => decide (k.track = id)) = some b ∧ b.zone = some y ∧ y.number = z.number) →
    l.header.context.zone = some z → l.header.context.flush = false → l.header.epoch = s.span.prevEpoch →
    l.header.sense = s.span.prevSense → z.expected = 0 → s.span.count = none →
    (s.span.runs.Pairwise fun a b => ¬(a.track = b.track ∧ a.kind = b.kind)) →
    let d := l.header.distance
    let judged (kind : RunKind) : Option (Int × Bool) := match kind with
      | .stagger => if z.staggerLimit = 0 then none else some (m.stagger, decide (z.staggerLimit < m.stagger.natAbs))
      | .heightLow => if z.heightMin = 0 then none else some (m.height, decide (m.height < z.heightMin))
      | .heightHigh => if z.heightMax = 0 then none else some (m.height, decide (z.heightMax < m.height))
      | .thickness => if z.minThickness = 0 then none else m.thickness.map fun v => (v, decide (v < z.minThickness))
      | .count => none
    let worse (kind : RunKind) (v held : Int) : Bool := match kind with
      | .stagger => decide (held.natAbs < v.natAbs)
      | .heightHigh => decide (held < v)
      | _ => decide (v < held)
    let after (kind : RunKind) : Option Run := match judged kind, openRun s.span id kind with
      | none, r => r
      | some (v, true), none => some ⟨id, kind, z.number, z.zoneId, d, d, v, d, 1, 0⟩
      | some (v, true), some r =>
        some
          { r with
            last := d
            offending := bump r.offending
            conforming := 0
            worst := if worse kind v r.worst = true then v else r.worst
            worstAt := if worse kind v r.worst = true then d else r.worstAt }
      | some (_, false), none => none
      | some (_, false), some r =>
        if r.conforming + 1 = s.cmd.params.releaseScans then none else some { r with conforming := r.conforming + 1 }
    let opened := runKinds.countP fun k => (openRun s.span id k).isNone && (after k).isSome
    let released := runKinds.filterMap fun k => if after k = none then openRun s.span id k else none
    ∃ t, exec .trackListArrival s = .next t ∧ t.span.count = none ∧
      (∀ k ∈ runKinds, (t.span.runs.filter fun r => decide (r.track = id ∧ r.kind = k)) = (after k).toList) ∧
      (t.span.runs.filter fun r => decide (r.track ≠ id)) = (s.span.runs.filter fun r => decide (r.track ≠ id)) ∧
      t.span.counters.runsOpened = bumpBy s.span.counters.runsOpened opened ∧
      t.span.counters.runsReleased = bumpBy s.span.counters.runsReleased released.length ∧
      t.span.counters.runsByEvent = s.span.counters.runsByEvent ∧
      t.paths.reports =
        s.paths.reports ++ List.replicate opened (.runOpened z.number) ++ [.scanFinished l.header.scan] ∧
      (s.out.records.length + (if s.out.reserved = true then 1 else 0) < 52 →
        ∃ wires, (∀ f ∈ wires, f.kind = kindWire) ∧
          t.out.records = s.out.records ++ wires ++ released.map fun r => exceedance s r .released)

/-- R138, R158 and R181: the close of a drain. The drain close request ends every live track: the CONFIRMED and COASTING ones give
the entries of the stop list, in slot order, and the ids go on. The stop list ends what it names, entry by entry, one bin of the
track for each, so that with keyed bins none of its tracks keeps one, and closes the COUNT run; with different tracks and keyed
runs, and with class A room for all of them, their records are in the order of R158. Then the span closed report reaches drain
control, with the effects that ReachesDrain says. Reports sent before it, and a trigger raised before the STOP that is still on
its way, reach their units first: until then it waits, and the last of them brings it on (R47, R78, R180, R181; that it waits is
the model's reading, log entry 21). -/
def Obligations.DrainCloses : Prop :=
  (∀ s : State, s.held = false → s.paths.drainRequest = true →
    ∃ t l, exec .drainCloseRequest s = .next t ∧ OnlyChanges [.paths, .tracks] s t ∧
      t.paths = { s.paths with drainRequest := false, toSpan := s.paths.toSpan ++ [.stop l] } ∧
      l.last = s.tracks.last ∧
      l.entries.map (·.id) =
        (s.tracks.slots.filterMap fun k => k.filter fun k => decide (k.state ≠ .tentative)).map (·.id) ∧
      (∀ e ∈ l.entries, e.reason = .stop) ∧
      (∀ last, s.tracks.last = some last → ∀ e ∈ l.entries, e.endedAt = last.distance) ∧
      t.tracks.live = [] ∧ t.tracks.slots.length = s.tracks.slots.length ∧ t.tracks.last = none ∧
      t.tracks.nextId = s.tracks.nextId ∧
      t.tracks.counters.endsStop = bumpBy s.tracks.counters.endsStop l.entries.length) ∧
  (∀ (s : State) (l : StopList) (rest : List SpanArrival), s.held = false → s.paths.toSpan = .stop l :: rest →
    ∃ u t, exec .stopListArrival s = .next t ∧ OnlyChanges [.paths, .span, .out] s u ∧
      u.paths = { s.paths with toSpan := rest, spanClosed := false } ∧
      u.span.count = none ∧
      u.span.bins =
        l.entries.foldl (fun bins e => bins.eraseP fun k => decide (k.track = e.id)) s.span.bins ∧
      ((s.span.bins.map (·.track)).Nodup → ∀ e ∈ l.entries, ∀ k ∈ u.span.bins, k.track ≠ e.id) ∧
      (∀ e ∈ l.entries, ∀ k ∈ u.span.runs, k.track = e.id → k.kind = .count) ∧
      u.span.counters.trackEnds = bumpBy s.span.counters.trackEnds l.entries.length ∧
      ((l.entries.map (·.id)).Nodup → (s.span.runs.Pairwise fun a b => ¬(a.track = b.track ∧ a.kind = b.kind)) →
        s.out.records.length + (if s.out.reserved = true then 1 else 0) + 6 * l.entries.length < 52 →
        u.out.records =
          s.out.records ++ l.entries.flatMap (endRecords s .stop) ++
            (s.span.count.toList.map fun r => exceedance s r .stop)) ∧
      (s.paths.reports = [] → s.seq.onWay = 0 → ReachesDrain u t) ∧
      (s.paths.reports ≠ [] ∨ s.seq.onWay ≠ 0 → t = { u with paths := { u.paths with spanClosed := true } })) ∧
  ∀ (s : State) (c : Instr), s.held = false → s.paths.spanClosed = true → ActsBeforeSpanClosed s c →
    ∃ u t, exec c { s with paths := { s.paths with spanClosed := false } } = .next u ∧ exec c s = .next t ∧
      (u.paths.reports = [] → u.seq.onWay = 0 → ReachesDrain u t) ∧
      (u.paths.reports ≠ [] ∨ u.seq.onWay ≠ 0 → t = { u with paths := { u.paths with spanClosed := true } })

/-! ### Chapter 10: the record queue and the trunk -/

/-- R162, R164 and R165: admission. Below its class's threshold a record joins the tail, class A below 52 and class B below 60;
otherwise it is refused and counted. A refusal sets the record-loss flag, and if a notice is armed one RECORD_LOSS STATUS record
is offered as class B: admitted, it clears the flag; refused, it is counted. A STATUS record is class B and clears the flag when
it is admitted. A forwarded frame joins the raw queue below 16 frames, and a free transmitter on a live link then starts a frame
(R166); at 16 it is dropped and counted, and the flag and the notice stay. An offer changes the output unit alone. -/
def Obligations.AdmissionByClass : Prop :=
  ∀ (s : State) (f : Frame) (cause : StatusCause),
    let n := s.out.records.length + (if s.out.reserved = true then 1 else 0)
    let c := s.out.counters
    (n < 52 → offerA s f = { s with out := withRecord s.out f }) ∧
    (n < 60 → offerB s f = { s with out := withRecord s.out f }) ∧
    (n < 60 → ∃ g, ShowsStatus g s.cmd.station cause s.cmd.op s.roof ∧
      offerStatus s cause = { s with out := withStatus s.out g }) ∧
    (52 ≤ n → s.out.notice = false →
      offerA s f = { s with out := { s.out with lossFlag := true, counters := { c with refusedA := bump c.refusedA } } }) ∧
    (60 ≤ n → s.out.notice = false →
      let t := { s with out := { s.out with lossFlag := true, counters := { c with refusedB := bump c.refusedB } } }
      offerB s f = t ∧ offerStatus s cause = t) ∧
    (52 ≤ n → n < 60 → s.out.notice = true →
      ∃ g, ShowsStatus g s.cmd.station .recordLoss s.cmd.op s.roof ∧
        offerA s f =
          { s with
            out :=
              withStatus { s.out with notice := false, counters := { c with refusedA := bump c.refusedA } } g }) ∧
    (60 ≤ n → s.out.notice = true →
      offerA s f =
        { s with
          out :=
            { s.out with
              lossFlag := true
              notice := false
              counters := { c with refusedA := bump c.refusedA, refusedB := bump c.refusedB } } }) ∧
    (60 ≤ n → s.out.notice = true →
      let t :=
        { s with
          out :=
            { s.out with
              lossFlag := true
              notice := false
              counters := { c with refusedB := bump (bump c.refusedB) } } }
      offerB s f = t ∧ offerStatus s cause = t) ∧
    (s.out.raw.length < 16 →
      offerRaw s f =
        { s with
          out :=
            { s.out with
              raw := s.out.raw ++ [f]
              tx :=
                if s.out.tx = .free ∧ s.out.linkUp = true then (if s.out.records = [] then .raw else .record)
                else s.out.tx
              counters := { c with rawAdmitted := bump c.rawAdmitted } } }) ∧
    (16 ≤ s.out.raw.length →
      offerRaw s f = { s with out := { s.out with counters := { c with rawDrops := bump c.rawDrops } } })

/-- R161, R165, R166 and R164: when the trunk transmitter sends an end delimiter the frame leaves its queue's head and is
counted, the end of a STATUS record re-arms the notice, and on a live link the head record is started next, or the head raw
frame if no record is held. R166 and R167: a change to link-up starts the head record, or the head raw frame, on a free
transmitter; a change to link-down is counted, and a frame being sent is cut off, stays at its queue's head and is counted
restarted. -/
def Obligations.TrunkSends : Prop :=
  ∀ s : State, s.held = false →
    let next (records raw : List Frame) : TrunkTx :=
      if s.out.linkUp = false then .free else if records ≠ [] then .record else if raw ≠ [] then .raw else .free
    (∀ f rest, s.out.tx = .record → s.out.records = f :: rest →
      ∃ t, exec .trunkEndDelimiter s = .next t ∧ OnlyChanges [.out] s t ∧
        t.out =
          { s.out with
            records := rest
            tx := next rest s.out.raw
            notice := s.out.notice || f.kind == kindStatus
            counters := { s.out.counters with sent := bump s.out.counters.sent } }) ∧
    (∀ f rest, s.out.tx = .raw → s.out.raw = f :: rest →
      ∃ t, exec .trunkEndDelimiter s = .next t ∧ OnlyChanges [.out] s t ∧
        t.out =
          { s.out with
            raw := rest
            tx := next s.out.records rest
            counters := { s.out.counters with rawSent := bump s.out.counters.rawSent } }) ∧
    (s.out.linkUp = false → s.out.tx = .free →
      ∃ t, exec .linkUp s = .next t ∧ OnlyChanges [.out] s t ∧
        t.out =
          { s.out with
            linkUp := true
            tx := if s.out.records ≠ [] then .record else if s.out.raw ≠ [] then .raw else .free }) ∧
    (s.out.linkUp = true →
      ∃ t, exec .linkDown s = .next t ∧ OnlyChanges [.out] s t ∧
        t.out =
          { s.out with
            linkUp := false
            tx := .free
            counters :=
              { s.out.counters with
                linkDowns := bump s.out.counters.linkDowns
                restarted :=
                  if s.out.tx = .free then s.out.counters.restarted else bump s.out.counters.restarted } })

/-! ### Chapter 11: commands -/

/-- R173 and R174 for every COMMAND row of the table. A misaddressed command is counted, and one without class C room too, and
neither has any other effect or an answer. A taken command of the wrong length answers BAD_LENGTH; one that the operating
state does not allow answers REFUSED_STATE; nothing else changes. No other frame is open in
the trunk receiver (R2). -/
def Obligations.CommandTurnedAway : Prop :=
  ∀ (s : State) (c : Instr) (address code tag : Byte) (args : List Byte), s.held = false → s.cmd.frame = none →
    c.wellFormed = true →
    c.carries = some ⟨kindCommand, address, code :: tag :: args⟩ →
    let counted := { s.cmd with rx := { s.cmd.rx with good := bump s.cmd.rx.good } }
    let full := 64 ≤ s.out.records.length + (if s.out.reserved = true then 1 else 0)
    (address ≠ s.cmd.station.setWidth 8 →
      ∃ t, exec c s = .next t ∧ OnlyChanges [.cmd] s t ∧
        t.cmd =
          { counted with
            counters := { counted.counters with misaddressed := bump counted.counters.misaddressed } }) ∧
    (address = s.cmd.station.setWidth 8 → full →
      ∃ t, exec c s = .next t ∧ OnlyChanges [.cmd] s t ∧
        t.cmd = { counted with counters := { counted.counters with dropped := bump counted.counters.dropped } }) ∧
    (address = s.cmd.station.setWidth 8 → ¬full → code ∈ commandCodes → lengthRight code args = false →
      ∃ t, exec c s = .next t ∧ OnlyAnswers s t code tag { result := .badLength }) ∧
    (address = s.cmd.station.setWidth 8 → ¬full → lengthRight code args = true → code ∈ standbyCodes →
      s.cmd.op ≠ .standby → ∃ t, exec c s = .next t ∧ OnlyAnswers s t code tag { result := .refusedState })

/-- R174 and R175: the commands that only answer. IDENTIFY gives the identity block, GET_STATE the STATUS content with cause 0
as it stands with the reply reservation open, GET_COUNTERS the counter group as it stands with this frame counted, or
BAD_ARGUMENT over group 6; an unlisted code answers UNKNOWN_COMMAND. -/
def Obligations.ReadingCommands : Prop :=
  ∀ (s : State) (address tag : Byte),
    (Taken s address [] →
      ∃ t, exec (.identify address tag []) s = .next t ∧
        OnlyAnswers s t 0x01 tag
          { result := .done
            data :=
              [0x45, 0x04, 0x40, 3, s.cmd.station.setWidth 8, BitVec.ofNat 8 s.cmd.present.mask,
                BitVec.ofNat 8 s.cmd.op.code] }) ∧
    (Taken s address [] →
      ∃ t, exec (.getState address tag []) s = .next t ∧
        OnlyAnswers s t 0x02 tag
          { result := .done, data := statusContent { s with out := { s.out with reserved := true } } 0 }) ∧
    (∀ group : Byte, Taken s address [group] →
      let now := { s with cmd := { s.cmd with rx := { s.cmd.rx with good := bump s.cmd.rx.good } } }
      ∃ t, exec (.getCounters address tag [group]) s = .next t ∧
        (∀ p : Port, group = BitVec.ofNat 8 p.index → OnlyAnswers s t 0x03 tag
          { result := .done, data := group :: (portGroup s p).flatMap bytes32 }) ∧
        (group = 4 → OnlyAnswers s t 0x03 tag
          { result := .done, data := group :: (motionGroup s).flatMap bytes32 }) ∧
        (group = 5 → OnlyAnswers s t 0x03 tag
          { result := .done, data := group :: (pipelineGroup s).flatMap bytes32 }) ∧
        (group = 6 → OnlyAnswers s t 0x03 tag
          { result := .done, data := group :: (trunkGroup now).flatMap bytes32 }) ∧
        (6 < group.toNat → OnlyAnswers s t 0x03 tag { result := .badArgument })) ∧
    (∀ (code : Byte) (args : List Byte), Taken s address args → code ∉ commandCodes →
      ∃ t, exec (.unknownCommand address code tag args) s = .next t ∧
        OnlyAnswers s t code tag { result := .unknownCommand })

/-- R176: CLEAR_COUNTERS in STANDBY returns every counter of Table 11-4 to 0 and replies DONE; queues, tables, flags, loaded
marks and held entries stay. The reply is counted after the clear. Outside STANDBY it is refused with REFUSED_STATE. -/
def Obligations.CountersCleared : Prop :=
  ∀ (s : State) (address tag : Byte), Taken s address [] →
    ∃ t, exec (.clearCounters address tag []) s = .next t ∧
      (s.cmd.op ≠ .standby → OnlyAnswers s t 0x04 tag { result := .refusedState }) ∧
      (s.cmd.op = .standby →
        t.timebase = s.timebase ∧ t.held = s.held ∧ t.pending = s.pending ∧ t.paths = s.paths ∧
        t.roof.enabled = s.roof.enabled ∧ (∀ p, t.port p = { s.port p with counters := {} }) ∧
        t.motion = { s.motion with rx := {}, counters := {} } ∧ t.odo = { s.odo with counters := {} } ∧
        t.seq = { s.seq with counters := {} } ∧ t.asm = { contexts := s.asm.contexts } ∧
        t.zones = { s.zones with counters := {} } ∧ t.geo = { cal := s.geo.cal } ∧
        t.merge = { slots := s.merge.slots } ∧ t.tracks = { s.tracks with counters := {} } ∧
        t.span = { s.span with counters := {} } ∧
        t.out = replied { s.out with counters := {} } (replyFrame s.cmd.station 0x04 tag { result := .done }) ∧
        t.cmd = { s.cmd with rx := {}, counters := { taken := 1 } })

/-- R177 and R6: SET_HEADS in STANDBY. A mask over 15, or with a port that is not present, answers BAD_ARGUMENT and changes
nothing. Otherwise the mask takes effect: a port that joins goes from DISABLED to IDLE, one that leaves goes from IDLE to
DISABLED and loses a HEAD_CONFIG frame that only waits, and no other port changes; the reply is DONE with the mask. If the
mask differs, one STATUS record with cause HEADS comes first, where class B has room beside the reservation. -/
def Obligations.HeadsSet : Prop :=
  ∀ (s : State) (address tag mask : Byte), Taken s address [mask] → s.cmd.op = .standby →
    let enabled : PortSet := ⟨mask.getLsbD 0, mask.getLsbD 1, mask.getLsbD 2, mask.getLsbD 3⟩
    let fits := mask.toNat ≤ 15 ∧ ∀ p, enabled.get p = true → s.cmd.present.get p = true
    ∃ t, exec (.setHeads address tag [mask]) s = .next t ∧
      (¬fits → OnlyAnswers s t 0x10 tag { result := .badArgument }) ∧
      (fits →
        OnlyChanges [.roof, .out, .cmd] s t ∧ t.cmd = tookOne s.cmd .done ∧ t.roof.enabled = enabled ∧
        (∀ p, enabled.get p = true →
          t.port p = if (s.port p).state = .disabled then { s.port p with state := .idle } else s.port p) ∧
        (∀ p, enabled.get p = false → (s.port p).state = .idle →
          let dropped := (s.port p).relay ≠ none ∧ (s.port p).tx ≠ .config
          t.port p =
            { s.port p with
              state := .disabled
              relay := if dropped then none else (s.port p).relay
              counters :=
                if dropped then
                  { (s.port p).counters with configDiscards := bump (s.port p).counters.configDiscards }
                else (s.port p).counters }) ∧
        (∀ p, enabled.get p = false → (s.port p).state ≠ .idle → t.port p = s.port p) ∧
        (enabled = s.roof.enabled →
          t.out = replied s.out (replyFrame s.cmd.station 0x10 tag { result := .done, data := [mask] })) ∧
        (enabled ≠ s.roof.enabled → s.out.records.length + 1 < 60 →
          ∃ f, ShowsStatus f s.cmd.station .heads .standby t.roof ∧
            t.out =
              replied (withStatus s.out f)
                (replyFrame s.cmd.station 0x10 tag { result := .done, data := [mask] })))

/-- R85, R86, R113 and R114: the two tables that the recorder loads in STANDBY. A calibration set that passes every test
replaces its port's set whole, marks it loaded and sets the port's expected head id; a wire type that passes replaces its
slot. Any other answers BAD_ARGUMENT with the index of the first field that fails, and nothing changes. -/
def Obligations.TablesLoaded : Prop :=
  ∀ (s : State) (address tag : Byte) (args : List Byte), Taken s address args → s.cmd.op = .standby →
    let c := calSet args
    let w := wireTypeArg args
    let n := (byteAt args 0).toNat
    (args.length = 161 →
      ∃ t, exec (.loadHeadCal address tag args) s = .next t ∧
        (∀ p : Port, n = p.index → c.Valid →
          OnlyChanges [.roof, .geo, .out, .cmd] s t ∧ OnlyPort p s t ∧
          t.port p = { s.port p with headId := c.headId } ∧ t.geo = { s.geo with cal := s.geo.cal.set p ⟨true, c⟩ } ∧
          Answered s t 0x11 tag { result := .done, data := [BitVec.ofNat 8 n, c.headId] }) ∧
        (3 < n ∨ ¬c.Valid → ∃ i ≤ 44, FirstFailing (calFieldFails n c) i ∧
          OnlyAnswers s t 0x11 tag { result := .badArgument, detail := i })) ∧
    (args.length = 141 →
      ∃ t, exec (.loadWireType address tag args) s = .next t ∧
        (n ≤ 7 → w.Valid →
          OnlyChanges [.merge, .out, .cmd] s t ∧ t.merge = { s.merge with slots := s.merge.slots.set n w } ∧
          Answered s t 0x12 tag { result := .done, data := [BitVec.ofNat 8 n] }) ∧
        (7 < n ∨ ¬w.Valid → ∃ i ≤ 35, FirstFailing (wireFieldFails n w) i ∧
          OnlyAnswers s t 0x12 tag { result := .badArgument, detail := i }))

/-- R178 and R71: SET_RUN_PARAMS in STANDBY. With every field in its range of Table 11-3, and the run direction unchanged or
the zone queue empty, all parameters take effect together and the reply is DONE. A direction that would change under a
loaded queue answers ORDER with detail 13 if fields 0 to 12 are in range; any other first field out of range answers
BAD_ARGUMENT with its index. A refusal changes no parameter. -/
def Obligations.RunParamsSet : Prop :=
  ∀ (s : State) (address tag : Byte) (args : List Byte), Taken s address args → s.cmd.op = .standby →
    args.length = 51 →
    let inRange (i : Nat) : Prop := ∀ ok, (runParamsRanges args)[i]? = some (i, ok) → ok = true
    let turned := (runParamsArg args).direction ≠ s.cmd.params.direction ∧ s.zones.entries ≠ []
    ∃ t, exec (.setRunParams address tag args) s = .next t ∧
      ((∀ i < 21, inRange i) → ¬turned →
        OnlyChanges [.out, .cmd] s t ∧ t.cmd = tookOne { s.cmd with params := runParamsArg args } .done ∧
        t.out = replied s.out (replyFrame s.cmd.station 0x13 tag { result := .done })) ∧
      ((∀ i < 13, inRange i) → inRange 13 → turned →
        OnlyAnswers s t 0x13 tag { result := .order, detail := 13 }) ∧
      (∀ i < 21, ¬inRange i → (∀ j < i, inRange j) → i ≤ 13 ∨ ¬turned →
        OnlyAnswers s t 0x13 tag { result := .badArgument, detail := i })

/-- R26: SET_SCAN_SPACING in any operating state. 0 and values over 256 answer BAD_ARGUMENT, detail 0, with spacing and count
unchanged; otherwise the spacing takes the argument, the divider count is loaded with it, and the reply is DONE. -/
def Obligations.SpacingSet : Prop :=
  ∀ (s : State) (address tag : Byte) (args : List Byte), Taken s address args → args.length = 2 →
    let n := natField args 0 2
    ∃ t, exec (.setScanSpacing address tag args) s = .next t ∧
      (n = 0 ∨ 256 < n → OnlyAnswers s t 0x14 tag { result := .badArgument }) ∧
      (1 ≤ n → n ≤ 256 →
        OnlyChanges [.odo, .out, .cmd] s t ∧ Answered s t 0x14 tag { result := .done } ∧
        t.odo = { s.odo with spacing := n, divider := n })

/-- R23: SET_DISTANCE in any operating state. −2^31 mm answers BAD_ARGUMENT, detail 0, with nothing changed; otherwise the
millimetre part takes the argument, the fraction is 0, the saturated flag is clear, the epoch advances, wrapping from 255 to
0, and the reply is DONE with the new epoch. Sense, reference pair and divider count stay. -/
def Obligations.DistanceSet : Prop :=
  ∀ (s : State) (address tag : Byte) (args : List Byte), Taken s address args → args.length = 4 →
    let d := intField args 0 4
    ∃ t, exec (.setDistance address tag args) s = .next t ∧
      (d = -2147483648 → OnlyAnswers s t 0x16 tag { result := .badArgument }) ∧
      (d ≠ -2147483648 →
        OnlyChanges [.odo, .out, .cmd] s t ∧
        Answered s t 0x16 tag { result := .done, data := [s.odo.epoch + 1] } ∧
        t.odo.mm = d ∧ t.odo.fraction = 0 ∧ t.odo.saturated = false ∧ t.odo.epoch = s.odo.epoch + 1 ∧
        t.odo.sense = s.odo.sense ∧ t.odo.oda = s.odo.oda ∧ t.odo.odb = s.odo.odb ∧
        t.odo.divider = s.odo.divider ∧ t.odo.spacing = s.odo.spacing ∧ t.odo.counters = s.odo.counters)

/-- R36 to R38: SET_STROBE. A zero exposure, a guard over 255 or a first delay over 1,000 answers BAD_ARGUMENT with the first
such index; exposures over 2,000 µs are cut to it; a plan length over 4,000 µs answers PLAN_TOO_LONG. An accepted plan becomes
active in STANDBY and staged otherwise, and the reply, CLAMPED if an exposure was cut, carries the plan length and where the
plan went. -/
def Obligations.StrobeSet : Prop :=
  ∀ (s : State) (address tag : Byte) (args : List Byte), Taken s address args → args.length = 12 →
    let x (p : Port) : Nat := natField args (2 * p.index) 2
    let plan : Plan :=
      ⟨⟨min (x .h0) 2000, min (x .h1) 2000, min (x .h2) 2000, min (x .h3) 2000⟩, natField args 8 2, natField args 10 2⟩
    let inRange := (∀ p, x p ≠ 0) ∧ plan.guard ≤ 255 ∧ plan.firstDelay ≤ 1000
    let on (p : Port) : Nat := if s.roof.enabled.get p = true then 1 else 0
    let length :=
      plan.firstDelay + (on .h0 * plan.exposure.h0 + on .h1 * plan.exposure.h1 + on .h2 * plan.exposure.h2 +
        on .h3 * plan.exposure.h3) + (on .h0 + on .h1 + on .h2 + on .h3 - 1) * plan.guard
    ∃ t, exec (.setStrobe address tag args) s = .next t ∧
      (∀ p : Port, x p = 0 → (∀ q : Port, q.index < p.index → x q ≠ 0) →
        OnlyAnswers s t 0x15 tag { result := .badArgument, detail := p.index }) ∧
      ((∀ p, x p ≠ 0) → 255 < plan.guard → OnlyAnswers s t 0x15 tag { result := .badArgument, detail := 4 }) ∧
      ((∀ p, x p ≠ 0) → plan.guard ≤ 255 → 1000 < plan.firstDelay →
        OnlyAnswers s t 0x15 tag { result := .badArgument, detail := 5 }) ∧
      (inRange → 4000 < length → OnlyAnswers s t 0x15 tag { result := .planTooLong }) ∧
      (inRange → length ≤ 4000 →
        OnlyChanges [.seq, .out, .cmd] s t ∧
        Answered s t 0x15 tag
          { result :=
              if x .h0 ≤ 2000 ∧ x .h1 ≤ 2000 ∧ x .h2 ≤ 2000 ∧ x .h3 ≤ 2000 then .done else .clamped
            data := natBytes16 length ++ [if s.cmd.op = .standby then 0 else 1] } ∧
        t.seq =
          (if s.cmd.op = .standby then { s.seq with active := plan } else { s.seq with staged := some plan }))

/-- R66, R69 and R70: ZONE_APPEND in any operating state. Without room for all its entries it answers QUEUE_FULL. With every
entry legal, its wire type loaded, standing beyond the entry before it (the queue's tail for entry 0) and not yet passed by the
accumulator, all are admitted at the tail with consecutive entry numbers, the exhaustion flag is cleared, and the reply carries the
first number and the entries held. Otherwise the first entry that fails refuses the command with its index and with the first of
BAD_ARGUMENT, NOT_LOADED, ORDER and STALE_ZONE whose test it fails, and nothing changes. -/
def Obligations.ZonesAppended : Prop :=
  ∀ (s : State) (address tag : Byte) (args : List Byte), Taken s address args → lengthRight 0x20 args = true →
    let n := (byteAt args 0).toNat
    let bytes (j : Nat) : List Byte := (args.drop (1 + 31 * j)).take 31
    let entry (j : Nat) : ZoneEntry := zoneEntryArg (bytes j)
    let before (j : Nat) : Option ZoneEntry := if j = 0 then s.zones.entries.getLast? else some (entry (j - 1))
    let fits := s.zones.entries.length + n ≤ 64
    let legal (j : Nat) : Prop := ZoneArgLegal (bytes j)
    let loaded (j : Nat) : Prop := ∃ w, s.merge.slots[(entry j).wireType]? = some w ∧ w.loaded = true
    let beyond (j : Nat) : Prop := ∀ a, before j = some a → match s.cmd.params.direction with
      | .increasing => a.hi ≤ (entry j).lo
      | .decreasing => (entry j).hi ≤ a.lo
    let ahead (j : Nat) : Prop := match s.cmd.params.direction with
      | .increasing => s.odo.mm < (entry j).hi
      | .decreasing => (entry j).lo ≤ s.odo.mm
    let fails (j : Nat) : Result → Prop := zoneArgFails (legal j) (loaded j) (beyond j) (ahead j)
    let passes := ∀ j < n, legal j ∧ loaded j ∧ beyond j ∧ ahead j
    ∃ t, exec (.zoneAppend address tag args) s = .next t ∧
      (¬fits → OnlyAnswers s t 0x20 tag { result := .queueFull }) ∧
      (fits → passes →
        OnlyChanges [.zones, .out, .cmd] s t ∧
        Answered s t 0x20 tag
          { result := .done
            data := bytes16 s.zones.nextEntry ++ [BitVec.ofNat 8 (s.zones.entries.length + n)] } ∧
        t.zones =
          { s.zones with
            entries := s.zones.entries ++ (List.range n).map fun j =>
              { entry j with number := s.zones.nextEntry + BitVec.ofNat 16 j }
            nextEntry := s.zones.nextEntry + BitVec.ofNat 16 n
            exhausted := false
            counters := { s.zones.counters with appended := bumpBy s.zones.counters.appended n } }) ∧
      (fits → ¬passes →
        ∃ i < n, ∃ r, FirstFailing (fun j => ∃ q, fails j q) i ∧ fails i r ∧
          OnlyAnswers s t 0x20 tag { result := r, detail := i })

/-- R72 and R80: ZONE_FLUSH in any operating state. An empty queue answers 0 and nothing changes. Otherwise the store empties,
the current zone becomes NONE, the flush mark is set and the entries are counted flushed. In STANDBY that is all. In RUNNING
and DRAINING the entries wait in the closing list, tagged with the most recent scan, while scans are in flight, and otherwise
their ZONE records come at once; in RUNNING the exhaustion flag is set, and STATUS ZONES_EXHAUSTED follows. Class B has room
for them all here. That the ZONE records come before that STATUS record is the model's reading (log entry 10). -/
def Obligations.ZonesFlushed : Prop :=
  ∀ (s : State) (address tag : Byte), Taken s address [] →
    let n := s.zones.entries.length
    let reply := replyFrame s.cmd.station 0x21 tag { result := .done, data := [BitVec.ofNat 8 n] }
    let flushed := s.zones.entries.map fun e => (⟨e, .flushed, s.odo.mm, s.zones.lastScan⟩ : ClosingEntry)
    let records := flushed.map fun c => (⟨kindZone, s.cmd.station.setWidth 8, c.payload⟩ : Frame)
    ∃ t, exec (.zoneFlush address tag []) s = .next t ∧
      (n = 0 → OnlyAnswers s t 0x21 tag { result := .done, data := [0] }) ∧
      (0 < n →
        OnlyChanges [.zones, .out, .cmd] s t ∧ t.cmd = tookOne s.cmd .done ∧
        t.zones =
          { s.zones with
            entries := []
            current := false
            flushMark := true
            exhausted := if s.cmd.op = .running then true else s.zones.exhausted
            closing :=
              if s.cmd.op ≠ .standby ∧ 0 < s.zones.inFlight then s.zones.closing ++ flushed else s.zones.closing
            counters := { s.zones.counters with flushed := bumpBy s.zones.counters.flushed n } } ∧
        (s.cmd.op = .standby → t.out = replied s.out reply) ∧
        (s.cmd.op ≠ .standby → s.out.records.length + 1 + n < 60 →
          let first := if s.zones.inFlight = 0 then records else []
          (s.cmd.op = .draining → t.out.records = s.out.records ++ first ++ [reply]) ∧
          (s.cmd.op = .running → ∃ f, ShowsStatus f s.cmd.station .zonesExhausted .running s.roof ∧
            t.out.records = s.out.records ++ first ++ [f, reply])))

/-- R16: HEAD_PASS. A port index over 3, or a port that is not enabled, answers BAD_ARGUMENT; an occupied relay slot answers
QUEUE_FULL; neither changes anything. Otherwise the HEAD_CONFIG frame stands in the slot, an idle downlink starts it unless a
TRIGGER waits, and the reply is DONE. -/
def Obligations.HeadPassed : Prop :=
  ∀ (s : State) (address tag n : Byte) (bytes : List Byte), Taken s address (n :: bytes) →
    1 ≤ bytes.length → bytes.length ≤ 64 →
    ∃ t, exec (.headPass address tag (n :: bytes)) s = .next t ∧
      (3 < n.toNat → OnlyAnswers s t 0x30 tag { result := .badArgument }) ∧
      (∀ p : Port, n.toNat = p.index →
        (s.roof.enabled.get p = false → OnlyAnswers s t 0x30 tag { result := .badArgument }) ∧
        (s.roof.enabled.get p = true → (s.port p).relay ≠ none →
          OnlyAnswers s t 0x30 tag { result := .queueFull }) ∧
        (s.roof.enabled.get p = true → (s.port p).relay = none →
          OnlyChanges [.roof, .out, .cmd] s t ∧ OnlyPort p s t ∧ Answered s t 0x30 tag { result := .done } ∧
          t.port p =
            { s.port p with
              relay := some ⟨kindHeadConfig, (s.port p).headId, bytes⟩
              waiting := if (s.port p).tx = .idle then none else (s.port p).waiting
              tx :=
                match (s.port p).tx, (s.port p).waiting with
                | .idle, some f => .trigger f
                | .idle, none => .config
                | tx, _ => tx }))

/-- R179: START in STANDBY, and R7, R18, R27, R29, R67 and R141 for what it does. Some port is enabled, every enabled port's
calibration set is loaded, their priorities differ, the default wire type is loaded and the active plan is not too long: the
part is RUNNING, IDLE ports are SEEKING with their timers started, the divider is reloaded, the since-start indicator, current
zone, flush mark and exhaustion flag are cleared, the scan register takes the odometer's sense and epoch, and the STATUS record
comes before the reply. Otherwise the first of the five checks that fails refuses it with its own result and detail, and nothing
changes: no port enabled, a set not loaded, a shared priority, the default wire type not loaded, the plan too long. -/
def Obligations.RunStarts : Prop :=
  ∀ (s : State) (address tag : Byte), Taken s address [] → s.cmd.op = .standby →
    let on (p : Port) : Prop := s.roof.enabled.get p = true
    let loaded (p : Port) : Prop := (s.geo.cal.get p).loaded = true
    let priority (p : Port) : Nat := (s.geo.cal.get p).cal.priority
    ∃ t, exec (.start address tag []) s = .next t ∧
      ((∃ p, on p) → (∀ p, on p → loaded p) → (∀ p q, on p → on q → p ≠ q → priority p ≠ priority q) →
        (∃ w, s.merge.slots[s.cmd.params.defaultWire]? = some w ∧ w.loaded = true) →
        s.seq.active.length s.roof.enabled ≤ 4000 →
        OnlyChanges [.roof, .motion, .odo, .zones, .span, .out, .cmd] s t ∧
        t.cmd = tookOne { s.cmd with op := .running } .done ∧ t.roof.enabled = s.roof.enabled ∧
        (∀ p, t.port p =
          if (s.port p).state = .idle then
            { s.port p with state := .seeking, silence := some s.timebase, forwardCount := 0 }
          else { s.port p with forwardCount := 0 }) ∧
        t.motion = { s.motion with sinceStart := false } ∧ t.odo = { s.odo with divider := s.odo.spacing } ∧
        t.zones = { s.zones with current := false, flushMark := false, exhausted := false } ∧
        t.span = { s.span with prevSense := s.odo.sense, prevEpoch := s.odo.epoch } ∧
        (s.out.records.length + 1 < 60 →
          ∃ f, ShowsStatus f s.cmd.station .operatingState .running t.roof ∧
            t.out = replied (withStatus s.out f) (replyFrame s.cmd.station 0x40 tag { result := .done }))) ∧
      ((∀ p, ¬on p) → OnlyAnswers s t 0x40 tag { result := .badArgument }) ∧
      (∀ p, on p → ¬loaded p → (∀ q : Port, q.index < p.index → on q → loaded q) →
        OnlyAnswers s t 0x40 tag { result := .notLoaded, detail := p.index }) ∧
      ((∃ p, on p) → (∀ p, on p → loaded p) →
        let shares (p : Port) : Prop := ∃ q : Port, q.index < p.index ∧ on q ∧ priority q = priority p
        let wire := ∃ w, s.merge.slots[s.cmd.params.defaultWire]? = some w ∧ w.loaded = true
        (∀ p, on p → shares p → (∀ q : Port, q.index < p.index → on q → ¬shares q) →
          OnlyAnswers s t 0x40 tag { result := .badPriority, detail := p.index }) ∧
        ((∀ p, on p → ¬shares p) → ¬wire →
          OnlyAnswers s t 0x40 tag { result := .notLoaded, detail := 16 + s.cmd.params.defaultWire }) ∧
        ((∀ p, on p → ¬shares p) → wire → 4000 < s.seq.active.length s.roof.enabled →
          OnlyAnswers s t 0x40 tag { result := .planTooLong }))

/-- R180, R63 and R181: STOP. In RUNNING the part is DRAINING and waits for assembly, and STATUS OPERATING_STATE comes before
the reply; with no scan in assembly the drain waits for the pipeline at once, and with none there either it asks for the drain
close. In DRAINING it replies DONE and changes nothing; in STANDBY it answers REFUSED_STATE. -/
def Obligations.RunStops : Prop :=
  ∀ (s : State) (address tag : Byte), Taken s address [] →
    ∃ t, exec (.stop address tag []) s = .next t ∧
      (s.cmd.op = .standby → OnlyAnswers s t 0x41 tag { result := .refusedState }) ∧
      (s.cmd.op = .draining → OnlyAnswers s t 0x41 tag { result := .done }) ∧
      (s.cmd.op = .running →
        OnlyChanges [.paths, .out, .cmd] s t ∧
        (s.asm.contexts ≠ [] →
          t.paths = s.paths ∧
          t.cmd = tookOne { s.cmd with op := .draining, drain := .waitingAssembly } .done) ∧
        (s.asm.contexts = [] → s.cmd.tally ≠ 0 →
          t.paths = s.paths ∧
          t.cmd = tookOne { s.cmd with op := .draining, drain := .waitingPipeline } .done) ∧
        (s.asm.contexts = [] → s.cmd.tally = 0 →
          t.paths = { s.paths with drainRequest := true } ∧
          t.cmd = tookOne { s.cmd with op := .draining, drain := .waitingSpan, lateMark := false } .done) ∧
        (s.out.records.length + 1 < 60 →
          ∃ f, ShowsStatus f s.cmd.station .operatingState .draining s.roof ∧
            t.out = replied (withStatus s.out f) (replyFrame s.cmd.station 0x41 tag { result := .done })))

/-! ### Invariants and balances -/

/-- State.reset is what HARD_RESET_END leaves with the straps and line levels that the model chooses (log entry 3) where no
command waits and the trunk link is down (log entry 2), it meets every invariant, and every balance of the counters holds in
it. -/
def Obligations.ResetIsLegal : Prop :=
  (∀ s : State, s.pending = [] → s.out.linkUp = false →
    exec (.hardResetEnd 0 ⟨true, true, true, true⟩ false false) s = .next State.reset) ∧
  Capacity State.reset ∧ PortsLegal State.reset ∧ LinesLegal State.reset ∧ ContextsLegal State.reset ∧
    TracksLegal State.reset ∧ ZonesLegal State.reset ∧ OdometerLegal State.reset ∧ PlansLegal State.reset ∧
    RunsLegal State.reset ∧ DrainLegal State.reset ∧ SpanKeyed State.reset ∧ SpanFollows State.reset ∧
  PortBalance State.reset ∧ GeometryBalance State.reset ∧ MergeBalance State.reset ∧ MotionBalance State.reset ∧
    TriggerBalance State.reset ∧ TrackBalance State.reset ∧
  State.reset.zones.counters.appended.toNat = zonesAccounted State.reset ∧
    State.reset.span.counters.binsOpened.toNat = binsAccounted State.reset ∧
    State.reset.span.counters.runsOpened.toNat = runsAccounted State.reset ∧
    State.reset.out.counters.admitted.toNat = recordsAccounted State.reset ∧
    State.reset.out.counters.rawAdmitted.toNat = rawAccounted State.reset ∧
    State.reset.cmd.rx.good.toNat = commandsAccounted State.reset

/-- Every step keeps the stores within their sizes (Law 8 among them: the record queue never holds more than 64; R2: a receiver
stores at most 326 bytes), the trunk transmitter at a frame that is held, and the reply reservation closed between commands. -/
def Obligations.CapacityKept : Prop := Kept Capacity

/-- Every step keeps the roof ports legal, and the strobe lines as the slots say, so that no two lines are asserted together
(Law 9). -/
def Obligations.PortsAndLinesKept : Prop := Kept PortsLegal ∧ Kept LinesLegal

/-- Every step keeps the contexts in use legal: at most four, numbered consecutively, the oldest one collecting. -/
def Obligations.ContextsKept : Prop := Kept ContextsLegal

/-- Every step keeps the track table (Law 1), the zone queue (Law 3) and the run store (Law 12) legal. And every step keeps the
bins and runs keyed and the lists on their way to the span unit in step with the open bins and with the track table (R124, R136,
R141), so that the bins and runs are keyed and the next list fits them (SpanKeyed) wherever this holds. A list may confirm a track
under the id of one that it ends: this is the model's reading of R124 once ids have wrapped (log entry 23). -/
def Obligations.TablesKept : Prop :=
  Kept TracksLegal ∧ Kept ZonesLegal ∧ Kept RunsLegal ∧ (∀ s, SpanFollows s → SpanKeyed s) ∧
    Kept fun s => TracksLegal s ∧ SpanFollows s

/-- Every step keeps the odometer unit within its ranges, the plan store and drain progress as the operating state demands, and
what is under way between START and the end of the drain as DrainLegal says: so that in STANDBY no trigger is on its way (R47), no
scan is in flight, the closing list is empty (R67, R78, R181) and no track is live. And no step from STANDBY queues a WIRE,
TRACK_END, EXCEEDANCE or ZONE record (R157, Law 10): of those held, some may have been sent. -/
def Obligations.OdometerAndPlansKept : Prop :=
  Kept OdometerLegal ∧ Kept PlansLegal ∧ Kept DrainLegal ∧
    ∀ s t, DrainLegal s → s.cmd.op = .standby → step s = .next t →
      (t.out.records.filter measures) <:+ (s.out.records.filter measures)

/-- Every step keeps the counter balances of R13 (Law 7), R34, R103 and R121 and, with what DrainLegal says, those of R28, R47 and
R65 (Law 6) and of R140. Every step but one of a row that clears the counters carries on the balances of R83, R160, R170 and R184
from whatever point they are counted, the bins' in every state, the runs' where the run store is legal (RunsLegal) and those of
the output unit where the stores are (Capacity). Such a row either leaves the counters (it is turned away) or starts them anew:
after CLEAR_COUNTERS the records and raw frames held at the clear stand beside those admitted since (R170), and of the commands
its own REPLY is counted and not its frame (R184), as after RESET; after RESET and at the reset line's rows both output balances
hold from nothing. -/
def Obligations.BalancesKept : Prop :=
  Kept PortBalance ∧ Kept GeometryBalance ∧ Kept MergeBalance ∧ Kept MotionBalance ∧
  Kept (fun s => DrainLegal s ∧ TriggerBalance s) ∧ Kept (fun s => DrainLegal s ∧ TrackBalance s) ∧
  Carried (fun _ => True)
    (fun s => [s.zones.counters.appended, s.zones.counters.passed, s.zones.counters.skipped, s.zones.counters.flushed])
    (fun s => s.zones.counters.appended.toNat) zonesAccounted ∧
  Carried (fun _ => True) (fun s => [s.span.counters.binsOpened, s.span.counters.binsClosed])
    (fun s => s.span.counters.binsOpened.toNat) binsAccounted ∧
  Carried RunsLegal
    (fun s => [s.span.counters.runsOpened, s.span.counters.runsReleased, s.span.counters.runsByEvent])
    (fun s => s.span.counters.runsOpened.toNat) runsAccounted ∧
  Carried Capacity (fun s => [s.out.counters.admitted, s.out.counters.sent])
    (fun s => s.out.counters.admitted.toNat) recordsAccounted ∧
  Carried Capacity (fun s => [s.out.counters.rawAdmitted, s.out.counters.rawSent])
    (fun s => s.out.counters.rawAdmitted.toNat) rawAccounted ∧
  Carried (fun _ => True)
    (fun s => [s.cmd.rx.good, s.cmd.counters.taken, s.cmd.counters.dropped, s.cmd.counters.misaddressed])
    (fun s => s.cmd.rx.good.toNat) commandsAccounted ∧
  (∀ (s t : State) (address tag : Byte), Taken s address [] →
    (s.cmd.op = .standby → exec (.clearCounters address tag []) s = .next t →
      t.out.counters.admitted.toNat + s.out.records.length = recordsAccounted t ∧
      t.out.counters.rawAdmitted.toNat + s.out.raw.length = rawAccounted t ∧
      t.cmd.rx.good.toNat + 1 = commandsAccounted t) ∧
    (exec (.reset address tag []) s = .next t →
      t.out.counters.admitted.toNat = recordsAccounted t ∧ t.out.counters.rawAdmitted.toNat = rawAccounted t ∧
      t.cmd.rx.good.toNat + 1 = commandsAccounted t)) ∧
  ∀ (s t : State) (c : Instr), (c = .hardReset ∨ ∃ a m x y, c = .hardResetEnd a m x y) → exec c s = .next t →
    t.out.counters.admitted.toNat = recordsAccounted t ∧ t.out.counters.rawAdmitted.toNat = rawAccounted t ∧
    t.cmd.rx.good.toNat = commandsAccounted t

end Statements
end

