-- ==== Sys2Proof/Laws/State.lean ====
section
/-! SUPPORT. What each update of the state changes and what it leaves: one lemma per field per update. -/

namespace Sys2Proof.Machine.State

variable (s : State)

/-! ### the timebase -/

@[simp] theorem onTimebase_timebase (f : Time → Time) : (s.onTimebase f).timebase = f s.timebase := rfl
@[simp] theorem onTimebase_held (f : Time → Time) : (s.onTimebase f).held = s.held := rfl
@[simp] theorem onTimebase_roof (f : Time → Time) : (s.onTimebase f).roof = s.roof := rfl
@[simp] theorem onTimebase_motion (f : Time → Time) : (s.onTimebase f).motion = s.motion := rfl
@[simp] theorem onTimebase_odo (f : Time → Time) : (s.onTimebase f).odo = s.odo := rfl
@[simp] theorem onTimebase_seq (f : Time → Time) : (s.onTimebase f).seq = s.seq := rfl
@[simp] theorem onTimebase_asm (f : Time → Time) : (s.onTimebase f).asm = s.asm := rfl
@[simp] theorem onTimebase_paths (f : Time → Time) : (s.onTimebase f).paths = s.paths := rfl
@[simp] theorem onTimebase_zones (f : Time → Time) : (s.onTimebase f).zones = s.zones := rfl
@[simp] theorem onTimebase_geo (f : Time → Time) : (s.onTimebase f).geo = s.geo := rfl
@[simp] theorem onTimebase_merge (f : Time → Time) : (s.onTimebase f).merge = s.merge := rfl
@[simp] theorem onTimebase_tracks (f : Time → Time) : (s.onTimebase f).tracks = s.tracks := rfl
@[simp] theorem onTimebase_span (f : Time → Time) : (s.onTimebase f).span = s.span := rfl
@[simp] theorem onTimebase_out (f : Time → Time) : (s.onTimebase f).out = s.out := rfl
@[simp] theorem onTimebase_cmd (f : Time → Time) : (s.onTimebase f).cmd = s.cmd := rfl
@[simp] theorem onTimebase_pending (f : Time → Time) : (s.onTimebase f).pending = s.pending := rfl

/-! ### the reset line's mark -/

@[simp] theorem onHeld_timebase (f : Bool → Bool) : (s.onHeld f).timebase = s.timebase := rfl
@[simp] theorem onHeld_held (f : Bool → Bool) : (s.onHeld f).held = f s.held := rfl
@[simp] theorem onHeld_roof (f : Bool → Bool) : (s.onHeld f).roof = s.roof := rfl
@[simp] theorem onHeld_motion (f : Bool → Bool) : (s.onHeld f).motion = s.motion := rfl
@[simp] theorem onHeld_odo (f : Bool → Bool) : (s.onHeld f).odo = s.odo := rfl
@[simp] theorem onHeld_seq (f : Bool → Bool) : (s.onHeld f).seq = s.seq := rfl
@[simp] theorem onHeld_asm (f : Bool → Bool) : (s.onHeld f).asm = s.asm := rfl
@[simp] theorem onHeld_paths (f : Bool → Bool) : (s.onHeld f).paths = s.paths := rfl
@[simp] theorem onHeld_zones (f : Bool → Bool) : (s.onHeld f).zones = s.zones := rfl
@[simp] theorem onHeld_geo (f : Bool → Bool) : (s.onHeld f).geo = s.geo := rfl
@[simp] theorem onHeld_merge (f : Bool → Bool) : (s.onHeld f).merge = s.merge := rfl
@[simp] theorem onHeld_tracks (f : Bool → Bool) : (s.onHeld f).tracks = s.tracks := rfl
@[simp] theorem onHeld_span (f : Bool → Bool) : (s.onHeld f).span = s.span := rfl
@[simp] theorem onHeld_out (f : Bool → Bool) : (s.onHeld f).out = s.out := rfl
@[simp] theorem onHeld_cmd (f : Bool → Bool) : (s.onHeld f).cmd = s.cmd := rfl
@[simp] theorem onHeld_pending (f : Bool → Bool) : (s.onHeld f).pending = s.pending := rfl

/-! ### the roof ports -/

@[simp] theorem onRoof_timebase (f : Roof → Roof) : (s.onRoof f).timebase = s.timebase := rfl
@[simp] theorem onRoof_held (f : Roof → Roof) : (s.onRoof f).held = s.held := rfl
@[simp] theorem onRoof_roof (f : Roof → Roof) : (s.onRoof f).roof = f s.roof := rfl
@[simp] theorem onRoof_motion (f : Roof → Roof) : (s.onRoof f).motion = s.motion := rfl
@[simp] theorem onRoof_odo (f : Roof → Roof) : (s.onRoof f).odo = s.odo := rfl
@[simp] theorem onRoof_seq (f : Roof → Roof) : (s.onRoof f).seq = s.seq := rfl
@[simp] theorem onRoof_asm (f : Roof → Roof) : (s.onRoof f).asm = s.asm := rfl
@[simp] theorem onRoof_paths (f : Roof → Roof) : (s.onRoof f).paths = s.paths := rfl
@[simp] theorem onRoof_zones (f : Roof → Roof) : (s.onRoof f).zones = s.zones := rfl
@[simp] theorem onRoof_geo (f : Roof → Roof) : (s.onRoof f).geo = s.geo := rfl
@[simp] theorem onRoof_merge (f : Roof → Roof) : (s.onRoof f).merge = s.merge := rfl
@[simp] theorem onRoof_tracks (f : Roof → Roof) : (s.onRoof f).tracks = s.tracks := rfl
@[simp] theorem onRoof_span (f : Roof → Roof) : (s.onRoof f).span = s.span := rfl
@[simp] theorem onRoof_out (f : Roof → Roof) : (s.onRoof f).out = s.out := rfl
@[simp] theorem onRoof_cmd (f : Roof → Roof) : (s.onRoof f).cmd = s.cmd := rfl
@[simp] theorem onRoof_pending (f : Roof → Roof) : (s.onRoof f).pending = s.pending := rfl

/-! ### the motion port -/

@[simp] theorem onMotion_timebase (f : MotionPort → MotionPort) : (s.onMotion f).timebase = s.timebase := rfl
@[simp] theorem onMotion_held (f : MotionPort → MotionPort) : (s.onMotion f).held = s.held := rfl
@[simp] theorem onMotion_roof (f : MotionPort → MotionPort) : (s.onMotion f).roof = s.roof := rfl
@[simp] theorem onMotion_motion (f : MotionPort → MotionPort) : (s.onMotion f).motion = f s.motion := rfl
@[simp] theorem onMotion_odo (f : MotionPort → MotionPort) : (s.onMotion f).odo = s.odo := rfl
@[simp] theorem onMotion_seq (f : MotionPort → MotionPort) : (s.onMotion f).seq = s.seq := rfl
@[simp] theorem onMotion_asm (f : MotionPort → MotionPort) : (s.onMotion f).asm = s.asm := rfl
@[simp] theorem onMotion_paths (f : MotionPort → MotionPort) : (s.onMotion f).paths = s.paths := rfl
@[simp] theorem onMotion_zones (f : MotionPort → MotionPort) : (s.onMotion f).zones = s.zones := rfl
@[simp] theorem onMotion_geo (f : MotionPort → MotionPort) : (s.onMotion f).geo = s.geo := rfl
@[simp] theorem onMotion_merge (f : MotionPort → MotionPort) : (s.onMotion f).merge = s.merge := rfl
@[simp] theorem onMotion_tracks (f : MotionPort → MotionPort) : (s.onMotion f).tracks = s.tracks := rfl
@[simp] theorem onMotion_span (f : MotionPort → MotionPort) : (s.onMotion f).span = s.span := rfl
@[simp] theorem onMotion_out (f : MotionPort → MotionPort) : (s.onMotion f).out = s.out := rfl
@[simp] theorem onMotion_cmd (f : MotionPort → MotionPort) : (s.onMotion f).cmd = s.cmd := rfl
@[simp] theorem onMotion_pending (f : MotionPort → MotionPort) : (s.onMotion f).pending = s.pending := rfl

/-! ### the odometer unit -/

@[simp] theorem onOdo_timebase (f : Odometer → Odometer) : (s.onOdo f).timebase = s.timebase := rfl
@[simp] theorem onOdo_held (f : Odometer → Odometer) : (s.onOdo f).held = s.held := rfl
@[simp] theorem onOdo_roof (f : Odometer → Odometer) : (s.onOdo f).roof = s.roof := rfl
@[simp] theorem onOdo_motion (f : Odometer → Odometer) : (s.onOdo f).motion = s.motion := rfl
@[simp] theorem onOdo_odo (f : Odometer → Odometer) : (s.onOdo f).odo = f s.odo := rfl
@[simp] theorem onOdo_seq (f : Odometer → Odometer) : (s.onOdo f).seq = s.seq := rfl
@[simp] theorem onOdo_asm (f : Odometer → Odometer) : (s.onOdo f).asm = s.asm := rfl
@[simp] theorem onOdo_paths (f : Odometer → Odometer) : (s.onOdo f).paths = s.paths := rfl
@[simp] theorem onOdo_zones (f : Odometer → Odometer) : (s.onOdo f).zones = s.zones := rfl
@[simp] theorem onOdo_geo (f : Odometer → Odometer) : (s.onOdo f).geo = s.geo := rfl
@[simp] theorem onOdo_merge (f : Odometer → Odometer) : (s.onOdo f).merge = s.merge := rfl
@[simp] theorem onOdo_tracks (f : Odometer → Odometer) : (s.onOdo f).tracks = s.tracks := rfl
@[simp] theorem onOdo_span (f : Odometer → Odometer) : (s.onOdo f).span = s.span := rfl
@[simp] theorem onOdo_out (f : Odometer → Odometer) : (s.onOdo f).out = s.out := rfl
@[simp] theorem onOdo_cmd (f : Odometer → Odometer) : (s.onOdo f).cmd = s.cmd := rfl
@[simp] theorem onOdo_pending (f : Odometer → Odometer) : (s.onOdo f).pending = s.pending := rfl

/-! ### the strobe sequencer -/

@[simp] theorem onSeq_timebase (f : Sequencer → Sequencer) : (s.onSeq f).timebase = s.timebase := rfl
@[simp] theorem onSeq_held (f : Sequencer → Sequencer) : (s.onSeq f).held = s.held := rfl
@[simp] theorem onSeq_roof (f : Sequencer → Sequencer) : (s.onSeq f).roof = s.roof := rfl
@[simp] theorem onSeq_motion (f : Sequencer → Sequencer) : (s.onSeq f).motion = s.motion := rfl
@[simp] theorem onSeq_odo (f : Sequencer → Sequencer) : (s.onSeq f).odo = s.odo := rfl
@[simp] theorem onSeq_seq (f : Sequencer → Sequencer) : (s.onSeq f).seq = f s.seq := rfl
@[simp] theorem onSeq_asm (f : Sequencer → Sequencer) : (s.onSeq f).asm = s.asm := rfl
@[simp] theorem onSeq_paths (f : Sequencer → Sequencer) : (s.onSeq f).paths = s.paths := rfl
@[simp] theorem onSeq_zones (f : Sequencer → Sequencer) : (s.onSeq f).zones = s.zones := rfl
@[simp] theorem onSeq_geo (f : Sequencer → Sequencer) : (s.onSeq f).geo = s.geo := rfl
@[simp] theorem onSeq_merge (f : Sequencer → Sequencer) : (s.onSeq f).merge = s.merge := rfl
@[simp] theorem onSeq_tracks (f : Sequencer → Sequencer) : (s.onSeq f).tracks = s.tracks := rfl
@[simp] theorem onSeq_span (f : Sequencer → Sequencer) : (s.onSeq f).span = s.span := rfl
@[simp] theorem onSeq_out (f : Sequencer → Sequencer) : (s.onSeq f).out = s.out := rfl
@[simp] theorem onSeq_cmd (f : Sequencer → Sequencer) : (s.onSeq f).cmd = s.cmd := rfl
@[simp] theorem onSeq_pending (f : Sequencer → Sequencer) : (s.onSeq f).pending = s.pending := rfl

/-! ### the scan assembler -/

@[simp] theorem onAsm_timebase (f : Assembler → Assembler) : (s.onAsm f).timebase = s.timebase := rfl
@[simp] theorem onAsm_held (f : Assembler → Assembler) : (s.onAsm f).held = s.held := rfl
@[simp] theorem onAsm_roof (f : Assembler → Assembler) : (s.onAsm f).roof = s.roof := rfl
@[simp] theorem onAsm_motion (f : Assembler → Assembler) : (s.onAsm f).motion = s.motion := rfl
@[simp] theorem onAsm_odo (f : Assembler → Assembler) : (s.onAsm f).odo = s.odo := rfl
@[simp] theorem onAsm_seq (f : Assembler → Assembler) : (s.onAsm f).seq = s.seq := rfl
@[simp] theorem onAsm_asm (f : Assembler → Assembler) : (s.onAsm f).asm = f s.asm := rfl
@[simp] theorem onAsm_paths (f : Assembler → Assembler) : (s.onAsm f).paths = s.paths := rfl
@[simp] theorem onAsm_zones (f : Assembler → Assembler) : (s.onAsm f).zones = s.zones := rfl
@[simp] theorem onAsm_geo (f : Assembler → Assembler) : (s.onAsm f).geo = s.geo := rfl
@[simp] theorem onAsm_merge (f : Assembler → Assembler) : (s.onAsm f).merge = s.merge := rfl
@[simp] theorem onAsm_tracks (f : Assembler → Assembler) : (s.onAsm f).tracks = s.tracks := rfl
@[simp] theorem onAsm_span (f : Assembler → Assembler) : (s.onAsm f).span = s.span := rfl
@[simp] theorem onAsm_out (f : Assembler → Assembler) : (s.onAsm f).out = s.out := rfl
@[simp] theorem onAsm_cmd (f : Assembler → Assembler) : (s.onAsm f).cmd = s.cmd := rfl
@[simp] theorem onAsm_pending (f : Assembler → Assembler) : (s.onAsm f).pending = s.pending := rfl

/-! ### the paths between the units -/

@[simp] theorem onPaths_timebase (f : Paths → Paths) : (s.onPaths f).timebase = s.timebase := rfl
@[simp] theorem onPaths_held (f : Paths → Paths) : (s.onPaths f).held = s.held := rfl
@[simp] theorem onPaths_roof (f : Paths → Paths) : (s.onPaths f).roof = s.roof := rfl
@[simp] theorem onPaths_motion (f : Paths → Paths) : (s.onPaths f).motion = s.motion := rfl
@[simp] theorem onPaths_odo (f : Paths → Paths) : (s.onPaths f).odo = s.odo := rfl
@[simp] theorem onPaths_seq (f : Paths → Paths) : (s.onPaths f).seq = s.seq := rfl
@[simp] theorem onPaths_asm (f : Paths → Paths) : (s.onPaths f).asm = s.asm := rfl
@[simp] theorem onPaths_paths (f : Paths → Paths) : (s.onPaths f).paths = f s.paths := rfl
@[simp] theorem onPaths_zones (f : Paths → Paths) : (s.onPaths f).zones = s.zones := rfl
@[simp] theorem onPaths_geo (f : Paths → Paths) : (s.onPaths f).geo = s.geo := rfl
@[simp] theorem onPaths_merge (f : Paths → Paths) : (s.onPaths f).merge = s.merge := rfl
@[simp] theorem onPaths_tracks (f : Paths → Paths) : (s.onPaths f).tracks = s.tracks := rfl
@[simp] theorem onPaths_span (f : Paths → Paths) : (s.onPaths f).span = s.span := rfl
@[simp] theorem onPaths_out (f : Paths → Paths) : (s.onPaths f).out = s.out := rfl
@[simp] theorem onPaths_cmd (f : Paths → Paths) : (s.onPaths f).cmd = s.cmd := rfl
@[simp] theorem onPaths_pending (f : Paths → Paths) : (s.onPaths f).pending = s.pending := rfl

/-! ### the zone queue unit -/

@[simp] theorem onZones_timebase (f : ZoneQueue → ZoneQueue) : (s.onZones f).timebase = s.timebase := rfl
@[simp] theorem onZones_held (f : ZoneQueue → ZoneQueue) : (s.onZones f).held = s.held := rfl
@[simp] theorem onZones_roof (f : ZoneQueue → ZoneQueue) : (s.onZones f).roof = s.roof := rfl
@[simp] theorem onZones_motion (f : ZoneQueue → ZoneQueue) : (s.onZones f).motion = s.motion := rfl
@[simp] theorem onZones_odo (f : ZoneQueue → ZoneQueue) : (s.onZones f).odo = s.odo := rfl
@[simp] theorem onZones_seq (f : ZoneQueue → ZoneQueue) : (s.onZones f).seq = s.seq := rfl
@[simp] theorem onZones_asm (f : ZoneQueue → ZoneQueue) : (s.onZones f).asm = s.asm := rfl
@[simp] theorem onZones_paths (f : ZoneQueue → ZoneQueue) : (s.onZones f).paths = s.paths := rfl
@[simp] theorem onZones_zones (f : ZoneQueue → ZoneQueue) : (s.onZones f).zones = f s.zones := rfl
@[simp] theorem onZones_geo (f : ZoneQueue → ZoneQueue) : (s.onZones f).geo = s.geo := rfl
@[simp] theorem onZones_merge (f : ZoneQueue → ZoneQueue) : (s.onZones f).merge = s.merge := rfl
@[simp] theorem onZones_tracks (f : ZoneQueue → ZoneQueue) : (s.onZones f).tracks = s.tracks := rfl
@[simp] theorem onZones_span (f : ZoneQueue → ZoneQueue) : (s.onZones f).span = s.span := rfl
@[simp] theorem onZones_out (f : ZoneQueue → ZoneQueue) : (s.onZones f).out = s.out := rfl
@[simp] theorem onZones_cmd (f : ZoneQueue → ZoneQueue) : (s.onZones f).cmd = s.cmd := rfl
@[simp] theorem onZones_pending (f : ZoneQueue → ZoneQueue) : (s.onZones f).pending = s.pending := rfl

/-! ### the geometry unit -/

@[simp] theorem onGeo_timebase (f : Geometry → Geometry) : (s.onGeo f).timebase = s.timebase := rfl
@[simp] theorem onGeo_held (f : Geometry → Geometry) : (s.onGeo f).held = s.held := rfl
@[simp] theorem onGeo_roof (f : Geometry → Geometry) : (s.onGeo f).roof = s.roof := rfl
@[simp] theorem onGeo_motion (f : Geometry → Geometry) : (s.onGeo f).motion = s.motion := rfl
@[simp] theorem onGeo_odo (f : Geometry → Geometry) : (s.onGeo f).odo = s.odo := rfl
@[simp] theorem onGeo_seq (f : Geometry → Geometry) : (s.onGeo f).seq = s.seq := rfl
@[simp] theorem onGeo_asm (f : Geometry → Geometry) : (s.onGeo f).asm = s.asm := rfl
@[simp] theorem onGeo_paths (f : Geometry → Geometry) : (s.onGeo f).paths = s.paths := rfl
@[simp] theorem onGeo_zones (f : Geometry → Geometry) : (s.onGeo f).zones = s.zones := rfl
@[simp] theorem onGeo_geo (f : Geometry → Geometry) : (s.onGeo f).geo = f s.geo := rfl
@[simp] theorem onGeo_merge (f : Geometry → Geometry) : (s.onGeo f).merge = s.merge := rfl
@[simp] theorem onGeo_tracks (f : Geometry → Geometry) : (s.onGeo f).tracks = s.tracks := rfl
@[simp] theorem onGeo_span (f : Geometry → Geometry) : (s.onGeo f).span = s.span := rfl
@[simp] theorem onGeo_out (f : Geometry → Geometry) : (s.onGeo f).out = s.out := rfl
@[simp] theorem onGeo_cmd (f : Geometry → Geometry) : (s.onGeo f).cmd = s.cmd := rfl
@[simp] theorem onGeo_pending (f : Geometry → Geometry) : (s.onGeo f).pending = s.pending := rfl

/-! ### the merge and wear unit -/

@[simp] theorem onMerge_timebase (f : MergeWear → MergeWear) : (s.onMerge f).timebase = s.timebase := rfl
@[simp] theorem onMerge_held (f : MergeWear → MergeWear) : (s.onMerge f).held = s.held := rfl
@[simp] theorem onMerge_roof (f : MergeWear → MergeWear) : (s.onMerge f).roof = s.roof := rfl
@[simp] theorem onMerge_motion (f : MergeWear → MergeWear) : (s.onMerge f).motion = s.motion := rfl
@[simp] theorem onMerge_odo (f : MergeWear → MergeWear) : (s.onMerge f).odo = s.odo := rfl
@[simp] theorem onMerge_seq (f : MergeWear → MergeWear) : (s.onMerge f).seq = s.seq := rfl
@[simp] theorem onMerge_asm (f : MergeWear → MergeWear) : (s.onMerge f).asm = s.asm := rfl
@[simp] theorem onMerge_paths (f : MergeWear → MergeWear) : (s.onMerge f).paths = s.paths := rfl
@[simp] theorem onMerge_zones (f : MergeWear → MergeWear) : (s.onMerge f).zones = s.zones := rfl
@[simp] theorem onMerge_geo (f : MergeWear → MergeWear) : (s.onMerge f).geo = s.geo := rfl
@[simp] theorem onMerge_merge (f : MergeWear → MergeWear) : (s.onMerge f).merge = f s.merge := rfl
@[simp] theorem onMerge_tracks (f : MergeWear → MergeWear) : (s.onMerge f).tracks = s.tracks := rfl
@[simp] theorem onMerge_span (f : MergeWear → MergeWear) : (s.onMerge f).span = s.span := rfl
@[simp] theorem onMerge_out (f : MergeWear → MergeWear) : (s.onMerge f).out = s.out := rfl
@[simp] theorem onMerge_cmd (f : MergeWear → MergeWear) : (s.onMerge f).cmd = s.cmd := rfl
@[simp] theorem onMerge_pending (f : MergeWear → MergeWear) : (s.onMerge f).pending = s.pending := rfl

/-! ### the track table unit -/

@[simp] theorem onTracks_timebase (f : TrackTable → TrackTable) : (s.onTracks f).timebase = s.timebase := rfl
@[simp] theorem onTracks_held (f : TrackTable → TrackTable) : (s.onTracks f).held = s.held := rfl
@[simp] theorem onTracks_roof (f : TrackTable → TrackTable) : (s.onTracks f).roof = s.roof := rfl
@[simp] theorem onTracks_motion (f : TrackTable → TrackTable) : (s.onTracks f).motion = s.motion := rfl
@[simp] theorem onTracks_odo (f : TrackTable → TrackTable) : (s.onTracks f).odo = s.odo := rfl
@[simp] theorem onTracks_seq (f : TrackTable → TrackTable) : (s.onTracks f).seq = s.seq := rfl
@[simp] theorem onTracks_asm (f : TrackTable → TrackTable) : (s.onTracks f).asm = s.asm := rfl
@[simp] theorem onTracks_paths (f : TrackTable → TrackTable) : (s.onTracks f).paths = s.paths := rfl
@[simp] theorem onTracks_zones (f : TrackTable → TrackTable) : (s.onTracks f).zones = s.zones := rfl
@[simp] theorem onTracks_geo (f : TrackTable → TrackTable) : (s.onTracks f).geo = s.geo := rfl
@[simp] theorem onTracks_merge (f : TrackTable → TrackTable) : (s.onTracks f).merge = s.merge := rfl
@[simp] theorem onTracks_tracks (f : TrackTable → TrackTable) : (s.onTracks f).tracks = f s.tracks := rfl
@[simp] theorem onTracks_span (f : TrackTable → TrackTable) : (s.onTracks f).span = s.span := rfl
@[simp] theorem onTracks_out (f : TrackTable → TrackTable) : (s.onTracks f).out = s.out := rfl
@[simp] theorem onTracks_cmd (f : TrackTable → TrackTable) : (s.onTracks f).cmd = s.cmd := rfl
@[simp] theorem onTracks_pending (f : TrackTable → TrackTable) : (s.onTracks f).pending = s.pending := rfl

/-! ### the span unit -/

@[simp] theorem onSpan_timebase (f : SpanUnit → SpanUnit) : (s.onSpan f).timebase = s.timebase := rfl
@[simp] theorem onSpan_held (f : SpanUnit → SpanUnit) : (s.onSpan f).held = s.held := rfl
@[simp] theorem onSpan_roof (f : SpanUnit → SpanUnit) : (s.onSpan f).roof = s.roof := rfl
@[simp] theorem onSpan_motion (f : SpanUnit → SpanUnit) : (s.onSpan f).motion = s.motion := rfl
@[simp] theorem onSpan_odo (f : SpanUnit → SpanUnit) : (s.onSpan f).odo = s.odo := rfl
@[simp] theorem onSpan_seq (f : SpanUnit → SpanUnit) : (s.onSpan f).seq = s.seq := rfl
@[simp] theorem onSpan_asm (f : SpanUnit → SpanUnit) : (s.onSpan f).asm = s.asm := rfl
@[simp] theorem onSpan_paths (f : SpanUnit → SpanUnit) : (s.onSpan f).paths = s.paths := rfl
@[simp] theorem onSpan_zones (f : SpanUnit → SpanUnit) : (s.onSpan f).zones = s.zones := rfl
@[simp] theorem onSpan_geo (f : SpanUnit → SpanUnit) : (s.onSpan f).geo = s.geo := rfl
@[simp] theorem onSpan_merge (f : SpanUnit → SpanUnit) : (s.onSpan f).merge = s.merge := rfl
@[simp] theorem onSpan_tracks (f : SpanUnit → SpanUnit) : (s.onSpan f).tracks = s.tracks := rfl
@[simp] theorem onSpan_span (f : SpanUnit → SpanUnit) : (s.onSpan f).span = f s.span := rfl
@[simp] theorem onSpan_out (f : SpanUnit → SpanUnit) : (s.onSpan f).out = s.out := rfl
@[simp] theorem onSpan_cmd (f : SpanUnit → SpanUnit) : (s.onSpan f).cmd = s.cmd := rfl
@[simp] theorem onSpan_pending (f : SpanUnit → SpanUnit) : (s.onSpan f).pending = s.pending := rfl

/-! ### the output unit -/

@[simp] theorem onOut_timebase (f : Output → Output) : (s.onOut f).timebase = s.timebase := rfl
@[simp] theorem onOut_held (f : Output → Output) : (s.onOut f).held = s.held := rfl
@[simp] theorem onOut_roof (f : Output → Output) : (s.onOut f).roof = s.roof := rfl
@[simp] theorem onOut_motion (f : Output → Output) : (s.onOut f).motion = s.motion := rfl
@[simp] theorem onOut_odo (f : Output → Output) : (s.onOut f).odo = s.odo := rfl
@[simp] theorem onOut_seq (f : Output → Output) : (s.onOut f).seq = s.seq := rfl
@[simp] theorem onOut_asm (f : Output → Output) : (s.onOut f).asm = s.asm := rfl
@[simp] theorem onOut_paths (f : Output → Output) : (s.onOut f).paths = s.paths := rfl
@[simp] theorem onOut_zones (f : Output → Output) : (s.onOut f).zones = s.zones := rfl
@[simp] theorem onOut_geo (f : Output → Output) : (s.onOut f).geo = s.geo := rfl
@[simp] theorem onOut_merge (f : Output → Output) : (s.onOut f).merge = s.merge := rfl
@[simp] theorem onOut_tracks (f : Output → Output) : (s.onOut f).tracks = s.tracks := rfl
@[simp] theorem onOut_span (f : Output → Output) : (s.onOut f).span = s.span := rfl
@[simp] theorem onOut_out (f : Output → Output) : (s.onOut f).out = f s.out := rfl
@[simp] theorem onOut_cmd (f : Output → Output) : (s.onOut f).cmd = s.cmd := rfl
@[simp] theorem onOut_pending (f : Output → Output) : (s.onOut f).pending = s.pending := rfl

/-! ### the command unit -/

@[simp] theorem onCmd_timebase (f : CommandUnit → CommandUnit) : (s.onCmd f).timebase = s.timebase := rfl
@[simp] theorem onCmd_held (f : CommandUnit → CommandUnit) : (s.onCmd f).held = s.held := rfl
@[simp] theorem onCmd_roof (f : CommandUnit → CommandUnit) : (s.onCmd f).roof = s.roof := rfl
@[simp] theorem onCmd_motion (f : CommandUnit → CommandUnit) : (s.onCmd f).motion = s.motion := rfl
@[simp] theorem onCmd_odo (f : CommandUnit → CommandUnit) : (s.onCmd f).odo = s.odo := rfl
@[simp] theorem onCmd_seq (f : CommandUnit → CommandUnit) : (s.onCmd f).seq = s.seq := rfl
@[simp] theorem onCmd_asm (f : CommandUnit → CommandUnit) : (s.onCmd f).asm = s.asm := rfl
@[simp] theorem onCmd_paths (f : CommandUnit → CommandUnit) : (s.onCmd f).paths = s.paths := rfl
@[simp] theorem onCmd_zones (f : CommandUnit → CommandUnit) : (s.onCmd f).zones = s.zones := rfl
@[simp] theorem onCmd_geo (f : CommandUnit → CommandUnit) : (s.onCmd f).geo = s.geo := rfl
@[simp] theorem onCmd_merge (f : CommandUnit → CommandUnit) : (s.onCmd f).merge = s.merge := rfl
@[simp] theorem onCmd_tracks (f : CommandUnit → CommandUnit) : (s.onCmd f).tracks = s.tracks := rfl
@[simp] theorem onCmd_span (f : CommandUnit → CommandUnit) : (s.onCmd f).span = s.span := rfl
@[simp] theorem onCmd_out (f : CommandUnit → CommandUnit) : (s.onCmd f).out = s.out := rfl
@[simp] theorem onCmd_cmd (f : CommandUnit → CommandUnit) : (s.onCmd f).cmd = f s.cmd := rfl
@[simp] theorem onCmd_pending (f : CommandUnit → CommandUnit) : (s.onCmd f).pending = s.pending := rfl

/-! ### the queue of waiting commands -/

@[simp] theorem onPending_timebase (f : List Instr → List Instr) : (s.onPending f).timebase = s.timebase := rfl
@[simp] theorem onPending_held (f : List Instr → List Instr) : (s.onPending f).held = s.held := rfl
@[simp] theorem onPending_roof (f : List Instr → List Instr) : (s.onPending f).roof = s.roof := rfl
@[simp] theorem onPending_motion (f : List Instr → List Instr) : (s.onPending f).motion = s.motion := rfl
@[simp] theorem onPending_odo (f : List Instr → List Instr) : (s.onPending f).odo = s.odo := rfl
@[simp] theorem onPending_seq (f : List Instr → List Instr) : (s.onPending f).seq = s.seq := rfl
@[simp] theorem onPending_asm (f : List Instr → List Instr) : (s.onPending f).asm = s.asm := rfl
@[simp] theorem onPending_paths (f : List Instr → List Instr) : (s.onPending f).paths = s.paths := rfl
@[simp] theorem onPending_zones (f : List Instr → List Instr) : (s.onPending f).zones = s.zones := rfl
@[simp] theorem onPending_geo (f : List Instr → List Instr) : (s.onPending f).geo = s.geo := rfl
@[simp] theorem onPending_merge (f : List Instr → List Instr) : (s.onPending f).merge = s.merge := rfl
@[simp] theorem onPending_tracks (f : List Instr → List Instr) : (s.onPending f).tracks = s.tracks := rfl
@[simp] theorem onPending_span (f : List Instr → List Instr) : (s.onPending f).span = s.span := rfl
@[simp] theorem onPending_out (f : List Instr → List Instr) : (s.onPending f).out = s.out := rfl
@[simp] theorem onPending_cmd (f : List Instr → List Instr) : (s.onPending f).cmd = s.cmd := rfl
@[simp] theorem onPending_pending (f : List Instr → List Instr) : (s.onPending f).pending = f s.pending := rfl

end Sys2Proof.Machine.State
end

