-- ==== Sys2Proof/Laws/Ops.lean ====
section
/-! SUPPORT. What the shared operations can do: one lemma for each operation and each part of the state that it leaves
alone, and the laws of quads, of the record queue and of admission. -/

namespace Sys2Proof

namespace Quad

variable {α : Type}

@[simp] theorem get_set_self (q : Quad α) (p : Port) (x : α) : (q.set p x).get p = x := by cases p <;> rfl

theorem get_set_ne (q : Quad α) {p r : Port} (x : α) (h : r ≠ p) : (q.set p x).get r = q.get r := by
  cases p <;> cases r <;> first | rfl | exact absurd rfl h

theorem get_set (q : Quad α) (p r : Port) (x : α) : (q.set p x).get r = if r = p then x else q.get r := by
  split
  · next h => rw [h, get_set_self]
  · next h => exact get_set_ne q x h

theorem get_modify (q : Quad α) (p r : Port) (f : α → α) :
    (q.modify p f).get r = if r = p then f (q.get p) else q.get r := get_set q p r _

@[simp] theorem get_replicate (x : α) (p : Port) : (replicate x).get p = x := by cases p <;> rfl

@[simp] theorem get_ofFn (f : Port → α) (p : Port) : (ofFn f).get p = f p := by cases p <;> rfl

theorem ext_get {q r : Quad α} (h : ∀ p, q.get p = r.get p) : q = r := by
  cases q; cases r
  have h0 := h .h0; have h1 := h .h1; have h2 := h .h2; have h3 := h .h3
  simp only [get] at h0 h1 h2 h3
  subst h0 h1 h2 h3; rfl

theorem isEmpty_iff (q : PortSet) : q.isEmpty = true ↔ ∀ p, q.get p = false := by
  constructor
  · intro h p; revert h; cases p <;> simp [isEmpty, get] <;> tauto
  · intro h; simp [isEmpty]; exact ⟨⟨⟨h .h0, h .h1⟩, h .h2⟩, h .h3⟩

theorem subset_iff (a b : PortSet) : a.subset b = true ↔ ∀ p, a.get p = true → b.get p = true := by
  constructor
  · intro h p hp
    revert h hp; cases p <;> simp [subset, get] <;> intros <;> simp_all
  · intro h
    have h0 := h .h0; have h1 := h .h1; have h2 := h .h2; have h3 := h .h3
    simp only [get] at h0 h1 h2 h3
    simp only [subset, Bool.and_eq_true, Bool.or_eq_true, Bool.not_eq_true']
    refine ⟨⟨⟨?_, ?_⟩, ?_⟩, ?_⟩
    · exact (Bool.eq_false_or_eq_true a.h0).symm.imp_right h0
    · exact (Bool.eq_false_or_eq_true a.h1).symm.imp_right h1
    · exact (Bool.eq_false_or_eq_true a.h2).symm.imp_right h2
    · exact (Bool.eq_false_or_eq_true a.h3).symm.imp_right h3

theorem mem_members (q : PortSet) (p : Port) : p ∈ q.members ↔ q.get p = true := by
  cases p <;> simp [members, Port.all]

end Quad

namespace Machine

/-! ### Ports -/

@[simp] theorem State.onPort_port (s : State) (p q : Port) (f : RoofPort → RoofPort) :
    (s.onPort p f).port q = if q = p then f (s.port p) else s.port q := Quad.get_modify _ p q f

@[simp] theorem State.onPort_enabled (s : State) (p : Port) (f : RoofPort → RoofPort) :
    (s.onPort p f).roof.enabled = s.roof.enabled := rfl

@[simp] theorem State.onPort_timebase (s : State) (p : Port) (f : RoofPort → RoofPort) : (s.onPort p f).timebase = s.timebase := rfl

@[simp] theorem State.onPort_held (s : State) (p : Port) (f : RoofPort → RoofPort) : (s.onPort p f).held = s.held := rfl

@[simp] theorem State.onPort_motion (s : State) (p : Port) (f : RoofPort → RoofPort) : (s.onPort p f).motion = s.motion := rfl

@[simp] theorem State.onPort_odo (s : State) (p : Port) (f : RoofPort → RoofPort) : (s.onPort p f).odo = s.odo := rfl

@[simp] theorem State.onPort_seq (s : State) (p : Port) (f : RoofPort → RoofPort) : (s.onPort p f).seq = s.seq := rfl

@[simp] theorem State.onPort_asm (s : State) (p : Port) (f : RoofPort → RoofPort) : (s.onPort p f).asm = s.asm := rfl

@[simp] theorem State.onPort_paths (s : State) (p : Port) (f : RoofPort → RoofPort) : (s.onPort p f).paths = s.paths := rfl

@[simp] theorem State.onPort_zones (s : State) (p : Port) (f : RoofPort → RoofPort) : (s.onPort p f).zones = s.zones := rfl

@[simp] theorem State.onPort_geo (s : State) (p : Port) (f : RoofPort → RoofPort) : (s.onPort p f).geo = s.geo := rfl

@[simp] theorem State.onPort_merge (s : State) (p : Port) (f : RoofPort → RoofPort) : (s.onPort p f).merge = s.merge := rfl

@[simp] theorem State.onPort_tracks (s : State) (p : Port) (f : RoofPort → RoofPort) : (s.onPort p f).tracks = s.tracks := rfl

@[simp] theorem State.onPort_span (s : State) (p : Port) (f : RoofPort → RoofPort) : (s.onPort p f).span = s.span := rfl

@[simp] theorem State.onPort_out (s : State) (p : Port) (f : RoofPort → RoofPort) : (s.onPort p f).out = s.out := rfl

@[simp] theorem State.onPort_cmd (s : State) (p : Port) (f : RoofPort → RoofPort) : (s.onPort p f).cmd = s.cmd := rfl

@[simp] theorem State.onPort_pending (s : State) (p : Port) (f : RoofPort → RoofPort) : (s.onPort p f).pending = s.pending := rfl

@[simp] theorem State.countPort_timebase (s : State) (p : Port) (f : PortCounters → PortCounters) : (s.countPort p f).timebase = s.timebase := rfl

@[simp] theorem State.countPort_held (s : State) (p : Port) (f : PortCounters → PortCounters) : (s.countPort p f).held = s.held := rfl

@[simp] theorem State.countPort_motion (s : State) (p : Port) (f : PortCounters → PortCounters) : (s.countPort p f).motion = s.motion := rfl

@[simp] theorem State.countPort_odo (s : State) (p : Port) (f : PortCounters → PortCounters) : (s.countPort p f).odo = s.odo := rfl

@[simp] theorem State.countPort_seq (s : State) (p : Port) (f : PortCounters → PortCounters) : (s.countPort p f).seq = s.seq := rfl

@[simp] theorem State.countPort_asm (s : State) (p : Port) (f : PortCounters → PortCounters) : (s.countPort p f).asm = s.asm := rfl

@[simp] theorem State.countPort_paths (s : State) (p : Port) (f : PortCounters → PortCounters) : (s.countPort p f).paths = s.paths := rfl

@[simp] theorem State.countPort_zones (s : State) (p : Port) (f : PortCounters → PortCounters) : (s.countPort p f).zones = s.zones := rfl

@[simp] theorem State.countPort_geo (s : State) (p : Port) (f : PortCounters → PortCounters) : (s.countPort p f).geo = s.geo := rfl

@[simp] theorem State.countPort_merge (s : State) (p : Port) (f : PortCounters → PortCounters) : (s.countPort p f).merge = s.merge := rfl

@[simp] theorem State.countPort_tracks (s : State) (p : Port) (f : PortCounters → PortCounters) : (s.countPort p f).tracks = s.tracks := rfl

@[simp] theorem State.countPort_span (s : State) (p : Port) (f : PortCounters → PortCounters) : (s.countPort p f).span = s.span := rfl

@[simp] theorem State.countPort_out (s : State) (p : Port) (f : PortCounters → PortCounters) : (s.countPort p f).out = s.out := rfl

@[simp] theorem State.countPort_cmd (s : State) (p : Port) (f : PortCounters → PortCounters) : (s.countPort p f).cmd = s.cmd := rfl

@[simp] theorem State.countPort_pending (s : State) (p : Port) (f : PortCounters → PortCounters) : (s.countPort p f).pending = s.pending := rfl

@[simp] theorem State.countPort_port (s : State) (p q : Port) (f : PortCounters → PortCounters) :
    (s.countPort p f).port q =
      if q = p then { s.port p with counters := f (s.port p).counters } else s.port q := Quad.get_modify _ p q _

@[simp] theorem State.countPort_enabled (s : State) (p : Port) (f : PortCounters → PortCounters) :
    (s.countPort p f).roof.enabled = s.roof.enabled := rfl

@[simp] theorem State.countRx_timebase (s : State) (r : Receiver) (x : RxResult) : (s.countRx r x).timebase = s.timebase := by cases r <;> rfl

@[simp] theorem State.countRx_held (s : State) (r : Receiver) (x : RxResult) : (s.countRx r x).held = s.held := by cases r <;> rfl

@[simp] theorem State.countRx_odo (s : State) (r : Receiver) (x : RxResult) : (s.countRx r x).odo = s.odo := by cases r <;> rfl

@[simp] theorem State.countRx_seq (s : State) (r : Receiver) (x : RxResult) : (s.countRx r x).seq = s.seq := by cases r <;> rfl

@[simp] theorem State.countRx_asm (s : State) (r : Receiver) (x : RxResult) : (s.countRx r x).asm = s.asm := by cases r <;> rfl

@[simp] theorem State.countRx_paths (s : State) (r : Receiver) (x : RxResult) : (s.countRx r x).paths = s.paths := by cases r <;> rfl

@[simp] theorem State.countRx_zones (s : State) (r : Receiver) (x : RxResult) : (s.countRx r x).zones = s.zones := by cases r <;> rfl

@[simp] theorem State.countRx_geo (s : State) (r : Receiver) (x : RxResult) : (s.countRx r x).geo = s.geo := by cases r <;> rfl

@[simp] theorem State.countRx_merge (s : State) (r : Receiver) (x : RxResult) : (s.countRx r x).merge = s.merge := by cases r <;> rfl

@[simp] theorem State.countRx_tracks (s : State) (r : Receiver) (x : RxResult) : (s.countRx r x).tracks = s.tracks := by cases r <;> rfl

@[simp] theorem State.countRx_span (s : State) (r : Receiver) (x : RxResult) : (s.countRx r x).span = s.span := by cases r <;> rfl

@[simp] theorem State.countRx_out (s : State) (r : Receiver) (x : RxResult) : (s.countRx r x).out = s.out := by cases r <;> rfl

@[simp] theorem State.countRx_pending (s : State) (r : Receiver) (x : RxResult) : (s.countRx r x).pending = s.pending := by cases r <;> rfl

/-! ### Open frames (R2) -/

/-- With no frame open, a good frame closes at once. -/
theorem settle_none {s : State} {r : Receiver} {f : Frame} (h : s.openFrame r = none) : settle s r f = s := by
  simp [settle, h]

/-- With a frame open, a good frame is that frame, or it closes that frame as a framing failure first (log entry 5). -/
theorem settle_some {s : State} {r : Receiver} {f : Frame} {w : OpenFrame} (h : s.openFrame r = some w) :
    settle s r f =
      if w.begins f = true then s.withOpenFrame r none else (s.withOpenFrame r none).countRx r (.failed .framing) := by
  simp [settle, h]

@[simp] theorem State.withOpenFrame_openFrame (s : State) (r q : Receiver) (w : Option OpenFrame) :
    (s.withOpenFrame r w).openFrame q = if q = r then w else s.openFrame q := by
  cases r <;> cases q <;> first | rfl | (simp [State.withOpenFrame, State.openFrame]; try split <;> rfl)

@[simp] theorem State.countRx_openFrame (s : State) (r q : Receiver) (x : RxResult) :
    (s.countRx r x).openFrame q = s.openFrame q := by
  cases r <;> cases q <;> first | rfl | (simp [State.countRx, State.openFrame]; try split <;> simp_all)

@[simp] theorem State.withOpenFrame_timebase (s : State) (r : Receiver) (w : Option OpenFrame) : (s.withOpenFrame r w).timebase = s.timebase := by cases r <;> rfl

@[simp] theorem State.withOpenFrame_held (s : State) (r : Receiver) (w : Option OpenFrame) : (s.withOpenFrame r w).held = s.held := by cases r <;> rfl

@[simp] theorem State.withOpenFrame_odo (s : State) (r : Receiver) (w : Option OpenFrame) : (s.withOpenFrame r w).odo = s.odo := by cases r <;> rfl

@[simp] theorem State.withOpenFrame_seq (s : State) (r : Receiver) (w : Option OpenFrame) : (s.withOpenFrame r w).seq = s.seq := by cases r <;> rfl

@[simp] theorem State.withOpenFrame_asm (s : State) (r : Receiver) (w : Option OpenFrame) : (s.withOpenFrame r w).asm = s.asm := by cases r <;> rfl

@[simp] theorem State.withOpenFrame_paths (s : State) (r : Receiver) (w : Option OpenFrame) : (s.withOpenFrame r w).paths = s.paths := by cases r <;> rfl

@[simp] theorem State.withOpenFrame_zones (s : State) (r : Receiver) (w : Option OpenFrame) : (s.withOpenFrame r w).zones = s.zones := by cases r <;> rfl

@[simp] theorem State.withOpenFrame_geo (s : State) (r : Receiver) (w : Option OpenFrame) : (s.withOpenFrame r w).geo = s.geo := by cases r <;> rfl

@[simp] theorem State.withOpenFrame_merge (s : State) (r : Receiver) (w : Option OpenFrame) : (s.withOpenFrame r w).merge = s.merge := by cases r <;> rfl

@[simp] theorem State.withOpenFrame_tracks (s : State) (r : Receiver) (w : Option OpenFrame) : (s.withOpenFrame r w).tracks = s.tracks := by cases r <;> rfl

@[simp] theorem State.withOpenFrame_span (s : State) (r : Receiver) (w : Option OpenFrame) : (s.withOpenFrame r w).span = s.span := by cases r <;> rfl

@[simp] theorem State.withOpenFrame_out (s : State) (r : Receiver) (w : Option OpenFrame) : (s.withOpenFrame r w).out = s.out := by cases r <;> rfl

@[simp] theorem State.withOpenFrame_pending (s : State) (r : Receiver) (w : Option OpenFrame) : (s.withOpenFrame r w).pending = s.pending := by cases r <;> rfl

@[simp] theorem settle_timebase (s : State) (r : Receiver) (f : Frame) : (settle s r f).timebase = s.timebase := by
  unfold settle; split <;> (try split) <;> simp

@[simp] theorem settle_held (s : State) (r : Receiver) (f : Frame) : (settle s r f).held = s.held := by
  unfold settle; split <;> (try split) <;> simp

@[simp] theorem settle_odo (s : State) (r : Receiver) (f : Frame) : (settle s r f).odo = s.odo := by
  unfold settle; split <;> (try split) <;> simp

@[simp] theorem settle_seq (s : State) (r : Receiver) (f : Frame) : (settle s r f).seq = s.seq := by
  unfold settle; split <;> (try split) <;> simp

@[simp] theorem settle_asm (s : State) (r : Receiver) (f : Frame) : (settle s r f).asm = s.asm := by
  unfold settle; split <;> (try split) <;> simp

@[simp] theorem settle_paths (s : State) (r : Receiver) (f : Frame) : (settle s r f).paths = s.paths := by
  unfold settle; split <;> (try split) <;> simp

@[simp] theorem settle_zones (s : State) (r : Receiver) (f : Frame) : (settle s r f).zones = s.zones := by
  unfold settle; split <;> (try split) <;> simp

@[simp] theorem settle_geo (s : State) (r : Receiver) (f : Frame) : (settle s r f).geo = s.geo := by
  unfold settle; split <;> (try split) <;> simp

@[simp] theorem settle_merge (s : State) (r : Receiver) (f : Frame) : (settle s r f).merge = s.merge := by
  unfold settle; split <;> (try split) <;> simp

@[simp] theorem settle_tracks (s : State) (r : Receiver) (f : Frame) : (settle s r f).tracks = s.tracks := by
  unfold settle; split <;> (try split) <;> simp

@[simp] theorem settle_span (s : State) (r : Receiver) (f : Frame) : (settle s r f).span = s.span := by
  unfold settle; split <;> (try split) <;> simp

@[simp] theorem settle_out (s : State) (r : Receiver) (f : Frame) : (settle s r f).out = s.out := by
  unfold settle; split <;> (try split) <;> simp

@[simp] theorem settle_pending (s : State) (r : Receiver) (f : Frame) : (settle s r f).pending = s.pending := by
  unfold settle; split <;> (try split) <;> simp

/-! ### Offers change the output unit alone (R162, R164, R165) -/

theorem offerLossStatus_out (s : State) : offerLossStatus s = s.onOut fun _ => (offerLossStatus s).out := by
  unfold offerLossStatus; split <;> rfl

theorem lose_out (s : State) : lose s = s.onOut fun _ => (lose s).out := by
  simp only [lose]
  split
  · rw [offerLossStatus_out]; rfl
  · rfl

theorem offerA_out (s : State) (f : Frame) : offerA s f = s.onOut fun _ => (offerA s f).out := by
  unfold offerA
  split
  · rfl
  · rw [lose_out]; rfl

theorem offerB_out (s : State) (f : Frame) : offerB s f = s.onOut fun _ => (offerB s f).out := by
  unfold offerB
  split
  · rfl
  · rw [lose_out]; rfl

theorem offerStatus_out (s : State) (c : StatusCause) : offerStatus s c = s.onOut fun _ => (offerStatus s c).out := by
  unfold offerStatus
  split
  · rfl
  · rw [lose_out]; rfl

theorem offerRaw_out (s : State) (f : Frame) : offerRaw s f = s.onOut fun _ => (offerRaw s f).out := by
  unfold offerRaw; split <;> rfl

@[simp] theorem offerLossStatus_timebase (s : State) : (offerLossStatus s).timebase = s.timebase := by rw [offerLossStatus_out]; rfl

@[simp] theorem offerLossStatus_held (s : State) : (offerLossStatus s).held = s.held := by rw [offerLossStatus_out]; rfl

@[simp] theorem offerLossStatus_roof (s : State) : (offerLossStatus s).roof = s.roof := by rw [offerLossStatus_out]; rfl

@[simp] theorem offerLossStatus_motion (s : State) : (offerLossStatus s).motion = s.motion := by rw [offerLossStatus_out]; rfl

@[simp] theorem offerLossStatus_odo (s : State) : (offerLossStatus s).odo = s.odo := by rw [offerLossStatus_out]; rfl

@[simp] theorem offerLossStatus_seq (s : State) : (offerLossStatus s).seq = s.seq := by rw [offerLossStatus_out]; rfl

@[simp] theorem offerLossStatus_asm (s : State) : (offerLossStatus s).asm = s.asm := by rw [offerLossStatus_out]; rfl

@[simp] theorem offerLossStatus_paths (s : State) : (offerLossStatus s).paths = s.paths := by rw [offerLossStatus_out]; rfl

@[simp] theorem offerLossStatus_zones (s : State) : (offerLossStatus s).zones = s.zones := by rw [offerLossStatus_out]; rfl

@[simp] theorem offerLossStatus_geo (s : State) : (offerLossStatus s).geo = s.geo := by rw [offerLossStatus_out]; rfl

@[simp] theorem offerLossStatus_merge (s : State) : (offerLossStatus s).merge = s.merge := by rw [offerLossStatus_out]; rfl

@[simp] theorem offerLossStatus_tracks (s : State) : (offerLossStatus s).tracks = s.tracks := by rw [offerLossStatus_out]; rfl

@[simp] theorem offerLossStatus_span (s : State) : (offerLossStatus s).span = s.span := by rw [offerLossStatus_out]; rfl

@[simp] theorem offerLossStatus_cmd (s : State) : (offerLossStatus s).cmd = s.cmd := by rw [offerLossStatus_out]; rfl

@[simp] theorem offerLossStatus_pending (s : State) : (offerLossStatus s).pending = s.pending := by rw [offerLossStatus_out]; rfl

@[simp] theorem lose_timebase (s : State) : (lose s).timebase = s.timebase := by rw [lose_out]; rfl

@[simp] theorem lose_held (s : State) : (lose s).held = s.held := by rw [lose_out]; rfl

@[simp] theorem lose_roof (s : State) : (lose s).roof = s.roof := by rw [lose_out]; rfl

@[simp] theorem lose_motion (s : State) : (lose s).motion = s.motion := by rw [lose_out]; rfl

@[simp] theorem lose_odo (s : State) : (lose s).odo = s.odo := by rw [lose_out]; rfl

@[simp] theorem lose_seq (s : State) : (lose s).seq = s.seq := by rw [lose_out]; rfl

@[simp] theorem lose_asm (s : State) : (lose s).asm = s.asm := by rw [lose_out]; rfl

@[simp] theorem lose_paths (s : State) : (lose s).paths = s.paths := by rw [lose_out]; rfl

@[simp] theorem lose_zones (s : State) : (lose s).zones = s.zones := by rw [lose_out]; rfl

@[simp] theorem lose_geo (s : State) : (lose s).geo = s.geo := by rw [lose_out]; rfl

@[simp] theorem lose_merge (s : State) : (lose s).merge = s.merge := by rw [lose_out]; rfl

@[simp] theorem lose_tracks (s : State) : (lose s).tracks = s.tracks := by rw [lose_out]; rfl

@[simp] theorem lose_span (s : State) : (lose s).span = s.span := by rw [lose_out]; rfl

@[simp] theorem lose_cmd (s : State) : (lose s).cmd = s.cmd := by rw [lose_out]; rfl

@[simp] theorem lose_pending (s : State) : (lose s).pending = s.pending := by rw [lose_out]; rfl

@[simp] theorem offerA_timebase (s : State) (f : Frame) : (offerA s f).timebase = s.timebase := by rw [offerA_out]; rfl

@[simp] theorem offerA_held (s : State) (f : Frame) : (offerA s f).held = s.held := by rw [offerA_out]; rfl

@[simp] theorem offerA_roof (s : State) (f : Frame) : (offerA s f).roof = s.roof := by rw [offerA_out]; rfl

@[simp] theorem offerA_motion (s : State) (f : Frame) : (offerA s f).motion = s.motion := by rw [offerA_out]; rfl

@[simp] theorem offerA_odo (s : State) (f : Frame) : (offerA s f).odo = s.odo := by rw [offerA_out]; rfl

@[simp] theorem offerA_seq (s : State) (f : Frame) : (offerA s f).seq = s.seq := by rw [offerA_out]; rfl

@[simp] theorem offerA_asm (s : State) (f : Frame) : (offerA s f).asm = s.asm := by rw [offerA_out]; rfl

@[simp] theorem offerA_paths (s : State) (f : Frame) : (offerA s f).paths = s.paths := by rw [offerA_out]; rfl

@[simp] theorem offerA_zones (s : State) (f : Frame) : (offerA s f).zones = s.zones := by rw [offerA_out]; rfl

@[simp] theorem offerA_geo (s : State) (f : Frame) : (offerA s f).geo = s.geo := by rw [offerA_out]; rfl

@[simp] theorem offerA_merge (s : State) (f : Frame) : (offerA s f).merge = s.merge := by rw [offerA_out]; rfl

@[simp] theorem offerA_tracks (s : State) (f : Frame) : (offerA s f).tracks = s.tracks := by rw [offerA_out]; rfl

@[simp] theorem offerA_span (s : State) (f : Frame) : (offerA s f).span = s.span := by rw [offerA_out]; rfl

@[simp] theorem offerA_cmd (s : State) (f : Frame) : (offerA s f).cmd = s.cmd := by rw [offerA_out]; rfl

@[simp] theorem offerA_pending (s : State) (f : Frame) : (offerA s f).pending = s.pending := by rw [offerA_out]; rfl

@[simp] theorem offerB_timebase (s : State) (f : Frame) : (offerB s f).timebase = s.timebase := by rw [offerB_out]; rfl

@[simp] theorem offerB_held (s : State) (f : Frame) : (offerB s f).held = s.held := by rw [offerB_out]; rfl

@[simp] theorem offerB_roof (s : State) (f : Frame) : (offerB s f).roof = s.roof := by rw [offerB_out]; rfl

@[simp] theorem offerB_motion (s : State) (f : Frame) : (offerB s f).motion = s.motion := by rw [offerB_out]; rfl

@[simp] theorem offerB_odo (s : State) (f : Frame) : (offerB s f).odo = s.odo := by rw [offerB_out]; rfl

@[simp] theorem offerB_seq (s : State) (f : Frame) : (offerB s f).seq = s.seq := by rw [offerB_out]; rfl

@[simp] theorem offerB_asm (s : State) (f : Frame) : (offerB s f).asm = s.asm := by rw [offerB_out]; rfl

@[simp] theorem offerB_paths (s : State) (f : Frame) : (offerB s f).paths = s.paths := by rw [offerB_out]; rfl

@[simp] theorem offerB_zones (s : State) (f : Frame) : (offerB s f).zones = s.zones := by rw [offerB_out]; rfl

@[simp] theorem offerB_geo (s : State) (f : Frame) : (offerB s f).geo = s.geo := by rw [offerB_out]; rfl

@[simp] theorem offerB_merge (s : State) (f : Frame) : (offerB s f).merge = s.merge := by rw [offerB_out]; rfl

@[simp] theorem offerB_tracks (s : State) (f : Frame) : (offerB s f).tracks = s.tracks := by rw [offerB_out]; rfl

@[simp] theorem offerB_span (s : State) (f : Frame) : (offerB s f).span = s.span := by rw [offerB_out]; rfl

@[simp] theorem offerB_cmd (s : State) (f : Frame) : (offerB s f).cmd = s.cmd := by rw [offerB_out]; rfl

@[simp] theorem offerB_pending (s : State) (f : Frame) : (offerB s f).pending = s.pending := by rw [offerB_out]; rfl

@[simp] theorem offerStatus_timebase (s : State) (c : StatusCause) : (offerStatus s c).timebase = s.timebase := by rw [offerStatus_out]; rfl

@[simp] theorem offerStatus_held (s : State) (c : StatusCause) : (offerStatus s c).held = s.held := by rw [offerStatus_out]; rfl

@[simp] theorem offerStatus_roof (s : State) (c : StatusCause) : (offerStatus s c).roof = s.roof := by rw [offerStatus_out]; rfl

@[simp] theorem offerStatus_motion (s : State) (c : StatusCause) : (offerStatus s c).motion = s.motion := by rw [offerStatus_out]; rfl

@[simp] theorem offerStatus_odo (s : State) (c : StatusCause) : (offerStatus s c).odo = s.odo := by rw [offerStatus_out]; rfl

@[simp] theorem offerStatus_seq (s : State) (c : StatusCause) : (offerStatus s c).seq = s.seq := by rw [offerStatus_out]; rfl

@[simp] theorem offerStatus_asm (s : State) (c : StatusCause) : (offerStatus s c).asm = s.asm := by rw [offerStatus_out]; rfl

@[simp] theorem offerStatus_paths (s : State) (c : StatusCause) : (offerStatus s c).paths = s.paths := by rw [offerStatus_out]; rfl

@[simp] theorem offerStatus_zones (s : State) (c : StatusCause) : (offerStatus s c).zones = s.zones := by rw [offerStatus_out]; rfl

@[simp] theorem offerStatus_geo (s : State) (c : StatusCause) : (offerStatus s c).geo = s.geo := by rw [offerStatus_out]; rfl

@[simp] theorem offerStatus_merge (s : State) (c : StatusCause) : (offerStatus s c).merge = s.merge := by rw [offerStatus_out]; rfl

@[simp] theorem offerStatus_tracks (s : State) (c : StatusCause) : (offerStatus s c).tracks = s.tracks := by rw [offerStatus_out]; rfl

@[simp] theorem offerStatus_span (s : State) (c : StatusCause) : (offerStatus s c).span = s.span := by rw [offerStatus_out]; rfl

@[simp] theorem offerStatus_cmd (s : State) (c : StatusCause) : (offerStatus s c).cmd = s.cmd := by rw [offerStatus_out]; rfl

@[simp] theorem offerStatus_pending (s : State) (c : StatusCause) : (offerStatus s c).pending = s.pending := by rw [offerStatus_out]; rfl

@[simp] theorem offerRaw_timebase (s : State) (f : Frame) : (offerRaw s f).timebase = s.timebase := by rw [offerRaw_out]; rfl

@[simp] theorem offerRaw_held (s : State) (f : Frame) : (offerRaw s f).held = s.held := by rw [offerRaw_out]; rfl

@[simp] theorem offerRaw_roof (s : State) (f : Frame) : (offerRaw s f).roof = s.roof := by rw [offerRaw_out]; rfl

@[simp] theorem offerRaw_motion (s : State) (f : Frame) : (offerRaw s f).motion = s.motion := by rw [offerRaw_out]; rfl

@[simp] theorem offerRaw_odo (s : State) (f : Frame) : (offerRaw s f).odo = s.odo := by rw [offerRaw_out]; rfl

@[simp] theorem offerRaw_seq (s : State) (f : Frame) : (offerRaw s f).seq = s.seq := by rw [offerRaw_out]; rfl

@[simp] theorem offerRaw_asm (s : State) (f : Frame) : (offerRaw s f).asm = s.asm := by rw [offerRaw_out]; rfl

@[simp] theorem offerRaw_paths (s : State) (f : Frame) : (offerRaw s f).paths = s.paths := by rw [offerRaw_out]; rfl

@[simp] theorem offerRaw_zones (s : State) (f : Frame) : (offerRaw s f).zones = s.zones := by rw [offerRaw_out]; rfl

@[simp] theorem offerRaw_geo (s : State) (f : Frame) : (offerRaw s f).geo = s.geo := by rw [offerRaw_out]; rfl

@[simp] theorem offerRaw_merge (s : State) (f : Frame) : (offerRaw s f).merge = s.merge := by rw [offerRaw_out]; rfl

@[simp] theorem offerRaw_tracks (s : State) (f : Frame) : (offerRaw s f).tracks = s.tracks := by rw [offerRaw_out]; rfl

@[simp] theorem offerRaw_span (s : State) (f : Frame) : (offerRaw s f).span = s.span := by rw [offerRaw_out]; rfl

@[simp] theorem offerRaw_cmd (s : State) (f : Frame) : (offerRaw s f).cmd = s.cmd := by rw [offerRaw_out]; rfl

@[simp] theorem offerRaw_pending (s : State) (f : Frame) : (offerRaw s f).pending = s.pending := by rw [offerRaw_out]; rfl

@[simp] theorem queueReply_timebase (s : State) (code tag : Byte) (r : Reply) : (queueReply s code tag r).timebase = s.timebase := rfl

@[simp] theorem queueReply_held (s : State) (code tag : Byte) (r : Reply) : (queueReply s code tag r).held = s.held := rfl

@[simp] theorem queueReply_roof (s : State) (code tag : Byte) (r : Reply) : (queueReply s code tag r).roof = s.roof := rfl

@[simp] theorem queueReply_motion (s : State) (code tag : Byte) (r : Reply) : (queueReply s code tag r).motion = s.motion := rfl

@[simp] theorem queueReply_odo (s : State) (code tag : Byte) (r : Reply) : (queueReply s code tag r).odo = s.odo := rfl

@[simp] theorem queueReply_seq (s : State) (code tag : Byte) (r : Reply) : (queueReply s code tag r).seq = s.seq := rfl

@[simp] theorem queueReply_asm (s : State) (code tag : Byte) (r : Reply) : (queueReply s code tag r).asm = s.asm := rfl

@[simp] theorem queueReply_paths (s : State) (code tag : Byte) (r : Reply) : (queueReply s code tag r).paths = s.paths := rfl

@[simp] theorem queueReply_zones (s : State) (code tag : Byte) (r : Reply) : (queueReply s code tag r).zones = s.zones := rfl

@[simp] theorem queueReply_geo (s : State) (code tag : Byte) (r : Reply) : (queueReply s code tag r).geo = s.geo := rfl

@[simp] theorem queueReply_merge (s : State) (code tag : Byte) (r : Reply) : (queueReply s code tag r).merge = s.merge := rfl

@[simp] theorem queueReply_tracks (s : State) (code tag : Byte) (r : Reply) : (queueReply s code tag r).tracks = s.tracks := rfl

@[simp] theorem queueReply_span (s : State) (code tag : Byte) (r : Reply) : (queueReply s code tag r).span = s.span := rfl

@[simp] theorem queueReply_pending (s : State) (code tag : Byte) (r : Reply) : (queueReply s code tag r).pending = s.pending := rfl

@[simp] theorem queueReply_op (s : State) (code tag : Byte) (r : Reply) :
    (queueReply s code tag r).cmd.op = s.cmd.op := rfl

@[simp] theorem queueReply_params (s : State) (code tag : Byte) (r : Reply) :
    (queueReply s code tag r).cmd.params = s.cmd.params := rfl

/-! ### The record queue -/

@[simp] theorem Output.kick_records (o : Output) : o.kick.records = o.records := by unfold Output.kick; split <;> (try split) <;> (try split) <;> (try split) <;> rfl

@[simp] theorem Output.kick_raw (o : Output) : o.kick.raw = o.raw := by unfold Output.kick; split <;> (try split) <;> (try split) <;> (try split) <;> rfl

@[simp] theorem Output.kick_reserved (o : Output) : o.kick.reserved = o.reserved := by unfold Output.kick; split <;> (try split) <;> (try split) <;> (try split) <;> rfl

@[simp] theorem Output.kick_lossFlag (o : Output) : o.kick.lossFlag = o.lossFlag := by unfold Output.kick; split <;> (try split) <;> (try split) <;> (try split) <;> rfl

@[simp] theorem Output.kick_notice (o : Output) : o.kick.notice = o.notice := by unfold Output.kick; split <;> (try split) <;> (try split) <;> (try split) <;> rfl

@[simp] theorem Output.kick_linkUp (o : Output) : o.kick.linkUp = o.linkUp := by unfold Output.kick; split <;> (try split) <;> (try split) <;> (try split) <;> rfl

@[simp] theorem Output.kick_counters (o : Output) : o.kick.counters = o.counters := by unfold Output.kick; split <;> (try split) <;> (try split) <;> (try split) <;> rfl

@[simp] theorem Output.kick_occupancy (o : Output) : o.kick.occupancy = o.occupancy := by simp [Output.occupancy]

/-- A free transmitter on a live link starts the head record, else the head raw frame (R166). -/
theorem Output.kick_tx (o : Output) :
    o.kick.tx =
      if o.tx = .free ∧ o.linkUp = true then
        (if o.records = [] then (if o.raw = [] then .free else .raw) else .record)
      else o.tx := by
  unfold Output.kick
  cases htx : o.tx <;> cases hl : o.linkUp <;> simp [htx]
  cases hr : o.records <;> cases hw : o.raw <;> simp [htx]

@[simp] theorem Output.join_records (o : Output) (f : Frame) : (o.join f).records = o.records ++ [f] := by
  simp [Output.join]

@[simp] theorem Output.join_raw (o : Output) (f : Frame) : (o.join f).raw = o.raw := by simp [Output.join]

@[simp] theorem Output.join_reserved (o : Output) (f : Frame) : (o.join f).reserved = o.reserved := by
  simp [Output.join]

@[simp] theorem Output.join_lossFlag (o : Output) (f : Frame) : (o.join f).lossFlag = o.lossFlag := by
  simp [Output.join]

@[simp] theorem Output.join_notice (o : Output) (f : Frame) : (o.join f).notice = o.notice := by
  simp [Output.join]

@[simp] theorem Output.join_linkUp (o : Output) (f : Frame) : (o.join f).linkUp = o.linkUp := by
  simp [Output.join]

@[simp] theorem Output.join_counters (o : Output) (f : Frame) :
    (o.join f).counters = { o.counters with admitted := bump o.counters.admitted } := by simp [Output.join]

theorem Output.join_tx (o : Output) (f : Frame) :
    (o.join f).tx = if o.tx = .free ∧ o.linkUp = true then .record else o.tx := by
  rw [Output.join, Output.kick_tx]; simp

/-- A record that joins adds one to the occupancy (R161). -/
theorem Output.join_occupancy (o : Output) (f : Frame) : (o.join f).occupancy = o.occupancy + 1 := by
  simp [Output.occupancy]; omega

/-- A RECORD_LOSS offer takes the occupancy to 60 at most, where it changes it at all (R162, R164). -/
theorem offerLossStatus_occupancy_le (s : State) : (offerLossStatus s).out.occupancy ≤ max s.out.occupancy 60 := by
  unfold offerLossStatus
  split
  · next h =>
    simp only [State.onOut_out, Output.join_occupancy, Config.classBLimit] at *
    simp only [Output.occupancy] at *; omega
  · exact le_max_left _ _

theorem lose_occupancy_le (s : State) : (lose s).out.occupancy ≤ max s.out.occupancy 60 := by
  simp only [lose]
  split
  · exact offerLossStatus_occupancy_le _
  · exact le_max_left _ _

/-- No offer of class A, B or STATUS takes the occupancy over 60, where it changes it at all (Table 10-1, Law 8). -/
theorem offerA_occupancy_le (s : State) (f : Frame) : (offerA s f).out.occupancy ≤ max s.out.occupancy 60 := by
  unfold offerA
  split
  · next h => simp [Output.join_occupancy, Config.classALimit] at *; omega
  · exact lose_occupancy_le _

theorem offerB_occupancy_le (s : State) (f : Frame) : (offerB s f).out.occupancy ≤ max s.out.occupancy 60 := by
  unfold offerB
  split
  · next h => simp [Output.join_occupancy, Config.classBLimit] at *; omega
  · exact lose_occupancy_le _

theorem offerStatus_occupancy_le (s : State) (c : StatusCause) :
    (offerStatus s c).out.occupancy ≤ max s.out.occupancy 60 := by
  unfold offerStatus
  split
  · next h =>
    simp only [State.onOut_out, Output.join_occupancy, Config.classBLimit] at *
    simp only [Output.occupancy] at *; omega
  · exact lose_occupancy_le _

end Machine

end Sys2Proof
end

