-- ==== Sys2Proof/Laws/Commands.lean ====
section
/-! SUPPORT. One lemma for each shared operation of the commands and of the scan flow: what taking a command, queuing a reply,
joining the record queue, releasing scans, testing the tally and closing a bin do, so that later proofs cite them and unfold
nothing. -/

namespace Sys2Proof.Machine

/-- A record that joins is what withRecord says (R161, R162, R166). -/
theorem Output.join_eq_withRecord (o : Output) (f : Frame) : o.join f = withRecord o f := by
  cases o with
  | mk records reserved lossFlag notice raw linkUp tx counters =>
    cases tx <;> cases linkUp <;> simp [Output.join, Output.kick, withRecord]

/-- Taking a COMMAND frame that is Taken: the frame is counted good, the reservation opens, and the command goes on (R163,
R173). -/
theorem takeCommand_taken {s : State} {address : Byte} {args : List Byte} (h : Taken s address args) (code tag : Byte)
    (go : State → State) :
    takeCommand s address code tag args go =
      go { s with
        cmd := { s.cmd with rx := { s.cmd.rx with good := bump s.cmd.rx.good } }
        out := { s.out with reserved := true } } := by
  obtain ⟨-, clear, fits, mine, room⟩ := h
  have good : checkIntact (s.portRule .trunk) (commandFrame address code tag args) =
      .good (commandFrame address code tag args) := by
    simp [checkIntact, State.portRule, commandFrame, kindLengthOk, Config.maxPayload, kindCommand, kindProfile,
      kindHeadReply, kindMotion]
    omega
  have same : (address !=
      (s.onCmd fun c => { c with rx := { c.rx with good := bump c.rx.good } }).stationByte) = false := by
    simp [State.stationByte, State.onCmd, mine]
  have space : s.out.occupancy < Config.recordCapacity := room
  simp only [takeCommand, settle_none (r := .trunk) clear, good, State.countRx, RxCounters.count, same]
  simp
  exact if_pos space

/-- What a span closed report that waits does: nothing while a report or a trigger is still on its way, and otherwise it reaches
drain control (R181, log entry 21). -/
theorem settleSpanClosed_eq (s : State) :
    settleSpanClosed s =
      if s.paths.spanClosed = true ∧ s.paths.reports = [] ∧ s.seq.onWay = 0 then
        spanClosed { s with paths := { s.paths with spanClosed := false } }
      else s := by
  unfold settleSpanClosed
  by_cases h : s.paths.spanClosed = true ∧ s.paths.reports = [] ∧ s.seq.onWay = 0
  · rw [if_pos h, if_pos (by simpa [and_assoc] using h)]
    rfl
  · rw [if_neg h, if_neg (by simpa [and_assoc] using h)]

/-- With no span closed report waiting, nothing reaches drain control. -/
theorem settleSpanClosed_none {s : State} (h : s.paths.spanClosed = false) : settleSpanClosed s = s := by
  simp [settleSpanClosed, h]

/-- Queuing a reply: it joins at the tail, the reservation closes, the command is counted taken, and refused where its result
is neither DONE nor CLAMPED (R163, R173). -/
theorem queueReply_eq (s : State) (code tag : Byte) (r : Reply) :
    queueReply s code tag r =
      { s with
        out := replied s.out (replyFrame s.cmd.station code tag r)
        cmd :=
          { s.cmd with
            counters :=
              { s.cmd.counters with
                taken := bump s.cmd.counters.taken
                refused :=
                  if r.result = .done ∨ r.result = .clamped then s.cmd.counters.refused
                  else bump s.cmd.counters.refused } } } := by
  simp only [queueReply, Output.join_eq_withRecord, replied]
  obtain ⟨result, detail, data⟩ := r
  cases result <;> rfl

/-- A state that differs in one queued reply alone only answers. -/
theorem onlyAnswers_of_eq {s t : State} {code tag : Byte} {r : Reply}
    (h : t = { s with
      out := replied s.out (replyFrame s.cmd.station code tag r)
      cmd := tookOne s.cmd r.result }) : OnlyAnswers s t code tag r := by
  subst h
  refine ⟨⟨rfl, rfl⟩, ?_, rfl⟩
  intro p hp
  cases p <;> first | rfl | simp at hp

/-- Release with no context in use changes nothing (R61). -/
theorem release_nil {s : State} (h : s.asm.contexts = []) : release s = s := by
  simp [release, h]

/-- Release with the oldest context still collecting changes nothing (R61). -/
theorem release_collecting {s : State} {c : ScanContext} {rest : List ScanContext} (h : s.asm.contexts = c :: rest)
    (hc : c.complete = false) : release s = s := by
  simp [release, h, hc]

/-- What the release of the COMPLETE contexts at the head does, once and for all (R61, R63, R172, R181). -/
theorem release_eq (s : State) (gone rest : List ScanContext) (hg : s.asm.contexts.takeWhile (·.complete) = gone)
    (hr : s.asm.contexts.dropWhile (·.complete) = rest) (h : gone ≠ []) :
    release s =
      { s with
        asm := { s.asm with contexts := rest, released := bumpBy s.asm.released gone.length }
        paths := { s.paths with toZone := s.paths.toZone ++ gone.map ScanContext.toReleased }
        cmd := s.cmd.released gone.length rest.isEmpty } := by
  have hn : gone.length ≠ 0 := by simpa using h
  simp only [release, hg, hr]
  cases ho : s.cmd.op <;> cases hd : s.cmd.drain <;> cases rest.isEmpty <;>
    simp [h, hn, ho, hd, CommandUnit.released, assemblyDrained, testTally, State.onAsm, State.onPaths,
      State.onCmd]
/-- What the test of the tally does: nothing, or the drain close request where the drain waits for the pipeline and the tally is
0 (R181). -/
theorem testTally_eq (s : State) :
    testTally s =
      if s.cmd.drain = .waitingPipeline ∧ s.cmd.tally = 0 then
        { s with
          paths := { s.paths with drainRequest := true }
          cmd := { s.cmd with drain := .waitingSpan, lateMark := false } }
      else s := by
  by_cases h : s.cmd.drain = .waitingPipeline ∧ s.cmd.tally = 0
  · rw [if_pos h]
    have : (s.cmd.drain == .waitingPipeline && s.cmd.tally == 0) = true := by
      simpa using h
    simp only [testTally, this]
    rfl
  · have : (s.cmd.drain == .waitingPipeline && s.cmd.tally == 0) = false := by
      simpa using h
    simp [testTally, this, h]

/-- Saturating additions to a counter add up. -/
theorem bumpBy_bumpBy (c : Counter) (j k : Nat) : bumpBy (bumpBy c j) k = bumpBy c (j + k) := by
  have hc := c.isLt
  apply BitVec.eq_of_toNat_eq
  simp only [bumpBy, BitVec.toNat_ofNat, Config.counterMax]
  omega

/-- Adding nothing leaves a counter as it is. -/
theorem bumpBy_zero (c : Counter) : bumpBy c 0 = c := by
  have hc := c.isLt
  apply BitVec.eq_of_toNat_eq
  simp only [bumpBy, BitVec.toNat_ofNat, Config.counterMax]
  omega

/-- Short of saturation a counter counts exactly. -/
theorem toNat_bumpBy {c : Counter} {k : Nat} (h : (bumpBy c k).toNat < Config.counterMax) :
    (bumpBy c k).toNat = c.toNat + k := by
  have hc := c.isLt
  simp only [bumpBy, BitVec.toNat_ofNat, Config.counterMax] at h ⊢
  omega

/-- Closing a track's bin takes one bin of the track out of the store, if there is one, and no other (R148). -/
theorem closeBin_bins (s : State) (id : Nat) (cause : CloseCause) :
    (closeBin s id cause).span.bins = s.span.bins.eraseP fun b => b.track == id := by
  unfold closeBin
  split
  · simp
  · next h => exact (List.eraseP_of_forall_not (by simpa [SpanUnit.binOf] using h)).symm

/-- Closing a track's bin counts exactly the bins that leave the store: one or none (R160). -/
theorem closeBin_binsClosed (s : State) (id : Nat) (cause : CloseCause) :
    (closeBin s id cause).span.counters.binsClosed =
      bumpBy s.span.counters.binsClosed (s.span.bins.length - (closeBin s id cause).span.bins.length) := by
  rw [closeBin_bins]
  unfold closeBin
  split
  · next b h =>
    have hm : b ∈ s.span.bins := List.mem_of_find?_eq_some h
    have hb := List.find?_some (p := fun k : Bin => k.track == id) h
    have hl := List.length_eraseP_of_mem (p := fun k : Bin => k.track == id) hm hb
    have : 0 < s.span.bins.length := List.length_pos_of_mem hm
    simp [hl, bump, show s.span.bins.length - (s.span.bins.length - 1) = 1 by omega]
  · next h =>
    rw [List.eraseP_of_forall_not (by simpa [SpanUnit.binOf] using h)]
    simp [bumpBy_zero]

end Sys2Proof.Machine
end

