-- ==== Sys2Proof/Laws/PerInstr.lean ====
section
/-! SUPPORT. A family of statements made row by row: a well-formed row's frame passes the length check of R3. -/

namespace Sys2Proof.Laws.FrameLength

/-- A well-formed row that carries a good frame carries one whose payload fits a frame (Table 1-9) and meets the length rule
of its kind (Table 1-10). -/
def Statement (i : Instr) : Prop :=
  i.wellFormed = true → ∀ f, i.carries = some f →
    f.payload.length ≤ Config.maxPayload ∧ Machine.kindLengthOk f.kind f.payload = true

/-- A COMMAND row whose arguments fit a frame. -/
theorem of_args (i : Instr) (address code tag : Byte) (args : List Byte)
    (hw : i.wellFormed = true → argsFit args = true)
    (hc : i.carries = some ⟨Machine.kindCommand, address, [code, tag] ++ args⟩) : Statement i := by
  intro h f hf
  rw [hc] at hf
  cases hf
  have := hw h
  simp only [argsFit, decide_eq_true_eq] at this
  refine ⟨by simp; omega, ?_⟩
  simp [Machine.kindLengthOk, Machine.kindProfile, Machine.kindHeadReply, Machine.kindMotion, Machine.kindCommand]

/-- A row that carries no frame. -/
theorem of_none (i : Instr) (hc : i.carries = none) : Statement i := by
  intro _ f hf
  rw [hc] at hf
  cases hf

theorem profileFrame (port : Port) (address : Byte) (payload : List Byte) : Statement (.profileFrame port address payload) := by
  intro h f hf
  cases hf
  refine ⟨?_, h⟩
  simp only [Instr.wellFormed, Machine.kindLengthOk, BEq.rfl, if_true, Bool.and_eq_true, decide_eq_true_eq,
    beq_iff_eq] at h
  simp only [Config.maxPayload]
  omega

theorem headReplyFrame (port : Port) (address : Byte) (payload : List Byte) : Statement (.headReplyFrame port address payload) := by
  intro h f hf
  cases hf
  refine ⟨?_, h⟩
  simp [Instr.wellFormed, Machine.kindLengthOk, Machine.kindProfile, Machine.kindHeadReply] at h
  simp only [Config.maxPayload]
  omega

theorem motionFrame (address : Byte) (payload : List Byte) : Statement (.motionFrame address payload) := by
  intro h f hf
  cases hf
  refine ⟨?_, h⟩
  simp [Instr.wellFormed, Machine.kindLengthOk, Machine.kindProfile, Machine.kindHeadReply, Machine.kindMotion] at h
  simp only [Config.maxPayload]
  omega

theorem frameFailed (receiver : Receiver) (rx : Reception) : Statement (.frameFailed receiver rx) :=
  of_none _ rfl

theorem lineChange (oda : Bool) (odb : Bool) (late : Bool) : Statement (.lineChange oda odb late) :=
  of_none _ rfl

theorem silenceTimerExpiry (port : Port) : Statement (.silenceTimerExpiry port) :=
  of_none _ rfl

theorem slotStart (port : Port) : Statement (.slotStart port) :=
  of_none _ rfl

theorem exposureEnd (port : Port) : Statement (.exposureEnd port) :=
  of_none _ rfl

theorem busyWindowClose : Statement (.busyWindowClose) :=
  of_none _ rfl

theorem deadlineReached (scan : Word16) : Statement (.deadlineReached scan) :=
  of_none _ rfl

theorem holdAgeExpiry : Statement (.holdAgeExpiry) :=
  of_none _ rfl

theorem downlinkEndDelimiter (port : Port) : Statement (.downlinkEndDelimiter port) :=
  of_none _ rfl

theorem scanResolution : Statement (.scanResolution) :=
  of_none _ rfl

theorem geometryScan : Statement (.geometryScan) :=
  of_none _ rfl

theorem rawListArrival : Statement (.rawListArrival) :=
  of_none _ rfl

theorem clusterListArrival : Statement (.clusterListArrival) :=
  of_none _ rfl

theorem trackListArrival : Statement (.trackListArrival) :=
  of_none _ rfl

theorem runOpeningReport : Statement (.runOpeningReport) :=
  of_none _ rfl

theorem scanFinishedReport : Statement (.scanFinishedReport) :=
  of_none _ rfl

theorem drainCloseRequest : Statement (.drainCloseRequest) :=
  of_none _ rfl

theorem stopListArrival : Statement (.stopListArrival) :=
  of_none _ rfl

theorem trunkEndDelimiter : Statement (.trunkEndDelimiter) :=
  of_none _ rfl

theorem linkUp : Statement (.linkUp) :=
  of_none _ rfl

theorem linkDown : Statement (.linkDown) :=
  of_none _ rfl

theorem identify (address : Byte) (tag : Byte) (args : List Byte) : Statement (.identify address tag args) :=
  of_args _ address 0x01 tag args id rfl

theorem getState (address : Byte) (tag : Byte) (args : List Byte) : Statement (.getState address tag args) :=
  of_args _ address 0x02 tag args id rfl

theorem getCounters (address : Byte) (tag : Byte) (args : List Byte) : Statement (.getCounters address tag args) :=
  of_args _ address 0x03 tag args id rfl

theorem clearCounters (address : Byte) (tag : Byte) (args : List Byte) : Statement (.clearCounters address tag args) :=
  of_args _ address 0x04 tag args id rfl

theorem setHeads (address : Byte) (tag : Byte) (args : List Byte) : Statement (.setHeads address tag args) :=
  of_args _ address 0x10 tag args id rfl

theorem loadHeadCal (address : Byte) (tag : Byte) (args : List Byte) : Statement (.loadHeadCal address tag args) :=
  of_args _ address 0x11 tag args id rfl

theorem loadWireType (address : Byte) (tag : Byte) (args : List Byte) : Statement (.loadWireType address tag args) :=
  of_args _ address 0x12 tag args id rfl

theorem setRunParams (address : Byte) (tag : Byte) (args : List Byte) : Statement (.setRunParams address tag args) :=
  of_args _ address 0x13 tag args id rfl

theorem setScanSpacing (address : Byte) (tag : Byte) (args : List Byte) : Statement (.setScanSpacing address tag args) :=
  of_args _ address 0x14 tag args id rfl

theorem setStrobe (address : Byte) (tag : Byte) (args : List Byte) : Statement (.setStrobe address tag args) :=
  of_args _ address 0x15 tag args id rfl

theorem setDistance (address : Byte) (tag : Byte) (args : List Byte) : Statement (.setDistance address tag args) :=
  of_args _ address 0x16 tag args id rfl

theorem zoneAppend (address : Byte) (tag : Byte) (args : List Byte) : Statement (.zoneAppend address tag args) :=
  of_args _ address 0x20 tag args id rfl

theorem zoneFlush (address : Byte) (tag : Byte) (args : List Byte) : Statement (.zoneFlush address tag args) :=
  of_args _ address 0x21 tag args id rfl

theorem headPass (address : Byte) (tag : Byte) (args : List Byte) : Statement (.headPass address tag args) :=
  of_args _ address 0x30 tag args id rfl

theorem start (address : Byte) (tag : Byte) (args : List Byte) : Statement (.start address tag args) :=
  of_args _ address 0x40 tag args id rfl

theorem stop (address : Byte) (tag : Byte) (args : List Byte) : Statement (.stop address tag args) :=
  of_args _ address 0x41 tag args id rfl

theorem reset (address : Byte) (tag : Byte) (args : List Byte) : Statement (.reset address tag args) :=
  of_args _ address 0x4F tag args id rfl

theorem unknownCommand (address : Byte) (code : Byte) (tag : Byte) (args : List Byte) : Statement (.unknownCommand address code tag args) :=
  of_args _ address code tag args (fun h => (Bool.and_eq_true _ _ ▸ h).1) rfl

theorem hardReset : Statement (.hardReset) :=
  of_none _ rfl

theorem triggerArrival : Statement (.triggerArrival) :=
  of_none _ rfl

theorem hardResetEnd (staddr : BitVec 4) (portpres : PortSet) (oda : Bool) (odb : Bool) : Statement (.hardResetEnd staddr portpres oda odb) :=
  of_none _ rfl

end Sys2Proof.Laws.FrameLength
end

