-- ==== Sys2Proof/Tests/Slice0.lean ====
section
/-! SUPPORT. Tests on small states, with expected values from the manual's worked examples and tables; the smoke tests of
WellFormed; and a witness for the hypotheses of every statement. -/

namespace Sys2Proof.Tests

open Sys2Proof.Machine

-- The tests are checked one after another: each asks the kernel, and many at once would each hold a thread.
set_option Elab.async false

/-! ### Small states -/

/-- A test of the state that an outcome answers. -/
def holds (r : Host.Outcome State Fault Refusal) (f : State → Bool) : Bool :=
  match r with
  | .next t => f t
  | _ => false

/-- A port in ACTIVE with its timer started at 0. -/
def activePort (id : Byte) : RoofPort := { state := .active, silence := some 0, headId := id }

/-- A part in RUNNING with four ACTIVE ports. -/
def running : State :=
  { State.reset with
    roof := ⟨Quad.replicate true, ⟨activePort 0, activePort 1, activePort 2, activePort 3⟩⟩
    cmd := { op := .running, station := 0, present := Quad.replicate true } }

/-- A snapshot at a distance, with no motion flags. -/
def snapAt (d : Int) : Snapshot := ⟨d, .increasing, 0, 0, 0, 3900000, {}⟩

/-- A collecting context of a scan that awaits some ports of the first three; its trigger was at 0, its deadline is at 5,000. -/
def collecting (scan : Word16) (awaited : PortSet) : ScanContext :=
  { complete := false, scan := scan, trigger := 0, snapshot := snapAt 0, strobed := ⟨true, true, true, false⟩
    awaited := awaited, deadline := 5000, deliveries := Quad.replicate .absent, missing := Quad.replicate false }

/-- A RUNNING part with these contexts in use. -/
def withContexts (cs : List ScanContext) (next : Word16) : State :=
  { running with asm := { contexts := cs }, seq := { scanCounter := next } }

/-- A released scan at a distance, with no deliveries. -/
def releasedAt (scan : Word16) (d : Int) : ReleasedScan :=
  ⟨scan, 0, snapAt d, Quad.replicate true, Quad.replicate false, []⟩

/-- A zone entry with an id, bounds, number and entered distance. -/
def zone (id : BitVec 32) (lo hi : Int) (number : Word16) (entered : Option Int) : ZoneEntry :=
  { zoneId := id, lo := lo, hi := hi, kind := .plain, expected := 0, wireType := 0, staggerLimit := 0, heightMin := 0
    heightMax := 0, minThickness := 0, number := number, entered := entered, scans := 0, runsOpened := 0 }

/-- The zone context of zone NONE. -/
def noZone : ZoneContext := ⟨none, 0, false⟩

/-- A zone view with an entry number and a stagger limit. -/
def viewOf (number : Word16) (limit : Int) : ZoneView := ⟨number, 500, .plain, 0, limit, 0, 0, 0⟩

/-- A scan's header. -/
def headerAt (d : Int) (sense : Sense) (epoch : Byte) (c : ZoneContext) : ScanHeader :=
  ⟨1, d, sense, epoch, Quad.replicate false, c⟩

/-- A merged detection without a thickness. -/
def mergedAt (index : Nat) (s h : Int) : Merged := ⟨index, s, h, none, none, {}⟩

/-- An open bin of track 1 at index 84. -/
def binAt84 (zone : Option ZoneView) (epoch : Byte) : Bin :=
  { track := 1, zone := zone, epoch := epoch, index := 84, first := 84000, last := 84900, hits := 1, misses := 0
    extremes := some ⟨0, 0, 0, 0⟩, staggerSum := 0, heightSum := 0, samples := 0, thickness := none, flags := {} }

/-- A confirmed track. -/
def trackOf (id : Nat) (state : TrackState) (s h slope d : Int) (misses : Nat) : Track :=
  { id := id, state := state, stagger := s, height := h, slope := slope, lastHit := d, lastEpoch := 7, hits := 5
    misses := misses, birth := 0, thickness := none }

/-- Some record. -/
def wireRecord : Frame := ⟨kindWire, 0, []⟩

/-- A STANDBY part with every set loaded, priorities by port, and wire type 0 loaded. -/
def ready : State :=
  let set (p : Nat) : CalSlot := ⟨true, { CalSlot.unloaded.cal with weight := 1, priority := p }⟩
  { State.reset with
    geo := { cal := ⟨set 0, set 1, set 2, set 3⟩ }
    merge := { slots := { WireSlot.unloaded with loaded := true } :: List.replicate 7 WireSlot.unloaded } }

/-! ### WellFormed -/

/-- Table 1-10: a PROFILE payload has 4 + 8 n bytes for the n in byte 3. -/
theorem test_wf_profile : (Instr.profileFrame .h0 0 [0, 0, 0, 1]).wellFormed = false := by decide
theorem test_wf_profile_ok : (Instr.profileFrame .h0 0 [0, 0, 0, 0]).wellFormed = true := by decide
/-- A HEAD_REPLY payload has 1 to 64 bytes. -/
theorem test_wf_headReply : (Instr.headReplyFrame .h0 0 []).wellFormed = false := by decide
theorem test_wf_headReply_long : (Instr.headReplyFrame .h0 0 (List.replicate 65 0)).wellFormed = false := by decide
/-- A MOTION payload has 13 bytes. -/
theorem test_wf_motion : (Instr.motionFrame 0 (List.replicate 12 0)).wellFormed = false := by decide
/-- A payload holds at most 320 bytes, code and tag among them. -/
theorem test_wf_args :
    ([fun a => Instr.identify 0 0 a, fun a => .getState 0 0 a, fun a => .getCounters 0 0 a,
      fun a => .clearCounters 0 0 a, fun a => .setHeads 0 0 a, fun a => .loadHeadCal 0 0 a,
      fun a => .loadWireType 0 0 a, fun a => .setRunParams 0 0 a, fun a => .setScanSpacing 0 0 a,
      fun a => .setStrobe 0 0 a, fun a => .setDistance 0 0 a, fun a => .zoneAppend 0 0 a, fun a => .zoneFlush 0 0 a,
      fun a => .headPass 0 0 a, fun a => .start 0 0 a, fun a => .stop 0 0 a, fun a => .reset 0 0 a,
      fun a => .unknownCommand 0 0x77 0 a].all fun f =>
        !(f (List.replicate 319 0)).wellFormed && (f (List.replicate 318 0)).wellFormed) = true := by
  decide +kernel
/-- UNKNOWN_COMMAND carries a code that Table 11-2 does not list. -/
theorem test_wf_unknown : (Instr.unknownCommand 0 0x4F 0 []).wellFormed = false := by decide

/-! ### Frames (chapter 1) -/

/-- R1: the reference value of the check. -/
theorem test_check_reference :
    crc16 [0x31, 0x32, 0x33, 0x34, 0x35, 0x36, 0x37, 0x38, 0x39] = 0x29B1 := by decide +kernel

/-- R3, R4: a frame that closes with a wrong Length is counted under length, one with a wrong check under check. -/
theorem test_frameFailed :
    holds (exec (.frameFailed .motion ⟨false, .endDelimiter, [0x31, 0, 0, 0, 0, 0]⟩) State.reset)
      (fun t => t.motion.rx == { length := 1 }) = true ∧
    holds (exec (.frameFailed .trunk ⟨false, .endDelimiter, [0x51, 0, 0, 2, 1, 1, 0, 0]⟩) State.reset)
      (fun t => t.cmd.rx == { check := 1 }) = true := by decide +kernel

/-- R2: of 327 bytes 326 are stored and all count, and a start delimiter closes the frame under framing and opens a new one. -/
theorem test_openFrame :
    let s := { State.reset with motion := { frame := some ⟨false, List.replicate 320 1, 320⟩ } }
    holds (exec (.frameFailed .motion ⟨false, .stillOpen, List.replicate 7 2⟩) s) (fun t =>
      t.motion.frame == some ⟨false, List.replicate 320 1 ++ List.replicate 6 2, 327⟩ && t.motion.rx == {}) = true ∧
    holds (exec (.frameFailed .motion ⟨false, .startDelimiter, []⟩) s) (fun t =>
      t.motion.frame == some {} && t.motion.rx == { framing := 1 }) = true := by decide +kernel

/-- R2: RESET discards the frames that are open, but not the one that carries it. -/
theorem test_reset_discards :
    holds
      (exec (.reset 0 5 [])
        { State.reset with
          motion := { frame := some ⟨false, [1], 1⟩ }, cmd := { State.reset.cmd with frame := some ⟨false, [0x51, 0], 2⟩ } })
      (fun t => t.motion.frame == none && t.cmd.frame == none && t.cmd.rx == {} && t.cmd.counters.taken == 1) = true := by
  decide +kernel

/-- R11: a PROFILE frame at an IDLE port is discarded and counted. -/
theorem test_profile_idle :
    holds (exec (.profileFrame .h1 1 [0, 0, 0, 0]) State.reset) (fun t =>
      (t.port .h1).counters.idleDiscards == 1 && (t.port .h1).counters.goodProfiles == 1) = true := by decide +kernel

/-- Table 4-5, 10,003,100: the last awaited profile of scan 700 completes it with H2 missing, and it is released. -/
theorem test_profile_completes :
    holds
      (exec (.profileFrame .h1 1 [2, 0xBC, 0, 0])
        (withContexts [collecting 700 ⟨false, true, false, false⟩, collecting 701 ⟨true, true, false, false⟩] 702))
      (fun t => t.asm.contexts.map (·.scan) == [701] && t.paths.toZone.map (·.scan) == [700] &&
        (t.port .h1).counters.accepted == 1 && t.asm.missing.h2 == 1 && t.asm.released == 1) = true := by
  decide +kernel

/-- R8, R14: a reply in SEEKING makes the port ACTIVE and is relayed after STATUS PORT_STATE. -/
theorem test_headReply :
    holds
      (exec (.headReplyFrame .h0 0 [9])
        { running with roof := ⟨Quad.replicate true, Quad.replicate { state := .seeking, silence := some 0, headId := 0 }⟩ })
      (fun t => (t.port .h0).state == .active && t.out.records.map (·.kind) == [0x75, 0x75, 0x22] &&
        (t.port .h0).counters.relayedReplies == 1) = true := by decide +kernel

/-- R17: the waiting TRIGGER goes before the frame in the relay slot. -/
theorem test_downlinkEnd :
    holds
      (exec (.downlinkEndDelimiter .h0)
        (running.onPort .h0 fun c =>
          { c with tx := .trigger ⟨0x41, 0, []⟩, waiting := some ⟨0x41, 0, [1]⟩, relay := some ⟨0x42, 0, [2]⟩ }))
      (fun t => (t.port .h0).tx == .trigger ⟨0x41, 0, [1]⟩ && (t.port .h0).waiting == none &&
        (t.port .h0).counters.triggersSent == 1) = true := by decide +kernel

/-- Table 4-5, 10,002,500: the loss of H2 completes and releases scans 697 to 699, and 700 goes on without it. -/
theorem test_silenceExpiry :
    holds
      (exec (.silenceTimerExpiry .h2)
        { withContexts
            [collecting 697 ⟨false, false, true, false⟩, collecting 698 ⟨false, false, true, false⟩,
              collecting 699 ⟨false, false, true, false⟩, collecting 700 ⟨true, true, true, false⟩] 701 with
          timebase := 100000 })
      (fun t => (t.port .h2).state == .lost && (t.port .h2).silence == none &&
        t.paths.toZone.map (·.scan) == [697, 698, 699] && t.asm.missing.h2 == 3 && t.asm.released == 3 &&
        t.asm.contexts.map (·.awaited) == [⟨true, true, false, false⟩]) = true := by decide +kernel

/-! ### Odometer and motion (chapter 2) -/

/-- The odometer of Table 2-5 before a row. -/
def odoAt (oda odb : Bool) (units : Int) (divider : Nat) : State :=
  { running with odo := { oda := oda, odb := odb, units := units, spacing := 4, divider := divider } }

/-- Table 2-5, row 1: a step in A-leads order. -/
theorem test_lineChange_step :
    holds (exec (.lineChange true false false) (odoAt false false 65536000 4)) (fun t =>
      t.odo.mm == 1002 && t.odo.fraction == 52429 && t.odo.divider == 3 && t.odo.sense == .increasing &&
        t.odo.counters.increasing == 1) = true := by decide +kernel

/-- Table 2-5, row 4: a step in B-leads order that raises a trigger. -/
theorem test_lineChange_trigger :
    holds (exec (.lineChange true true true) (odoAt false true 66086503 1)) (fun t =>
      t.odo.mm == 1005 && t.odo.fraction == 39322 && t.odo.divider == 4 && t.odo.sense == .decreasing &&
        t.odo.counters.triggers == 1 && t.seq.onWay == 1) = true := by decide +kernel

/-- Table 2-9, 1,007,000: a DEGRADED sample with a roll beyond its entry range. -/
theorem test_motion_clamped :
    holds
      (exec (.motionFrame 0 (intBytes32 62000 ++ intBytes32 (-12100) ++ natBytes32 3904000 ++ [1]))
        { running with timebase := 1007000 })
      (fun t => t.motion.held == some ⟨50000, -12100, 3904000, true, true, false, 1007000⟩ &&
        t.motion.counters.clamped == 1 && t.motion.counters.degraded == 1) = true := by decide +kernel

/-- Table 2-9, 1,012,000: an INVALID sample leaves the hold. -/
theorem test_motion_invalid :
    holds (exec (.motionFrame 0 (List.replicate 12 0 ++ [2])) running) (fun t =>
      t.motion.held == none && t.motion.counters.invalid == 1) = true := by decide +kernel

/-- Table 2-9, 2,007,000: one second after the last sample the hold is OLD. -/
theorem test_holdAge :
    holds
      (exec .holdAgeExpiry
        { running with
          timebase := 2007000, motion := { held := some ⟨50000, 0, 0, true, true, false, 1007000⟩ } })
      (fun t => t.motion.held.map (·.old) == some true) = true ∧
    holds
      (exec .holdAgeExpiry
        { running with
          timebase := 2006999, motion := { held := some ⟨50000, 0, 0, true, true, false, 1007000⟩ } })
      (fun t => t.motion.held.map (·.old) == some false) = true := by decide +kernel

/-! ### Strobe sequencer and assembler (chapters 3 and 4) -/

/-- Plan A of section 3.6. -/
def planA : Plan := ⟨⟨250, 300, 200, 180⟩, 20, 50⟩

/-- Table 3-2: plan lengths. -/
theorem test_planLength :
    (⟨Quad.replicate 200, 20, 50⟩ : Plan).length (Quad.replicate true) = 910 ∧
    (⟨Quad.replicate 200, 20, 50⟩ : Plan).length ⟨false, true, false, false⟩ = 250 ∧
    planA.length ⟨true, true, false, true⟩ = 820 ∧
    (⟨Quad.replicate 2000, 0, 0⟩ : Plan).length ⟨true, true, false, false⟩ = 4000 ∧
    (⟨Quad.replicate 2000, 1, 0⟩ : Plan).length ⟨true, true, false, false⟩ = 4001 := by decide +kernel

/-- Sequencer of Table 3-6 with H2 disabled and a number of contexts in use. -/
def sequencerAt (time : Time) (busy : Option BusyWindow) (next : Word16) : State :=
  { running with
    timebase := time
    roof := { running.roof with enabled := ⟨true, true, false, true⟩ }
    seq := { active := planA, busy := busy, scanCounter := next, onWay := 1 } }

/-- Table 3-6, 2,000,000: a scan starts. -/
theorem test_trigger_starts :
    holds (exec .triggerArrival (sequencerAt 2000000 none 4100)) (fun t =>
      t.seq.scanCounter == 4101 && t.seq.busy == some ⟨2000000, 820⟩ && t.seq.counters.started == 1 &&
        t.asm.contexts.map (·.scan) == [4100] && t.seq.onWay == 0) = true := by decide +kernel

/-- Table 3-6, 2,000,700: overrun-busy. -/
theorem test_trigger_overrun :
    holds (exec .triggerArrival (sequencerAt 2000700 (some ⟨2000000, 820⟩) 4101)) (fun t =>
      t.seq.counters.overrunBusy == 1 && t.asm.contexts == [] && t.seq.scanCounter == 4101) = true := by decide +kernel

/-- Table 3-5: the slots of scan 4,100 at offset 320. -/
def slotsAt320 : State :=
  { running with
    timebase := 320
    seq := { slots := some ⟨4100, 0, none, [⟨.h1, 320, 300⟩, ⟨.h3, 640, 180⟩]⟩ } }

/-- Table 3-5, offset 320: line H1 on, TRIGGER with scan 4,100 and exposure 300. -/
theorem test_slotStart :
    holds (exec (.slotStart .h1) slotsAt320) (fun t =>
      t.seq.lines == ⟨false, true, false, false⟩ &&
        (t.port .h1).tx == .trigger ⟨0x41, 1, [0x10, 0x04, 0x01, 0x2C]⟩) = true := by decide +kernel

/-- Table 3-5, offset 820: the last slot ends. -/
theorem test_exposureEnd :
    holds
      (exec (.exposureEnd .h3)
        { running with
          timebase := 820
          seq := { slots := some ⟨4100, 0, some ⟨.h3, 640, 180⟩, []⟩, lines := ⟨false, false, false, true⟩ } })
      (fun t => t.seq.lines == Quad.replicate false && t.seq.slots == none) = true := by decide +kernel

/-- Table 3-5, offset 820: the busy window closes. -/
theorem test_busyWindowClose :
    holds (exec .busyWindowClose { running with timebase := 820, seq := { busy := some ⟨0, 820⟩ } })
      (fun t => t.seq.busy == none) = true := by decide +kernel

/-- Table 4-5, 10,002,000: the deadline of scan 696. -/
theorem test_deadline :
    holds
      (exec (.deadlineReached 696)
        { withContexts
            [collecting 696 ⟨false, false, true, false⟩, collecting 697 ⟨false, false, true, false⟩] 698 with
          timebase := 5000 })
      (fun t => t.asm.contexts.map (·.scan) == [697] && t.asm.deadlines == 1 && t.asm.released == 1) = true := by
  decide +kernel

/-- R59, R61, R51: after its deadline, the oldest scan's profile is late; that of a scan which waits is stray (log entry 24). -/
theorem test_afterDeadline :
    let s :=
      { withContexts
          [collecting 696 ⟨false, false, true, false⟩, collecting 697 ⟨false, false, true, false⟩] 698 with
        timebase := 5000 }
    holds (exec (.deadlineReached 696) s) (fun t => classify t.asm.contexts t.seq.scanCounter .h2 696 == .late) = true ∧
      holds (exec (.deadlineReached 697) s) (fun t => classify t.asm.contexts t.seq.scanCounter .h2 697 == .stray) =
        true := by
  decide +kernel

/-! ### Zone queue (chapter 5) -/

/-- The zone queue of Table 5-7 from entry 102 on, where 102 has been current. -/
def zonesOf57 : List ZoneEntry :=
  [zone 103 11000 11400 22 (some 11025), zone 104 11400 11600 23 none, zone 105 11600 12000 24 none]

/-- Table 5-9, scan 311: 103 PASSED and 104 SKIPPED, and 105 current. -/
theorem test_scanResolution_jump :
    holds
      (exec .scanResolution
        { running with paths := { toZone := [releasedAt 311 11703] }, zones := { entries := zonesOf57 } })
      (fun t => t.zones.closing.map (fun c => (c.entry.zoneId, c.cause, c.left, c.tag)) ==
          [(103, .passed, 11703, 311), (104, .skipped, 11703, 311)] &&
        t.zones.current && t.zones.entries.map (·.entered) == [some 11703] && t.zones.inFlight == 1) = true := by
  decide +kernel

/-- Table 5-9, scan 312: the queue empties in RUNNING. -/
theorem test_scanResolution_exhausts :
    holds
      (exec .scanResolution
        { running with
          paths := { toZone := [releasedAt 312 12004] }, zones := { entries := [zone 105 11600 12000 24 (some 11703)] } })
      (fun t => t.zones.exhausted && !t.zones.current && t.out.records.length == 2 &&
        t.zones.counters.passed == 1 && t.zones.counters.inNone == 1) = true := by decide +kernel

/-- R77: a report counts at the entry in the closing list. -/
theorem test_runOpeningReport :
    holds
      (exec .runOpeningReport
        { running with
          paths := { reports := [.runOpened 21] }
          zones := { closing := [⟨zone 102 10500 10800 21 (some 10525), .passed, 10835, 305⟩] } })
      (fun t => t.zones.closing.map (fun c => c.entry.runsOpened) == [1]) = true := by decide +kernel

/-- Table 5-10: the ZONE record of zone 104. -/
theorem test_scanFinishedReport :
    holds
      (exec .scanFinishedReport
        { running with
          paths := { reports := [.scanFinished 311] }
          zones := { inFlight := 1, closing := [⟨zone 104 11400 11600 23 none, .skipped, 11703, 311⟩] } })
      (fun t => t.zones.inFlight == 0 && t.zones.closing == [] &&
        t.out.records.getLast? ==
          some ⟨0x74, 0, [0, 0, 0, 104, 0, 2, 0, 0, 0, 0x2D, 0xB7, 0, 0, 0, 0, 0, 0, 0, 0]⟩) = true := by decide +kernel

/-! ### Geometry and merging (chapters 6 and 7) -/

/-- The calibration of Table 6-7. -/
def calH2 : CalSet :=
  { columns := List.replicate 9 0 ++ [18000, 30000] ++ List.replicate 6 40000
    ranges := List.replicate 8 1 ++ [1180000, 1260000] ++ List.replicate 7 1300000
    reference := 1000000, mountLateral := 150000, mountHeight := 150000, weight := 255, priority := 0
    minIntensity := 40, colLo := 64, colHi := 1983, rangeLo := 200, rangeHi := 3900, headId := 2 }

/-- Table 6-8 and the last row of Table 6-9: the detection of the H2 segment. -/
theorem test_geometry :
    measureSegment calH2 ⟨0, .increasing, 0, 4000, -12400, 3905000, {}⟩ ⟨.h2, false, []⟩ 0
        ⟨1200, 1271, 2100, 180, false⟩ = some ⟨.h2, 0, 173938, 5250526, some 8075, {}⟩ ∧
      measureSegment calH2 ⟨0, .increasing, 0, -2000, -12400, 3905000, {}⟩ ⟨.h2, false, []⟩ 0
        ⟨1200, 1271, 2100, 180, false⟩ = some ⟨.h2, 0, 165860, 5251612, some 8075, {}⟩ := by decide +kernel

/-- Table 6-10: the segments of H0, counted. -/
theorem test_geometryScan :
    holds
      (exec .geometryScan
        { running with
          geo :=
            { cal :=
                (Quad.replicate CalSlot.unloaded).set .h0
                  ⟨true, { calH2 with minIntensity := 30, colLo := 40, colHi := 2000, rangeLo := 100 }⟩ }
          paths :=
            { toGeo :=
                [⟨{ releasedAt 1 0 with
                    deliveries :=
                      [⟨.h0, false,
                          [⟨10, 30, 1950, 90, false⟩, ⟨20, 70, 1980, 120, false⟩, ⟨600, 640, 2010, 25, false⟩,
                            ⟨900, 960, 3950, 200, false⟩]⟩] }, noZone⟩] } })
      (fun t => t.geo.ports.h0 == ⟨4, 1, 2, 1, 1⟩ &&
        t.paths.toMerge.map (fun l => l.detections.map fun d => (d.position, d.width, d.flags.clipped)) ==
          [[(1, none, true)]]) = true := by decide +kernel

/-- Weights and priorities of Table 7-4. -/
def calOf7 : Quad CalSlot :=
  ⟨⟨true, { calH2 with weight := 200, priority := 2 }⟩, ⟨true, { calH2 with weight := 64, priority := 1 }⟩,
    ⟨true, { calH2 with weight := 255, priority := 0 }⟩, ⟨true, { calH2 with weight := 128, priority := 3 }⟩⟩

/-- Table 7-9 and 7-10: three clusters at a turnout, and their merged values. -/
theorem test_rawListArrival :
    holds
      (exec .rawListArrival
        { running with
          geo := { cal := calOf7 }
          paths :=
            { toMerge :=
                [⟨headerAt 0 .increasing 0 noZone,
                  [⟨.h0, 0, 98000, 5300000, some 1, {}⟩, ⟨.h1, 0, 104500, 5301200, some 1, {}⟩,
                    ⟨.h2, 0, 110200, 5299800, some 1, {}⟩, ⟨.h3, 0, 111900, 5301000, some 1, {}⟩,
                    ⟨.h3, 1, 113000, 5300400, some 1, {}⟩]⟩] } })
      (fun t => t.paths.toTrack.map (fun l => l.items.map fun m => (m.stagger, m.height, m.source)) ==
        [[(99576, 5300291, some .h1), (110768, 5300201, some .h2), (113000, 5300400, some .h3)]]) = true := by
  decide +kernel

/-- The wire type of Table 7-11. -/
def slot2 : WireSlot :=
  ⟨true, 13200, 500,
    [13200, 13200, 13200, 13000, 13000, 13000, 13000, 13000, 12860, 12860, 12860, 12860, 12420, 12290, 12290, 12290, 11850,
      11650, 11650, 11650, 11650, 11650, 11650, 11650, 11650, 11650, 11650, 11650, 11650, 11650, 11650, 7450, 7100]⟩

/-- Table 7-12: remaining thickness across the table. -/
theorem test_thickness :
    [0, 4000, 8075, 8250, 16000, 16420].map slot2.thickness = [13200, 12860, 11820, 11750, 7100, 7100] ∧
      slot2.beyond 16000 = false ∧ slot2.beyond 16420 = true := by decide +kernel

/-! ### Tracks (chapter 8) -/

/-- Table 8-2: predictions. -/
theorem test_predict :
    let t := trackOf 42 .confirmed 138000 5280000 (-60000) 80200 0
    t.predict 80250 7 = 135000 ∧ t.predict 80300 7 = 132000 ∧ t.predict 80180 7 = 139200 ∧
      t.predict 81700 8 = 138000 := by decide +kernel

/-- Tables 8-6 and 8-7, scan 4: the glint opens track 44 in slot 3, and track 43 takes its second hit. -/
theorem test_clusterListArrival :
    holds
      (exec .clusterListArrival
        { running with
          tracks :=
            { slots :=
                [some (trackOf 41 .confirmed 120000 5300000 0 80150 0),
                  some (trackOf 42 .confirmed 141000 5280000 (-60000) 80150 0),
                  some (trackOf 43 .tentative (-200000) 5310000 0 80150 0), none, none, none]
              nextId := 44 }
          paths :=
            { toTrack :=
                [⟨headerAt 80200 .increasing 7 noZone,
                  [mergedAt 0 (-199000) 5310000, mergedAt 1 120000 5300000, mergedAt 2 129000 5290000,
                    mergedAt 3 138000 5280000]⟩] } })
      (fun t => t.tracks.live.map (fun k => (k.id, k.stagger, k.slope)) ==
          [(41, 120000, 0), (42, 138000, -60000), (43, -199000, 5000), (44, 129000, 0)] &&
        t.tracks.nextId == 45 && t.tracks.counters.births == 1) = true := by decide +kernel

/-- R138: the CONFIRMED and COASTING tracks go to the stop list, in slot order. -/
theorem test_drainClose :
    holds
      (exec .drainCloseRequest
        { running with
          paths := { drainRequest := true }
          tracks :=
            { slots := [some (trackOf 4 .tentative 0 0 0 0 0), none, some (trackOf 9 .coasting 0 0 0 70 1), none, none,
                some (trackOf 5 .confirmed 0 0 0 80 0)]
              nextId := 10, last := some ⟨90, .increasing, 0⟩ } })
      (fun t => t.paths.toSpan == [.stop ⟨[⟨9, .stop, 0, 70, 90, 5, none⟩, ⟨5, .stop, 0, 80, 90, 5, none⟩],
          some ⟨90, .increasing, 0⟩⟩] && t.tracks.live == [] && t.tracks.nextId == 10) = true := by decide +kernel

/-! ### Span unit (chapter 9) -/

/-- Table 9-2: bin indexes. -/
theorem test_binIndex :
    [84999, 85000, -1, -1000, -1001].map (binIndex 1000) = [84, 85, -1, -1, -2] := by decide +kernel

/-- Table 9-3: close causes, of a bin in zone entry 57, epoch 7, index 84, with the scan register at INCREASING and 7. -/
theorem test_closeCause :
    let b := binAt84 (some (viewOf 57 0)) 7
    let u : SpanUnit := { prevSense := .increasing, prevEpoch := 7 }
    let cause (number : Option Word16) (epoch : Byte) (d : Int) (sense : Sense) (flush : Bool) :=
      let h := headerAt d sense epoch ⟨number.map fun n => viewOf n 0, 0, flush⟩
      binCloseCause (deviceCause u h) 1000 h b
    cause (some 57) 7 84950 .increasing false = none ∧ cause (some 57) 7 85010 .increasing false = some .grid ∧
      cause (some 58) 7 85010 .increasing false = some .zone ∧
      cause (some 57) 7 84980 .decreasing false = some .reversal ∧
      cause (some 58) 8 85700 .increasing true = some .jump ∧ cause none 7 84960 .increasing true = some .zone := by
  decide +kernel

/-- The span unit with one open bin and one scan of one entry. -/
def spanAt (d : Int) (limit : Int) (runs : List Run) (e : TrackEntry) : State :=
  { running with
    span := { bins := [binAt84 (some (viewOf 57 limit)) 0], runs := runs }
    paths := { toSpan := [.tracks ⟨headerAt d .increasing 0 ⟨some (viewOf 57 limit), 0, false⟩, [e], false, 1⟩] } }

/-- R146, R148, R151: a GRID close gives a WIRE record, and a hit beyond the limit opens a STAGGER run. -/
theorem test_trackListArrival :
    holds (exec .trackListArrival (spanAt 85010 100 [] (.continuing 1 .confirmed (some (mergedAt 0 150 0))))) (fun t =>
      t.out.records.map (·.kind) == [0x75, 0x71] && t.span.bins.map (·.index) == [85] &&
        t.span.runs == [⟨1, .stagger, 57, 500, 85010, 85010, 150, 85010, 1, 0⟩] &&
        t.paths.reports == [.runOpened 57, .scanFinished 1]) = true := by decide +kernel

/-- R158, R181: the stop list closes the bin, and the drain ends in STANDBY; with a report on its way the span closed report
waits for it. -/
theorem test_stopListArrival :
    let s (reports : List SpanReport) : State :=
      { running with
        cmd := { running.cmd with op := .draining, drain := .waitingSpan }
        span := { bins := [binAt84 none 0] }
        zones := { inFlight := 1 }
        paths := { toSpan := [.stop ⟨[⟨1, .stop, 0, 70, 90, 5, none⟩], none⟩], reports := reports } }
    holds (exec .stopListArrival (s [])) (fun t =>
      t.out.records.map (·.kind) == [0x75, 0x71, 0x72, 0x75] && t.cmd.op == .standby && (t.port .h0).state == .idle &&
        t.span.bins == []) = true ∧
    holds (exec .stopListArrival (s [.scanFinished 1])) (fun t =>
      t.cmd.op == .draining && t.paths.spanClosed &&
        holds (exec .scanFinishedReport t) (fun u =>
          u.cmd.op == .standby && u.zones.inFlight == 0 && !u.paths.spanClosed)) = true := by decide +kernel

/-! ### Trunk (chapter 10) -/

/-- A part with n records held, one of them STATUS at the place given, and the link down. -/
def recordsHeld (n : Nat) (flag notice : Bool) : State :=
  { running with out := { records := List.replicate n wireRecord, lossFlag := flag, notice := notice } }

/-- Table 10-4, row 3: a WIRE record refused at 52 issues the notice. -/
theorem test_refusal_notice :
    let t := offerA (recordsHeld 52 false true) wireRecord
    t.out.occupancy = 53 ∧ t.out.lossFlag = false ∧ t.out.notice = false ∧ t.out.counters.refusedA = 1 ∧
      t.out.counters.admitted = 1 := by decide +kernel

/-- Table 10-4, row 5: a refusal with the notice disarmed. -/
theorem test_refusal_silent :
    let t := offerA (recordsHeld 54 false false) wireRecord
    t.out.occupancy = 54 ∧ t.out.lossFlag = true ∧ t.out.counters.refusedA = 1 := by decide +kernel

/-- Table 10-4: link-up starts the oldest record. -/
theorem test_linkUp :
    holds (exec .linkUp (recordsHeld 2 false false)) (fun t => t.out.linkUp && t.out.tx == .record) = true := by
  decide +kernel

/-- R167: a cut frame stays at the head and is counted. -/
theorem test_linkDown :
    holds
      (exec .linkDown { running with out := { records := [wireRecord], linkUp := true, tx := .record } })
      (fun t => t.out.records == [wireRecord] && t.out.tx == .free && t.out.counters.restarted == 1 &&
        t.out.counters.linkDowns == 1) = true := by decide +kernel

/-- R164, R166: the end of a STATUS record re-arms the notice, and the raw frame follows when no record is held. -/
theorem test_trunkEnd :
    holds
      (exec .trunkEndDelimiter
        { running with
          out := { records := [⟨kindStatus, 0, []⟩], raw := [wireRecord], notice := false, linkUp := true
                   tx := .record } })
      (fun t => t.out.records == [] && t.out.notice && t.out.tx == .raw && t.out.counters.sent == 1) = true := by
  decide +kernel

/-! ### Commands (chapter 11) -/

/-- The payload of the last record. -/
def lastPayload (t : State) : List Byte := (t.out.records.getLast?.map (·.payload)).getD []

/-- R175: the identity block. -/
theorem test_identify :
    holds (exec (.identify 0 5 []) State.reset) (fun t =>
      lastPayload t == [0x01, 5, 0, 0, 0x45, 0x04, 0x40, 3, 0, 0x0F, 0]) = true := by decide +kernel

/-- Table 10-12: GET_STATE has cause 0 and an occupancy that counts its own reservation. -/
theorem test_getState :
    holds (exec (.getState 0 5 []) State.reset) (fun t =>
      (lastPayload t).length == 36 && (lastPayload t).take 6 == [0x02, 5, 0, 0, 0, 0] &&
        (lastPayload t).drop 20 == [0, 2, 0, 0, 0, 0, 0, 0, 0, 0, 0, 0, 0, 0, 0, 0]) = true := by decide +kernel

/-- Table 11-4: group 6 has 19 counters, and this frame is the first good one; group 7 is none. -/
theorem test_getCounters :
    holds (exec (.getCounters 0 5 [6]) State.reset) (fun t =>
      (lastPayload t).length == 5 + 4 * 19 && (lastPayload t).take 9 == [0x03, 5, 0, 0, 6, 0, 0, 0, 1]) = true ∧
    holds (exec (.getCounters 0 5 [7]) State.reset) (fun t => lastPayload t == [0x03, 5, 0x11, 0]) = true := by
  decide +kernel

/-- R176: commands taken reads 1 after the clear. -/
theorem test_clearCounters :
    holds
      (exec (.clearCounters 0 5 []) { State.reset with odo := { oda := false, odb := false, counters := ⟨1, 2, 3, 4⟩ } })
      (fun t => t.odo.counters == {} && t.cmd.counters == { taken := 1 } && t.out.counters == { admitted := 1 }) =
      true := by decide +kernel

/-- R177: a mask that drops H3. -/
theorem test_setHeads :
    holds (exec (.setHeads 0 5 [7]) State.reset) (fun t =>
      (t.port .h3).state == .disabled && t.out.records.map (·.kind) == [0x75, 0x75, 0x61]) = true := by decide +kernel

/-- The arguments of a calibration set that passes, for H1 with head id 0x55. -/
def calArgs (weight : Nat) : List Byte :=
  [1] ++ (((List.range 17).map fun i => intBytes32 (1000 * (i : Int) - 8000)).flatten) ++
    (((List.range 17).map fun i => intBytes32 (1000 * (i : Int) + 1)).flatten) ++ intBytes32 1000000 ++ intBytes32 0 ++
    intBytes32 0 ++ byte weight ++ [0, 0] ++ natBytes16 0 ++ natBytes16 2047 ++ natBytes16 0 ++ natBytes16 4095 ++ [0x55]

/-- R85, R86: a set that passes is stored with its head id; a weight of 0 fails at field 38. -/
theorem test_loadHeadCal :
    holds (exec (.loadHeadCal 0 5 (calArgs 1)) State.reset) (fun t =>
      (t.port .h1).headId == 0x55 && t.geo.cal.h1.loaded && lastPayload t == [0x11, 5, 0, 0, 1, 0x55]) = true ∧
    holds (exec (.loadHeadCal 0 5 (calArgs 0)) State.reset) (fun t => lastPayload t == [0x11, 5, 0x11, 38]) = true := by
  decide +kernel

/-- R85: C[1] equal to C[0] fails at 2, C[3] out of line at 4, col_hi below col_lo at 42. -/
theorem test_loadHeadCal_first :
    let fails (at_ : Nat) (b : List Byte) (i : Byte) : Bool :=
      holds (exec (.loadHeadCal 0 5 ((calArgs 1).take at_ ++ b ++ (calArgs 1).drop (at_ + b.length))) State.reset)
        (fun t => lastPayload t == [0x11, 5, 0x11, i])
    fails 5 (intBytes32 (-8000)) 2 = true ∧ fails 13 (intBytes32 (-6000)) 4 = true ∧
      fails 152 (natBytes16 2 ++ natBytes16 1) 42 = true := by decide +kernel

/-- The arguments of a wire type for a slot, falling by 100 µm from an entry. -/
def wireArgs (slot : Byte) (top : Int) : List Byte :=
  [slot] ++ intBytes32 12000 ++ intBytes32 500 ++ (((List.range 33).map fun j => intBytes32 (top - 100 * (j : Int))).flatten)

/-- R113, R114: a wire type that passes; a first entry above the nominal thickness fails at field 3. -/
theorem test_loadWireType :
    holds (exec (.loadWireType 0 5 (wireArgs 7 12000)) State.reset) (fun t =>
      (t.merge.slots.map (·.loaded)) == [false, false, false, false, false, false, false, true] &&
        lastPayload t == [0x12, 5, 0, 0, 7]) = true ∧
    holds (exec (.loadWireType 0 5 (wireArgs 7 12001)) State.reset) (fun t => lastPayload t == [0x12, 5, 0x11, 3]) =
      true := by decide +kernel

/-- The arguments of the default run parameters with a direction code and a motion unit id. -/
def paramArgs (direction motionId : Byte) : List Byte :=
  natBytes32 183501 ++ [0] ++ natBytes32 1000 ++ natBytes32 25000 ++ natBytes32 100000 ++ natBytes32 8000 ++
    natBytes32 50000 ++ [3, 8, 3] ++ natBytes32 5000 ++ natBytes32 5000 ++ natBytes32 100 ++ [direction, 0] ++
    natBytes32 3900000 ++ [0, 0, 0, 0, motionId]

/-- R178, R71: a direction that would change under a loaded queue answers ORDER with detail 13. -/
theorem test_setRunParams :
    holds (exec (.setRunParams 0 5 (paramArgs 1 9)) State.reset) (fun t =>
      t.cmd.params == { direction := .decreasing, motionId := 9 } && lastPayload t == [0x13, 5, 0, 0]) = true ∧
    holds (exec (.setRunParams 0 5 (paramArgs 1 9)) { State.reset with zones := { entries := zonesOf57 } }) (fun t =>
      t.cmd.params == {} && lastPayload t == [0x13, 5, 0x14, 13]) = true := by decide +kernel

/-- R26. -/
theorem test_setScanSpacing :
    holds (exec (.setScanSpacing 0 5 [1, 0]) State.reset) (fun t =>
      t.odo.spacing == 256 && t.odo.divider == 256 && lastPayload t == [0x14, 5, 0, 0]) = true ∧
    holds (exec (.setScanSpacing 0 5 [1, 1]) State.reset) (fun t =>
      t.odo.spacing == 16 && lastPayload t == [0x14, 5, 0x11, 0]) = true := by decide +kernel

/-- Table 3-2: a plan at the limit is accepted and one beyond it refused, with H0 and H1 enabled. -/
theorem test_setStrobe :
    let s := { State.reset with roof := { State.reset.roof with enabled := ⟨true, true, false, false⟩ } }
    let args (guard : Byte) : List Byte := [8, 52, 7, 208, 7, 208, 7, 208, 0, guard, 0, 0]
    holds (exec (.setStrobe 0 5 (args 0)) s) (fun t =>
      t.seq.active == ⟨Quad.replicate 2000, 0, 0⟩ && lastPayload t == [0x15, 5, 1, 0, 0x0F, 0xA0, 0]) = true ∧
    holds (exec (.setStrobe 0 5 (args 1)) s) (fun t => lastPayload t == [0x15, 5, 0x16, 0]) = true := by decide +kernel

/-- R23: the epoch wraps from 255 to 0; −2^31 mm is refused. -/
theorem test_setDistance :
    let s := { State.reset with odo := { oda := false, odb := false, units := 7, saturated := true, epoch := 255 } }
    holds (exec (.setDistance 0 5 (intBytes32 (-250000))) s) (fun t =>
      t.odo.mm == -250000 && t.odo.fraction == 0 && !t.odo.saturated && lastPayload t == [0x16, 5, 0, 0, 0]) = true ∧
    holds (exec (.setDistance 0 5 [0x80, 0, 0, 0]) s) (fun t => t.odo.units == 7 && lastPayload t == [0x16, 5, 0x11, 0]) =
      true := by decide +kernel

/-- The bytes of a zone entry with id 7 over a stretch, of kind OVERLAP, with a wire type. -/
def zoneBytes (lo hi : Int) (wire : Byte) : List Byte :=
  [0, 0, 0, 7] ++ intBytes32 lo ++ intBytes32 hi ++ [1, 2, wire] ++ List.replicate 16 0

/-- R69, R70: two entries that touch are admitted; the second one before the first answers ORDER, detail 1. -/
theorem test_zoneAppend :
    holds (exec (.zoneAppend 0 5 ([2] ++ zoneBytes 10 20 0 ++ zoneBytes 20 30 0)) ready) (fun t =>
      t.zones.entries.map (fun e => (e.lo, e.hi, e.number)) == [(10, 20, 0), (20, 30, 1)] &&
        lastPayload t == [0x20, 5, 0, 0, 0, 0, 2]) = true ∧
    holds (exec (.zoneAppend 0 5 ([2] ++ zoneBytes 20 30 0 ++ zoneBytes 10 20 0)) ready) (fun t =>
      t.zones.entries == [] && lastPayload t == [0x20, 5, 0x14, 1]) = true := by decide +kernel

/-- R69: a first entry that is passed answers STALE_ZONE, detail 0, before a second one with hi at lo answers BAD_ARGUMENT. -/
theorem test_zoneAppend_first :
    holds (exec (.zoneAppend 0 5 ([2] ++ zoneBytes (-9) 0 0 ++ zoneBytes 20 20 0)) ready) (fun t =>
      lastPayload t == [0x20, 5, 0x15, 0]) = true ∧
    holds (exec (.zoneAppend 0 5 ([2] ++ zoneBytes (-9) 1 0 ++ zoneBytes 20 20 0)) ready) (fun t =>
      lastPayload t == [0x20, 5, 0x11, 1]) = true ∧
    holds (exec (.zoneAppend 0 5 ([1] ++ zoneBytes (-9) 0 1)) ready) (fun t => lastPayload t == [0x20, 5, 0x12, 0]) =
      true := by decide +kernel

/-- R72: with no scan in flight the ZONE records come at once, then STATUS, then the reply. -/
theorem test_zoneFlush :
    holds (exec (.zoneFlush 0 5 []) { running with zones := { entries := zonesOf57 } }) (fun t =>
      t.zones.entries == [] && t.zones.flushMark && t.zones.exhausted && t.zones.counters.flushed == 3 &&
        t.out.records.map (·.kind) == [0x75, 0x74, 0x74, 0x74, 0x75, 0x61] && lastPayload t == [0x21, 5, 0, 0, 3]) =
      true := by decide +kernel

/-- R16: a frame is placed and started; a second one answers QUEUE_FULL. -/
theorem test_headPass :
    holds (exec (.headPass 0 5 [2, 0xAB]) State.reset) (fun t =>
      (t.port .h2).relay == some ⟨0x42, 2, [0xAB]⟩ && (t.port .h2).tx == .config && lastPayload t == [0x30, 5, 0, 0]) =
      true ∧
    holds
      (exec (.headPass 0 5 [2, 0xAB])
        (State.reset.onPort .h2 fun c => { c with relay := some ⟨0x42, 2, [1]⟩, tx := .config }))
      (fun t => lastPayload t == [0x30, 5, 0x13, 0]) = true := by decide +kernel

/-- Table 11-7: START, tag 9; and R179: without a loaded set for H0 it answers NOT_LOADED, detail 0. -/
theorem test_start :
    holds (exec (.start 0 9 []) ready) (fun t =>
      t.cmd.op == .running && (t.port .h3).state == .seeking && t.out.records.map (·.kind) == [0x75, 0x75, 0x61] &&
        lastPayload t == [0x40, 9, 0, 0]) = true ∧
    holds (exec (.start 0 9 []) State.reset) (fun t => t.cmd.op == .standby && lastPayload t == [0x40, 9, 0x12, 0]) =
      true := by decide +kernel

/-- Table 11-7: STOP, tag 10, with the last scan in the pipeline; STOP, tag 12, in STANDBY. -/
theorem test_stop :
    holds
      (exec (.stop 0 10 [])
        { withContexts [collecting 3 ⟨true, false, false, false⟩] 4 with cmd := { running.cmd with tally := 1 } })
      (fun t => t.cmd.op == .draining && t.cmd.drain == .waitingAssembly && lastPayload t == [0x41, 10, 0, 0]) = true ∧
    holds (exec (.stop 0 12 []) State.reset) (fun t =>
      t.cmd.counters.refused == 1 && lastPayload t == [0x41, 12, 0x10, 0]) = true := by decide +kernel

/-- R183: the reply comes first, with one context aborted and the old state RUNNING, then STATUS. -/
theorem test_reset :
    holds (exec (.reset 0 5 []) (withContexts [collecting 3 ⟨true, false, false, false⟩] 4)) (fun t =>
      t.out.records.map (·.kind) == [0x61, 0x75] && (t.out.records.map (·.payload)).head? == some [0x4F, 5, 0, 0, 1, 1] &&
        t.cmd.op == .standby && t.asm.contexts == []) = true := by decide +kernel

/-- R183: RESET keeps scans aborted and adds the two contexts freed; the counter stops at its greatest value. -/
theorem test_softAborted :
    let two := [collecting 3 ⟨true, false, false, false⟩, collecting 4 ⟨true, false, false, false⟩]
    holds (exec (.reset 0 5 []) { running with asm := { contexts := two, aborted := 7, released := 5 } }) (fun t =>
      t.asm == { aborted := 9 }) = true ∧
    holds (exec (.reset 0 5 []) { running with asm := { contexts := two, aborted := 0xFFFFFFFE } }) (fun t =>
      t.asm == { aborted := 0xFFFFFFFF }) = true := by decide +kernel

/-- R174: an unlisted code; R173: another station's command. -/
theorem test_unknownCommand :
    holds (exec (.unknownCommand 0 0x77 5 [1]) State.reset) (fun t => lastPayload t == [0x77, 5, 0x18, 0]) = true ∧
    holds (exec (.unknownCommand 1 0x77 5 [1]) State.reset) (fun t =>
      t.cmd.counters.misaddressed == 1 && t.out == State.reset.out) = true := by decide +kernel

/-- R182: the line is held, nothing is queued, and no frame is received. -/
theorem test_hardReset :
    holds (exec .hardReset running) (fun t =>
      t.held && t.out.records == [] && holds (exec (.lineChange true false false) t) (fun u => u == t)) = true := by decide +kernel

/-- R182: the present mask becomes the enabled mask, and STATUS OPERATING_STATE is the first record. -/
theorem test_hardResetEnd :
    holds (exec (.hardResetEnd 5 ⟨true, false, true, false⟩ true false) running) (fun t =>
      (t.port .h1).state == .disabled && t.odo.oda && t.cmd.station == 5 &&
        t.out.records.map (fun f => (f.kind, f.address, f.payload.take 6)) == [(0x75, 5, [1, 0, 1, 0, 1, 0])]) = true := by
  decide +kernel

/-- On an empty queue one microsecond passes; a command at the front is run with the queue's rest (log entry 1). -/
theorem test_step :
    holds (step State.reset) (fun t => t.timebase == 1) = true ∧
      holds (step { State.reset with pending := [.linkUp, .linkDown] }) (fun t =>
        t.out.linkUp && t.pending == [.linkDown]) = true := by decide +kernel

/-- No row of the table has bits: no word spells a command. -/
theorem test_noWord : decodeTableWord 16 0xABCD = none ∧ State.reset.withFetchWord 16 0xABCD = State.reset := by
  decide +kernel

/-! ### Witnesses: states and operands that meet the hypotheses of the statements, clause by clause -/

/-- A part that holds the reset line. -/
def heldPart : State := { State.reset with held := true }

/-- A RUNNING part with n records held. -/
def full (n : Nat) : State := { running with out := { records := List.replicate n wireRecord } }

/-- A RUNNING part with one port changed. -/
def withPort (s : State) (p : Port) (f : RoofPort → RoofPort) : State := s.onPort p f

theorem taken_reset {args : List Byte} (h : args.length + 2 ≤ 320) : Taken State.reset 0 args :=
  ⟨rfl, rfl, h, rfl, by decide +kernel⟩

theorem taken_running {args : List Byte} (h : args.length + 2 ≤ 320) : Taken running 0 args :=
  ⟨rfl, rfl, h, rfl, by decide +kernel⟩

/-- An empty queue: before the first slot's time, at it, and with everything due. -/
theorem witness_StepRunsFront :
    let before := { slotsAt320 with timebase := 319 }
    let q : SlotSequence := ⟨4100, 0, some ⟨.h1, 320, 300⟩, [⟨.h3, 620, 180⟩]⟩
    let all :=
      { withContexts [collecting 3 ⟨true, false, false, false⟩] 4 with
        timebase := 1000000
        seq := { slots := some q, busy := some ⟨0, 820⟩ }
        motion := { held := some ⟨0, 0, 0, false, false, false, 0⟩ } }
    before.pending = [] ∧ before.held = false ∧ holds (step before) (fun t => t.timebase == 320 && t.pending == []) = true ∧
      holds (step slotsAt320) (fun t => t.timebase == 320 && t.pending == [.slotStart .h1]) = true ∧
      holds (step all) (fun t => t.pending ==
        [.exposureEnd .h1, .slotStart .h3, .busyWindowClose, .deadlineReached 3, .silenceTimerExpiry .h0,
          .silenceTimerExpiry .h1, .silenceTimerExpiry .h2, .silenceTimerExpiry .h3, .holdAgeExpiry]) = true := by
  decide +kernel

theorem witness_HeldPartIsSilent :
    heldPart.held = true ∧ Instr.busyWindowClose ≠ .linkUp ∧ Instr.busyWindowClose ≠ .linkDown ∧
      Instr.busyWindowClose ≠ .hardReset ∧ ∀ a m x y, Instr.busyWindowClose ≠ .hardResetEnd a m x y := by
  refine ⟨rfl, by decide +kernel, by decide +kernel, by decide +kernel, ?_⟩
  intros
  simp

theorem witness_SoftResetValues :
    (Taken State.reset 0 [] ∧ State.reset.cmd.op = .standby) ∧ Taken running 0 [] ∧ running.cmd.op ≠ .standby :=
  ⟨⟨taken_reset (by decide +kernel), rfl⟩, taken_running (by decide +kernel), by decide +kernel⟩

/-- A frame of the longest payload, good and with a wrong kind, and one that fails its kind's length rule. -/
theorem witness_BuiltFrameIsIntact :
    (List.replicate 320 (0 : Byte)).length ≤ 320 ∧ kindLengthOk 0x61 (List.replicate 320 0) = true ∧
      (0x61 : Byte) ∉ [kindCommand] ∧ kindLengthOk kindMotion [] = false ∧
      (∃ a : Byte, some (1 : Byte) = some a ∧ a ≠ 0) ∧ (0x61 : Byte) ∈ [(0x61 : Byte)] := by
  refine ⟨by decide +kernel, by decide +kernel, by decide +kernel, by decide +kernel, ⟨1, rfl, by decide +kernel⟩, by decide +kernel⟩

/-- Every ending; each class of failure at the end delimiter; a good one there, which is no event; and a row of a good frame that
finds its own beginning open, another frame's, and one with a violation. -/
theorem witness_FailedFrameIsOnlyCounted :
    let fed (bytes : List Byte) : OpenFrame := ({} : OpenFrame).feed false bytes
    let f : Frame := ⟨kindMotion, 0, List.replicate 13 0⟩
    let row : Instr := .motionFrame 0 (List.replicate 13 0)
    let opened (w : OpenFrame) := { running with motion := { frame := some w } }
    running.held = false ∧
      checkClosed (running.portRule (.roof .h3)) (fed (List.replicate 5 0)) false = .failed .framing ∧
      checkClosed (running.portRule .motion) (fed (List.replicate 6 0)) false = .failed .check ∧
      checkClosed (running.portRule .trunk) (fed (frameWire ⟨0x61, 0, []⟩)) false = .failed .kind ∧
      checkClosed (running.portRule (.roof .h3)) (fed (frameWire ⟨kindHeadReply, 2, [0]⟩)) false = .failed .address ∧
      checkClosed (running.portRule .motion) (fed (frameWire f)) false = .good f ∧
      row.wellFormed = true ∧ row.carries = some f ∧ receiverOf row = some .motion ∧
      (opened (fed [kindMotion, 0])).openFrame .motion = some (fed [kindMotion, 0]) ∧
      (fed [kindMotion, 0]).stored <+: frameWire f ∧ ¬((fed [kindProfile]).stored <+: frameWire f) ∧
      (({} : OpenFrame).feed true []).violation = true := by
  decide +kernel

theorem witness_ProfileDiscarded :
    State.reset.held = false ∧ (State.reset.port .h1).frame = none ∧
      checkIntact (State.reset.portRule (.roof .h1)) ⟨kindProfile, 1, [0, 0, 0, 0]⟩ =
        .good ⟨kindProfile, 1, [0, 0, 0, 0]⟩ ∧
      (State.reset.port .h1).state = .idle ∧
      ((withPort State.reset .h1 fun c => { c with state := .disabled }).port .h1).state = .disabled := by decide +kernel

/-- An accepted profile that forwards, and one that is stray; and the same port SEEKING and LOST, with 59 records held. -/
theorem witness_ProfileJudged :
    let s := withContexts [collecting 700 ⟨true, true, false, false⟩] 701
    let seeking := withPort (full 59) .h0 fun c => { c with state := .seeking }
    let lost := withPort (full 59) .h0 fun c => { c with state := .lost, silence := none }
    s.held = false ∧ (s.port .h0).frame = none ∧ (s.port .h0).state = .active ∧
      checkIntact (s.portRule (.roof .h0)) ⟨kindProfile, 0, [2, 0xBC, 0, 0]⟩ = .good ⟨kindProfile, 0, [2, 0xBC, 0, 0]⟩ ∧
      checkIntact (s.portRule (.roof .h0)) ⟨kindProfile, 0, [9, 9, 3, 0]⟩ = .good ⟨kindProfile, 0, [9, 9, 3, 0]⟩ ∧
      classify s.asm.contexts s.seq.scanCounter .h0 (profileScan [2, 0xBC, 0, 0]) = .accepted ∧
      classify s.asm.contexts s.seq.scanCounter .h0 (profileScan [9, 9, 3, 0]) = .stray ∧
      seeking.held = false ∧ (seeking.port .h0).frame = none ∧ (seeking.port .h0).state = .seeking ∧
      (lost.port .h0).state = .lost ∧ seeking.out.records.length + (if seeking.out.reserved = true then 1 else 0) < 60 ∧
      checkIntact (seeking.portRule (.roof .h0)) ⟨kindProfile, 0, [0, 0, 0, 0]⟩ = .good ⟨kindProfile, 0, [0, 0, 0, 0]⟩ := by
  decide +kernel

/-- 58 records held: room for both the STATUS record and the reply. -/
theorem witness_ReplyWakesPort :
    let seeking := withPort (full 58) .h0 fun c => { c with state := .seeking }
    let lost := withPort (full 58) .h0 fun c => { c with state := .lost, silence := none }
    (full 58).held = false ∧ (seeking.port .h0).frame = none ∧ (full 58).out.reserved = false ∧ (full 58).out.records.length < 59 ∧
      checkIntact (seeking.portRule (.roof .h0)) ⟨kindHeadReply, 0, [1]⟩ = .good ⟨kindHeadReply, 0, [1]⟩ ∧
      (seeking.port .h0).state = .seeking ∧ (lost.port .h0).state = .lost := by decide +kernel

theorem witness_ReplyRelayed :
    let off := withPort running .h0 fun c => { c with state := .disabled, silence := none }
    (full 59).held = false ∧ ((full 59).port .h0).frame = none ∧ ((full 59).port .h0).state = .active ∧
      (full 59).out.records.length + (if (full 59).out.reserved = true then 1 else 0) < 60 ∧
      checkIntact ((full 59).portRule (.roof .h0)) ⟨kindHeadReply, 0, List.replicate 64 1⟩ =
        .good ⟨kindHeadReply, 0, List.replicate 64 1⟩ ∧
      (State.reset.port .h0).state = .idle ∧ (off.port .h0).state = .disabled ∧
      checkIntact (off.portRule (.roof .h0)) ⟨kindHeadReply, 0, [1]⟩ = .good ⟨kindHeadReply, 0, [1]⟩ := by
  decide +kernel

theorem witness_DownlinkGoesOn :
    running.held = false ∧
      ((withPort running .h0 fun c => { c with tx := .trigger ⟨0x41, 0, []⟩ }).port .h0).tx ≠ .idle ∧
      ((withPort running .h0 fun c => { c with tx := .config, relay := some ⟨0x42, 0, [1]⟩ }).port .h0).tx ≠ .idle := by
  decide +kernel

/-- The timer at its timeout exactly, with 59 records held: no context; and two, one that only this port is awaited in. -/
theorem witness_SilenceExpires :
    let s := { full 59 with timebase := 100000 }
    let c := { s with asm := { contexts := [collecting 1 ⟨false, false, true, false⟩, collecting 2 ⟨true, false, true, false⟩] } }
    s.held = false ∧ (s.port .h2).silence = some 0 ∧ s.cmd.params.silenceTimeout * 1000 ≤ (s.timebase - 0).toNat ∧
      (∀ c ∈ s.asm.contexts, c.complete = false → c.awaited.get .h2 = false) ∧
      (∀ c, s.asm.contexts.head? = some c → c.complete = false) ∧
      s.out.records.length + (if s.out.reserved = true then 1 else 0) < 60 ∧ (c.asm.contexts.map (·.scan)).Nodup ∧
      holds (exec (.silenceTimerExpiry .h2) c) (fun t =>
        t.asm.contexts.map (·.scan) == [2] && t.paths.toZone.map (·.missing) == [⟨true, true, true, false⟩]) = true := by
  refine ⟨rfl, rfl, by decide +kernel, ?_, ?_, by decide +kernel, by decide +kernel, by decide +kernel⟩
  · intro c hc
    simp [full, running] at hc
    exact absurd hc (by simp [State.reset])
  · intro c hc
    exact absurd hc (by simp [full, running, State.reset])

/-- The odometer at a place where the next step ends exactly on the limit. -/
def nearLimit : State :=
  { running with
    odo := { oda := false, odb := false, units := 2147483647 * 65536 - 183501, divider := 2 } }

theorem witness_LineChangeCounts :
    nearLimit.held = false ∧ (true ≠ nearLimit.odo.oda ∧ true ≠ nearLimit.odo.odb) ∧
      (true = nearLimit.odo.oda ↔ false ≠ nearLimit.odo.odb) ∧ nearLimit.cmd.op = .running ∧ 2 ≤ nearLimit.odo.divider ∧
      nearLimit.odo.units + nearLimit.cmd.params.stepLength ≤ 2147483647 * 65536 ∧
      -(2147483647 * 65536) ≤ nearLimit.odo.units + nearLimit.cmd.params.stepLength := by decide +kernel

/-- One unit beyond each limit, with the flag clear and set, outside RUNNING and in it. -/
theorem witness_DistanceSaturates :
    let s := { State.reset with odo := { oda := false, odb := false, units := 2147483647 * 65536 - 183500 } }
    let d := { State.reset with odo := { oda := false, odb := false, units := -(2147483647 * 65536) + 183500 } }
    let r := { running with odo := { s.odo with divider := 2 } }
    s.held = false ∧ (true = s.odo.oda ↔ false ≠ s.odo.odb) ∧ (false = d.odo.oda ↔ true ≠ d.odo.odb) ∧
      s.cmd.op ≠ .running ∧ (2147483647 * 65536 : Int) < s.odo.units + (s.cmd.params.stepLength : Int) ∧
      d.odo.units - (d.cmd.params.stepLength : Int) < -(2147483647 * 65536) ∧ r.cmd.op = .running ∧ 2 ≤ r.odo.divider ∧
      holds (exec (.lineChange true false false) s) (fun t => t.odo.sense == .increasing && t.odo.saturated) = true ∧
      holds (exec (.lineChange false true false) d) (fun t => t.odo.sense == .decreasing && t.odo.saturated) = true ∧
      holds (exec (.lineChange true false false) r) (fun t => t.odo.divider == 1 && t.odo.saturated) = true ∧
      s.odo.saturated = false ∧ s.out.records.length + (if s.out.reserved = true then 1 else 0) < 60 := by
  decide +kernel

/-- The flag set; and clear, with a step that ends exactly on the limit, and with one that ends one unit beyond it. -/
theorem witness_DividerRaisesTrigger :
    let s := { running with odo := { oda := true, odb := false, divider := 1, saturated := true } }
    let c := { nearLimit with odo := { nearLimit.odo with divider := 1 } }
    let b := { full 59 with odo := { c.odo with units := c.odo.units + 1 } }
    s.held = false ∧ (true = s.odo.oda ↔ true ≠ s.odo.odb) ∧ s.cmd.op = .running ∧ s.odo.divider = 1 ∧
      s.paths.spanClosed = false ∧ s.odo.saturated = true ∧
      c.held = false ∧ (true = c.odo.oda ↔ false ≠ c.odo.odb) ∧ c.cmd.op = .running ∧ c.odo.divider = 1 ∧
      c.paths.spanClosed = false ∧ c.odo.saturated = false ∧
      c.odo.units + (c.cmd.params.stepLength : Int) = 2147483647 * 65536 ∧
      b.held = false ∧ b.cmd.op = .running ∧ b.odo.divider = 1 ∧ b.paths.spanClosed = false ∧ b.odo.saturated = false ∧
      (2147483647 * 65536 : Int) < b.odo.units + (b.cmd.params.stepLength : Int) ∧
      b.out.records.length + (if b.out.reserved = true then 1 else 0) < 60 ∧
      holds (exec (.lineChange true false true) b) (fun t =>
        t.odo.saturated && t.seq.onWay == 1 && t.out.records.length == 60) = true := by decide +kernel

/-- Qualities GOOD, DEGRADED and INVALID; a roll at its limit and one beyond it. -/
theorem witness_MotionFrameTaken :
    let payload (roll : Int) (q : Byte) : List Byte := intBytes32 roll ++ List.replicate 8 0 ++ [q]
    running.held = false ∧ running.motion.frame = none ∧ (payload 50000 0).length = 13 ∧ natField (payload 50000 0) 12 1 ≤ 1 ∧
      natField (payload 50001 1) 12 1 ≤ 1 ∧ intField (payload 50001 1) 0 4 = 50001 ∧
      intField (payload (-50000) 1) 0 4 = -50000 ∧ 2 ≤ natField (payload 0 2) 12 1 := by decide +kernel

/-- The busy window open for its last microsecond; and closed, with four contexts in use. -/
theorem witness_TriggerOverrun :
    let s := sequencerAt 819 (some ⟨0, 820⟩) 1
    let t :=
      { sequencerAt 820 (some ⟨0, 820⟩) 1 with
        asm := { contexts := List.replicate 4 (collecting 0 ⟨true, false, false, false⟩) } }
    s.held = false ∧ 0 < s.seq.onWay ∧ s.paths.spanClosed = false ∧
      (∃ w, s.seq.busy = some w ∧ (s.timebase - w.trigger).toNat < w.length) ∧
      t.held = false ∧ 0 < t.seq.onWay ∧ t.paths.spanClosed = false ∧ ¬(∃ w, t.seq.busy = some w ∧ (t.timebase - w.trigger).toNat < w.length) ∧
      4 ≤ t.asm.contexts.length := by
  refine ⟨rfl, by decide +kernel, rfl, ⟨⟨0, 820⟩, rfl, by decide +kernel⟩, rfl, by decide +kernel, rfl, ?_,
    by decide +kernel⟩
  rintro ⟨w, hw, h⟩
  obtain rfl : (⟨0, 820⟩ : BusyWindow) = w := Option.some.inj hw
  revert h
  decide

/-- The window closes at this microsecond, three contexts are in use, and no sample, or one at the motion max age, is held. And
every port LOST, in a drain that waits for assembly with no context in use. -/
theorem witness_TriggerStartsScan :
    let s :=
      { sequencerAt 6000 (some ⟨5180, 820⟩) 1 with
        asm := { contexts := List.replicate 3 (collecting 0 ⟨true, false, false, false⟩) }
        motion := { held := some ⟨1, 2, 3, false, false, false, 1000⟩, sinceStart := true } }
    let lost : RoofPort := { activePort 0 with state := .lost, silence := none }
    let e :=
      { running with
        roof := ⟨Quad.replicate true, Quad.replicate lost⟩
        seq := { onWay := 1 }
        cmd := { running.cmd with op := .draining, drain := .waitingAssembly } }
    s.held = false ∧ 0 < s.seq.onWay ∧ s.paths.spanClosed = false ∧
      (∀ w, s.seq.busy = some w → w.length ≤ (s.timebase - w.trigger).toNat) ∧ s.asm.contexts.length < 4 ∧
      (∃ p, s.roof.enabled.get p = true ∧ ((s.port p).state = .seeking ∨ (s.port p).state = .active)) ∧
      s.motion.sinceStart = true ∧ s.motion.held = some ⟨1, 2, 3, false, false, false, 1000⟩ ∧
      (sequencerAt 0 none 1).motion.sinceStart = false ∧
      e.held = false ∧ 0 < e.seq.onWay ∧ e.paths.spanClosed = false ∧ e.seq.busy = none ∧ e.asm.contexts.length < 4 ∧
      (∀ p, ¬(e.roof.enabled.get p = true ∧ ((e.port p).state = .seeking ∨ (e.port p).state = .active))) ∧
      (∀ k ∈ e.asm.contexts, k.scan ≠ e.seq.scanCounter) ∧
      holds (exec .triggerArrival e) (fun t =>
        t.cmd.drain == .waitingPipeline && t.cmd.tally == 1 && t.paths.toZone.map (·.missing) == [Quad.replicate true]) =
          true := by
  refine ⟨rfl, by decide +kernel, rfl, ?_, by decide +kernel, ⟨.h0, by decide +kernel⟩, rfl, rfl, rfl, rfl, by decide +kernel,
    rfl, rfl, by decide +kernel, ?_, by decide +kernel, by decide +kernel⟩
  · intro w hw
    obtain rfl : (⟨5180, 820⟩ : BusyWindow) = w := Option.some.inj hw
    decide
  · intro p
    cases p <;> decide +kernel

theorem witness_SlotBegins :
    slotsAt320.held = false ∧ slotsAt320.seq.slots = some ⟨4100, 0, none, [⟨.h1, 320, 300⟩, ⟨.h3, 640, 180⟩]⟩ ∧
      (320 : Nat) ≤ (slotsAt320.timebase - 0).toNat := by decide +kernel

/-- Each end at its first microsecond. -/
theorem witness_TimedEnds :
    let q : SlotSequence := ⟨4100, 0, some ⟨.h3, 640, 180⟩, []⟩
    let s :=
      { running with
        timebase := 820, seq := { slots := some q, busy := some ⟨0, 820⟩, lines := ⟨false, false, false, true⟩ } }
    let m := { running with timebase := 1000000, motion := { held := some ⟨0, 0, 0, false, false, false, 0⟩ } }
    s.held = false ∧ s.seq.slots = some q ∧ q.current = some ⟨.h3, 640, 180⟩ ∧ 640 + 180 ≤ (s.timebase - q.trigger).toNat ∧
      s.seq.busy = some ⟨0, 820⟩ ∧ 820 ≤ (s.timebase - 0).toNat ∧ m.held = false ∧
      m.motion.held = some ⟨0, 0, 0, false, false, false, 0⟩ ∧ 1000000 ≤ (m.timebase - 0).toNat := by decide +kernel

/-- A part that is draining. -/
def draining (s : State) (progress : DrainProgress) : State :=
  { s with cmd := { s.cmd with op := .draining, drain := progress } }

/-- A match, and no match at 1 and 32,767 behind and at 0 and 32,768. -/
theorem witness_VerdictOfProfile :
    let cs := [collecting 700 ⟨true, true, false, false⟩]
    cs.find? (fun k => k.scan == 700) = some (collecting 700 ⟨true, true, false, false⟩) ∧
      (∀ c ∈ cs, c.scan ≠ 701) ∧ (∀ c ∈ cs, c.scan ≠ (702 - 32767 : Word16)) ∧
      (∀ c ∈ cs, c.scan ≠ 702) ∧ (∀ c ∈ cs, c.scan ≠ (702 - 32768 : Word16)) := by decide +kernel

/-- Another port still awaited; and none, in RUNNING, in a drain that waits for assembly and in one that waits for the span
unit. -/
theorem witness_AcceptedProfileDelivers :
    let c := collecting 700 ⟨true, true, false, false⟩
    let last := collecting 700 ⟨true, false, false, false⟩
    let prof : Profile := ⟨.h0, 700, .failed, []⟩
    (withContexts [c] 701).asm.contexts = [c] ∧ c.complete = false ∧ c.scan = prof.scan ∧ c.strobed.get prof.port = true ∧
      c.deliveries.get prof.port = .absent ∧ (withContexts [c] 701).cmd.op = .running ∧
      (∃ p, p ≠ prof.port ∧ c.awaited.get p = true) ∧
      (assemble (draining (withContexts [last] 701) .waitingAssembly) .accepted prof).cmd.drain = .waitingPipeline ∧
      (assemble (draining (withContexts [last] 701) .waitingSpan) .accepted prof).cmd.lateMark = true ∧
      (∀ p, p ≠ prof.port → last.awaited.get p = false) := by
  refine ⟨rfl, rfl, rfl, rfl, rfl, rfl, ⟨.h1, by decide +kernel, rfl⟩, by decide +kernel, by decide +kernel, ?_⟩
  intro p hp
  cases p <;> first | rfl | exact absurd rfl hp

/-- At the deadline exactly, with a scan after it; and as the last context of a drain that waits for assembly. -/
theorem witness_DeadlineCompletes :
    let c := collecting 696 ⟨true, false, false, false⟩
    let k := collecting 697 ⟨true, false, false, false⟩
    let s := { withContexts [c, k] 698 with timebase := 5000 }
    s.held = false ∧ s.asm.contexts = c :: [k] ∧ c.complete = false ∧ (∀ x ∈ [k], x.scan ≠ c.scan) ∧
      (∀ x, [k].head? = some x → x.complete = false) ∧
      (c.deadline - c.trigger).toNat ≤ (s.timebase - c.trigger).toNat ∧ s.cmd.op = .running ∧
      holds (exec (.deadlineReached 696) { draining (withContexts [c] 698) .waitingAssembly with timebase := 5000 })
        (fun t => t.cmd.drain == .waitingPipeline && t.asm.contexts == []) = true := by
  refine ⟨rfl, rfl, rfl, by decide +kernel, ?_, by decide +kernel, rfl, by decide +kernel⟩
  intro x hx
  obtain rfl : collecting 697 ⟨true, false, false, false⟩ = x := Option.some.inj hx
  rfl

/-- A zone queue unit with these entries and one released scan at a distance. -/
def resolving (d : Int) (es : List ZoneEntry) : State :=
  { running with paths := { toZone := [releasedAt 1 d] }, zones := { entries := es } }

/-- At lo, inside; one below lo, in no zone; and at hi of the only entry, which empties the store with 59 records held. -/
theorem witness_ScanResolved :
    let e := zone 101 100 200 0 none
    (∀ d, (resolving d [e]).held = false ∧ (resolving d [e]).paths.toZone = releasedAt 1 d :: []) ∧
      e.lo ≤ 100 ∧ 100 < e.hi ∧ ¬(e.lo ≤ 99 ∧ 99 < e.hi) ∧
      ([e].takeWhile fun x => decide (x.hi ≤ 200)) = [e] ∧ (resolving 200 [e]).cmd.op = .running ∧
      (full 59).out.records.length + (if (full 59).out.reserved = true then 1 else 0) < 60 := by
  refine ⟨fun d => ⟨rfl, rfl⟩, by decide +kernel, by decide +kernel, by decide +kernel, by decide +kernel, rfl, by decide +kernel⟩

theorem witness_ReportsReachZones :
    let s := { running with paths := { reports := [.runOpened 21] } }
    let c : ClosingEntry := ⟨zone 1 0 1 0 none, .skipped, 0, 5⟩
    let f := { full 59 with paths := { reports := [.scanFinished 5] }, zones := { closing := [c] } }
    s.held = false ∧ s.paths.spanClosed = false ∧ s.paths.reports = .runOpened 21 :: [] ∧ f.held = false ∧
      f.paths.spanClosed = false ∧ f.paths.reports = .scanFinished 5 :: [] ∧
      f.out.records.length + (f.zones.closing.countP fun c => decide (c.tag = 5)) +
        (if f.out.reserved = true then 1 else 0) ≤ 60 := by decide +kernel

/-- A fraction of half a step, either sign; the first and the last knot; and a segment with a detection in the scan. -/
theorem witness_GeometryScanned :
    let g : Segment := ⟨1200, 1271, 2100, 180, false⟩
    let r : ResolvedScan := ⟨{ releasedAt 1 0 with deliveries := [⟨.h2, false, [g]⟩] }, noZone⟩
    let s :=
      { running with
        geo := { cal := (Quad.replicate CalSlot.unloaded).set .h2 ⟨true, calH2⟩ }, paths := { toGeo := [r] } }
    (0 : Int) < 2 ∧ roundDiv 3 2 = 2 ∧ roundDiv (-3) 2 = -2 ∧ 2 ≤ calH2.columns.length ∧
      interp calH2.columns 0 128 = 0 ∧ interp calH2.columns ((9 : Int) * 128 + 64) 128 = 24000 ∧
      s.held = false ∧ s.paths.toGeo = r :: [] ∧
      holds (exec .geometryScan s) (fun t => t.paths.toMerge.map (·.detections.length) == [1]) = true := by decide +kernel

/-- Tolerances at 0, and two clusters. -/
theorem witness_ClustersPartition :
    let a : Detection := ⟨.h0, 0, 0, 0, none, {}⟩
    let b : Detection := ⟨.h1, 0, 1, 0, none, {}⟩
    (0 : Int) ≤ 0 ∧ clusters 0 0 [a, b] = [] ++ [a] :: [b] :: [] := by decide +kernel

/-- Seventeen clusters, the farthest of which is dropped; one width in the table, and one beyond it. -/
theorem witness_RawListMerged :
    let det (i : Nat) : Detection :=
      ⟨.h0, i, 20000 * (i : Int), 0, if i = 0 then some 4000 else if i = 1 then some 16001 else none, {}⟩
    let l : RawList := ⟨headerAt 0 .increasing 0 noZone, (List.range 17).map det⟩
    let s :=
      { running with
        geo := { cal := calOf7 }, merge := { slots := slot2 :: List.replicate 7 WireSlot.unloaded }
        paths := { toMerge := [l] } }
    s.held = false ∧ s.paths.toMerge = l :: [] ∧
      (s.merge.slots.getD l.header.context.wireType WireSlot.unloaded).Valid ∧
      holds (exec .rawListArrival s) (fun t =>
        t.merge.counters.dropped == 1 && t.merge.counters.beyondTable == 1 &&
          t.paths.toTrack.map (fun c => (c.items.take 3).map (·.thickness)) == [[some 12860, some 7100, none]]) = true := by
  refine ⟨rfl, rfl, ⟨by decide +kernel, by decide +kernel, by decide +kernel, by decide +kernel, by decide +kernel⟩,
    by decide +kernel⟩

/-- A live track and a detection on the edge of both gates (lateral gate 25,000 µm, height gate 100,000 µm). -/
theorem witness_AssignmentGreedy :
    let params := State.reset.cmd.params
    let k := trackOf 41 .confirmed 120000 5300000 0 80150 0
    let m := mergedAt 0 145000 5400000
    let h := headerAt 80200 .increasing 7 noZone
    [some k, none][0]? = some (some k) ∧ m ∈ [m] ∧ m.stagger - k.stagger ≤ params.lateralGate ∧
      m.height - k.height ≤ params.heightGate ∧
      assign (candidates params h [some k, none] [m]) = [⟨25000, 0, 0⟩] := by decide +kernel

/-- A hit, a miss that ends its track, a TENTATIVE track that is dropped, a birth in the slot this frees and one that finds none; and
a drain that waits with a tally of 1. -/
theorem witness_ClusterListTracked :
    let hit := trackOf 41 .confirmed 120000 5300000 0 80150 0
    let missed := trackOf 42 .coasting 0 5300000 0 80150 7
    let tentative := trackOf 43 .tentative (-400000) 5300000 0 80150 0
    let far (i : Nat) := trackOf (50 + i) .confirmed (-500000) 5300000 0 80150 0
    let l : ClusterList :=
      ⟨headerAt 80200 .increasing 7 noZone,
        [mergedAt 0 120000 5300000, mergedAt 1 300000 5300000, mergedAt 2 330000 5300000, mergedAt 3 360000 5300000]⟩
    let s :=
      { running with
        cmd := { running.cmd with op := .draining, drain := .waitingPipeline, tally := 1 }
        tracks :=
          { slots := [some hit, some missed, some (far 0), some tentative, some (far 1), some (far 2)], nextId := 65535 }
        paths := { toTrack := [l] } }
    s.held = false ∧ s.paths.toTrack = l :: [] ∧ (l.items.map (·.index)).Nodup ∧ s.tracks.slots.length = 6 ∧
      assign (candidates s.cmd.params l.header s.tracks.slots l.items) = [⟨0, 0, 0⟩] ∧
      s.cmd.params.missLimit = 8 ∧ s.cmd.drain = .waitingPipeline ∧ s.cmd.tally ≤ 1 ∧
      holds (exec .clusterListArrival s) (fun t =>
        t.tracks.live.map (·.id) == [41, 65535, 50, 1, 51, 52] && t.tracks.nextId == 2 &&
          t.tracks.counters.fullDiscards == 1 && t.cmd.drain == .waitingSpan) = true := by decide +kernel

/-- Zone NONE with 59 records held; a zone that expects no wires; and one that expects two, where one hit opens a COUNT run, another
extends it, and two release it. -/
theorem witness_TrackListSpanned :
    let run (conforming : Nat) : Run := ⟨0, .count, 57, 500, 84000, 84000, 1, 84000, 1, conforming⟩
    let zoned (expected : Nat) : ZoneView := { viewOf 57 0 with expected := expected }
    let list (z : Option ZoneView) (hits : Nat) : TrackList := ⟨headerAt 84950 .increasing 0 ⟨z, 0, false⟩, [], false, hits⟩
    let s (count : Option Run) (z : Option ZoneView) (hits : Nat) :=
      { full 59 with span := { count := count }, paths := { toSpan := [.tracks (list z hits)] } }
    (∀ count z hits, (s count z hits).held = false ∧ (s count z hits).paths.toSpan = .tracks (list z hits) :: [] ∧
        (s count z hits).span.runs = []) ∧
      (run 0).kind = .count ∧ (full 59).out.records.length + (if (full 59).out.reserved = true then 1 else 0) < 60 ∧
      (zoned 0).expected = 0 ∧ (zoned 2).expected ≠ 0 ∧ running.cmd.params.releaseScans = 3 ∧
      holds (exec .trackListArrival (s (some (run 0)) none 0)) (fun t =>
        t.span.count == none && t.out.records.length == 60) = true ∧
      holds (exec .trackListArrival (s none (some (zoned 2)) 1)) (fun t =>
        t.span.count.isSome && t.paths.reports == [.runOpened 57, .scanFinished 1]) = true ∧
      holds (exec .trackListArrival (s (some (run 1)) (some (zoned 2)) 3)) (fun t =>
        t.span.count.map (fun r => (r.offending, r.conforming, r.worst)) == some (2, 0, 1)) = true ∧
      holds (exec .trackListArrival (s (some (run 2)) (some (zoned 2)) 2)) (fun t =>
        t.span.count == none && t.span.counters.runsReleased == 1) = true := by
  refine ⟨fun _ _ _ => ⟨rfl, rfl, rfl⟩, rfl, ?_, rfl, ?_, rfl, ?_, ?_, ?_, ?_⟩ <;> decide +kernel

/-- A RUNNING part with 51 records held and an open bin and STAGGER run of track 1, and a scan of one entry. -/
def entryScan (d : Int) (sense : Sense) (epoch : Byte) (number : Word16) (e : TrackEntry) : State :=
  { full 51 with
    span :=
      { bins := [binAt84 (some (viewOf 57 0)) 0], runs := [⟨1, .stagger, 57, 500, 84000, 84000, 150, 84000, 1, 0⟩] }
    paths := { toSpan := [.tracks ⟨headerAt d sense epoch ⟨some (viewOf number 0), 0, false⟩, [e], false, 0⟩] } }

/-- The hypotheses hold of every such state, whatever its entry; the last distance of the bin has no cause, and each cause has its
state; and the records of an ended track. -/
theorem witness_BinTakesScan :
    (∀ d sense epoch number e,
      (entryScan d sense epoch number e).held = false ∧
        (entryScan d sense epoch number e).paths.toSpan =
          .tracks ⟨headerAt d sense epoch ⟨some (viewOf number 0), 0, false⟩, [e], false, 0⟩ :: [] ∧
        (entryScan d sense epoch number e).span.bins.find? (fun k => decide (k.track = 1)) =
          some (binAt84 (some (viewOf 57 0)) 0) ∧
        (entryScan d sense epoch number e).span.count = none ∧ (viewOf number 0).expected = 0 ∧
        (entryScan d sense epoch number e).out.records.length +
          (if (entryScan d sense epoch number e).out.reserved = true then 1 else 0) < 52) ∧
    (84999 : Int) / 1000 = 84 ∧ (85000 : Int) / 1000 ≠ 84 ∧
      (1 : Byte) ≠ (entryScan 0 .increasing 1 57 (.continuing 1 .coasting none)).span.prevEpoch ∧
      Sense.decreasing ≠ (entryScan 0 .decreasing 0 57 (.continuing 1 .coasting none)).span.prevSense ∧
      (some 58 : Option Word16) ≠ some 57 ∧
      holds (exec .trackListArrival (entryScan 84950 .increasing 0 57 (.ended ⟨1, .misses, 0, 70, 84950, 5, none⟩)))
        (fun t => (t.out.records.drop 51).map (·.kind) == [kindWire, kindExceedance, kindTrackEnd]) = true := by
  refine ⟨fun _ _ _ _ _ => ⟨rfl, rfl, rfl, rfl, rfl, (by show 51 + 0 < 52; decide)⟩, by decide +kernel, by decide +kernel,
    by decide +kernel, by decide +kernel, by decide +kernel, by decide +kernel⟩

/-- A zone with every limit of R150 on. -/
def limited : ZoneView := ⟨57, 500, .plain, 0, 100, 1000, 2000, 9000⟩

/-- The span unit with the open bin of track 1 in that zone, some runs, and a scan with a hit. -/
def hitScan (runs : List Run) (m : Merged) : State :=
  { full 51 with
    span := { bins := [binAt84 (some limited) 0], runs := runs }
    paths :=
      { toSpan :=
          [.tracks ⟨headerAt 84950 .increasing 0 ⟨some limited, 0, false⟩, [.continuing 1 .confirmed (some m)], false, 1⟩] } }

/-- A hit at every limit conforms, and one beyond a limit offends, the four kinds apart; without a run one opens, and the third
conforming hit in a row releases one of each kind, in the kind order. -/
theorem witness_StaggerRunFollowsHits :
    let m (s h thickness : Int) : Merged := ⟨0, s, h, some thickness, none, {}⟩
    let run (kind : RunKind) : Run := ⟨1, kind, 57, 500, 84000, 84000, 150, 84000, 1, 2⟩
    let list (m : Merged) : TrackList :=
      ⟨headerAt 84950 .increasing 0 ⟨some limited, 0, false⟩, [.continuing 1 .confirmed (some m)], false, 1⟩
    let opens (m : Merged) (kinds : List RunKind) : Bool :=
      holds (exec .trackListArrival (hitScan [] m)) fun t => t.span.runs.map (·.kind) == kinds
    (∀ runs m,
      (hitScan runs m).held = false ∧ (hitScan runs m).paths.toSpan = .tracks (list m) :: [] ∧
        (hitScan runs m).span.bins.find? (fun k => decide (k.track = 1)) = some (binAt84 (some limited) 0) ∧
        (list m).header.epoch = (hitScan runs m).span.prevEpoch ∧
        (list m).header.sense = (hitScan runs m).span.prevSense ∧ (hitScan runs m).span.count = none ∧
        (hitScan runs m).cmd.params.releaseScans = 3) ∧
      limited.expected = 0 ∧
      ((runKinds.map run).Pairwise fun a b => ¬(a.track = b.track ∧ a.kind = b.kind)) ∧
      opens (m 100 1000 9000) [] = true ∧ opens (m (-100) 2000 9001) [] = true ∧
      opens (m 101 999 8999) [.stagger, .heightLow, .thickness] = true ∧
      opens (m (-101) 2001 9000) [.stagger, .heightHigh] = true ∧
      holds (exec .trackListArrival (hitScan (runKinds.map run) (m 100 1000 9000))) (fun t =>
        t.span.runs == [] && t.out.records.drop 51 == (runKinds.map run).map fun r =>
          exceedance running { r with conforming := 3 } .released) = true := by
  refine ⟨fun _ _ => ⟨rfl, rfl, rfl, rfl, rfl, rfl, rfl⟩, rfl, ?_, ?_, ?_, ?_, ?_, ?_⟩ <;> decide +kernel

/-- A drain close request; a stop list where the drain ends, where a scan is in assembly, and after a late release with the pipeline
busy and with it idle; and a span closed report that waits for a trigger, and for a report. -/
theorem witness_DrainCloses :
    let l : StopList := ⟨[⟨1, .stop, 0, 70, 90, 5, none⟩], none⟩
    let s := { running with paths := { drainRequest := true }, tracks := { last := some ⟨90, .increasing, 0⟩ } }
    let stopping (c : CommandUnit) (cs : List ScanContext) :=
      { full 45 with
        cmd := { c with op := .draining, drain := .waitingSpan }
        asm := { contexts := cs }, paths := { toSpan := [.stop l] } }
    let ends := stopping running.cmd []
    let assembling := stopping running.cmd [collecting 1 ⟨true, false, false, false⟩]
    let late := stopping { running.cmd with lateMark := true, tally := 1 } []
    let again := stopping { running.cmd with lateMark := true } []
    let trigger := { running with paths := { spanClosed := true }, seq := { onWay := 1 } }
    let report := { running with paths := { spanClosed := true, reports := [.scanFinished 1] } }
    s.held = false ∧ s.paths.drainRequest = true ∧ s.tracks.last = some ⟨90, .increasing, 0⟩ ∧ ends.held = false ∧
      ends.paths.toSpan = .stop l :: [] ∧ ends.paths.reports = [] ∧ ends.seq.onWay = 0 ∧ ends.cmd.drain = .waitingSpan ∧
      ends.asm.contexts = [] ∧ ends.cmd.lateMark = false ∧ (l.entries.map (·.id)).Nodup ∧ ends.span.runs = [] ∧
      ends.out.records.length + (if ends.out.reserved = true then 1 else 0) + 6 * l.entries.length < 52 ∧
      assembling.asm.contexts ≠ [] ∧ late.cmd.lateMark = true ∧ 0 < late.cmd.tally ∧ again.cmd.lateMark = true ∧
      again.cmd.tally = 0 ∧ trigger.held = false ∧ trigger.paths.spanClosed = true ∧ report.held = false ∧
      report.paths.spanClosed = true ∧ ActsBeforeSpanClosed trigger .triggerArrival ∧
      ActsBeforeSpanClosed report .scanFinishedReport :=
  ⟨rfl, rfl, rfl, rfl, rfl, rfl, rfl, rfl, rfl, rfl, by decide +kernel, rfl, by decide +kernel, by decide +kernel, rfl,
    by decide +kernel, rfl, rfl, rfl, rfl, rfl, rfl, .inl ⟨rfl, by decide +kernel⟩, .inr (.inr ⟨1, [], rfl, rfl⟩)⟩

/-- Occupancies at each threshold, with the notice armed and disarmed; and raw queues of 15 and 16 frames. -/
theorem witness_AdmissionByClass :
    (full 51).out.records.length < 52 ∧ (full 59).out.records.length < 60 ∧
      (52 ≤ (full 52).out.records.length ∧ (recordsHeld 52 false false).out.notice = false) ∧
      (60 ≤ (full 60).out.records.length ∧ (recordsHeld 60 false false).out.notice = false) ∧
      (52 ≤ (full 59).out.records.length ∧ (full 59).out.notice = true) ∧ (full 60).out.notice = true ∧
      ({ running.out with raw := List.replicate 15 wireRecord } : Output).raw.length < 16 ∧
      16 ≤ ({ running.out with raw := List.replicate 16 wireRecord } : Output).raw.length := by
  decide +kernel

theorem witness_TrunkSends :
    let r := { running with out := { records := [wireRecord], linkUp := true, tx := .record } }
    let w := { running with out := { raw := [wireRecord], linkUp := true, tx := .raw } }
    running.held = false ∧ r.out.tx = .record ∧ r.out.records = wireRecord :: [] ∧ w.out.tx = .raw ∧
      w.out.raw = wireRecord :: [] ∧ running.out.linkUp = false ∧ running.out.tx = .free ∧ r.out.linkUp = true := by
  decide +kernel

/-- A misaddressed command; 64 records held; a wrong length of every kind; and START in RUNNING. -/
theorem witness_CommandTurnedAway :
    running.held = false ∧ running.cmd.frame = none ∧ (Instr.start 0 5 []).wellFormed = true ∧
      (Instr.start 0 5 []).carries = some ⟨kindCommand, 0, 0x40 :: 5 :: []⟩ ∧
      (1 : Byte) ≠ running.cmd.station.setWidth 8 ∧ (0 : Byte) = running.cmd.station.setWidth 8 ∧
      64 ≤ (full 64).out.records.length + (if (full 64).out.reserved = true then 1 else 0) ∧
      ¬(64 ≤ (full 63).out.records.length + (if (full 63).out.reserved = true then 1 else 0)) ∧
      (0x20 : Byte) ∈ commandCodes ∧ lengthRight 0x20 ([9] ++ List.replicate 279 0) = false ∧
      lengthRight 0x40 [0] = false ∧ lengthRight 0x40 [] = true ∧ (0x40 : Byte) ∈ standbyCodes ∧
      running.cmd.op ≠ .standby := by decide +kernel

theorem witness_ReadingCommands :
    Taken running 0 [] ∧ (∀ g : Byte, Taken running 0 [g]) ∧ (3 : Byte) = BitVec.ofNat 8 (Port.index .h3) ∧
      6 < (7 : Byte).toNat ∧ Taken running 0 (List.replicate 318 0) ∧ (0x4E : Byte) ∉ commandCodes :=
  ⟨taken_running (by decide +kernel), fun _ => taken_running (by simp), by decide +kernel, by decide +kernel, taken_running (by decide +kernel),
    by decide +kernel⟩

theorem witness_CountersCleared :
    (Taken State.reset 0 [] ∧ State.reset.cmd.op = .standby) ∧ Taken running 0 [] ∧ running.cmd.op ≠ .standby :=
  witness_SoftResetValues

/-- Masks 15 and 16, a mask with an absent port, the same mask and another one. -/
theorem witness_HeadsSet :
    (∀ m : Byte, Taken State.reset 0 [m]) ∧ State.reset.cmd.op = .standby ∧ (15 : Byte).toNat ≤ 15 ∧
      (∀ p, State.reset.cmd.present.get p = true) ∧ ¬((16 : Byte).toNat ≤ 15) ∧
      (⟨true, true, true, true⟩ : PortSet) = State.reset.roof.enabled ∧
      (⟨true, true, true, false⟩ : PortSet) ≠ State.reset.roof.enabled ∧ (State.reset.port .h3).state = .idle ∧
      State.reset.out.records.length + 1 < 60 := by
  refine ⟨fun _ => taken_reset (by simp), rfl, by decide +kernel, fun p => by cases p <;> rfl, by decide +kernel, rfl, by decide +kernel, rfl,
    by decide +kernel⟩

theorem witness_TablesLoaded :
    (Taken State.reset 0 (calArgs 1) ∧ (calArgs 1).length = 161 ∧ (byteAt (calArgs 1) 0).toNat = Port.index .h1 ∧
      (calSet (calArgs 1)).Valid) ∧
    (Taken State.reset 0 (wireArgs 7 12000) ∧ (wireArgs 7 12000).length = 141 ∧
      (byteAt (wireArgs 7 12000) 0).toNat ≤ 7 ∧ (wireTypeArg (wireArgs 7 12000)).Valid) ∧
    State.reset.cmd.op = .standby ∧ ¬(calSet (calArgs 0)).Valid ∧ 7 < (byteAt (wireArgs 8 12000) 0).toNat ∧
      3 < (byteAt [4] 0).toNat ∧ FirstFailing (wireFieldFails 7 (wireTypeArg (wireArgs 7 12001))) 3 := by
  refine ⟨⟨taken_reset (by decide +kernel), by decide +kernel, by decide +kernel, ?_⟩, ⟨taken_reset (by decide +kernel), by decide +kernel, by decide +kernel, ?_⟩, rfl, ?_,
    by decide +kernel, by decide +kernel, Or.inr (by decide +kernel), ?_⟩
  · exact ⟨by unfold KnotsWithin; decide +kernel, by decide +kernel, by unfold KnotsWithin; decide +kernel,
      by decide +kernel, by decide +kernel, by decide +kernel, by decide +kernel, by decide +kernel, by decide +kernel,
      by decide +kernel⟩
  · exact ⟨by decide +kernel, by decide +kernel, by decide +kernel, by decide +kernel, by decide +kernel⟩
  · intro h
    exact absurd h.weight (by decide +kernel)
  · intro j hj
    match j, hj with
    | 0, _ => exact (by decide +kernel : ¬(7 < 7))
    | 1, _ => exact (by unfold Outside; decide +kernel : ¬Outside 1 30000 (wireTypeArg (wireArgs 7 12001)).nominal)
    | 2, _ => exact (by unfold Outside; decide +kernel : ¬Outside 100 2000 (wireTypeArg (wireArgs 7 12001)).step)

/-- All in range; a direction that would turn under a loaded queue; and field 20's predecessor, field 14, out of range. -/
theorem witness_RunParamsSet :
    let loaded := { State.reset with zones := { entries := zonesOf57 } }
    let wrong := (paramArgs 0 9).set 41 8
    (∀ a, Taken State.reset 0 (paramArgs a 9)) ∧ Taken loaded 0 (paramArgs 1 9) ∧ Taken State.reset 0 wrong ∧
      State.reset.cmd.op = .standby ∧ (paramArgs 1 9).length = 51 ∧ wrong.length = 51 ∧
      ((runParamsRanges (paramArgs 1 9)).map (·.2)) = List.replicate 21 true ∧
      (runParamsRanges wrong)[14]? = some (14, false) ∧
      ((runParamsRanges wrong).take 14).map (·.2) = List.replicate 14 true ∧
      (runParamsArg (paramArgs 1 9)).direction ≠ loaded.cmd.params.direction ∧ loaded.zones.entries ≠ [] := by
  refine ⟨fun a => ⟨rfl, rfl, ?_, rfl, by decide +kernel⟩, ⟨rfl, rfl, by decide +kernel, rfl, by decide +kernel⟩,
    ⟨rfl, rfl, by decide +kernel, rfl, by decide +kernel⟩, rfl,
    by decide +kernel, by decide +kernel, by decide +kernel, by decide +kernel, by decide +kernel, by decide +kernel, by decide +kernel⟩
  show 51 + 2 ≤ 320
  decide

theorem witness_SpacingSet :
    Taken running 0 [0, 1] ∧ natField [0, 0] 0 2 = 0 ∧ 1 ≤ natField [0, 1] 0 2 ∧ natField [1, 0] 0 2 ≤ 256 ∧
      256 < natField [1, 1] 0 2 := ⟨taken_running (by decide +kernel), by decide +kernel, by decide +kernel, by decide +kernel, by decide +kernel⟩

theorem witness_DistanceSet :
    Taken running 0 [0x80, 0, 0, 0] ∧ intField [0x80, 0, 0, 0] 0 4 = -2147483648 ∧
      intField [0x80, 0, 0, 1] 0 4 ≠ -2147483648 ∧ intField [0x7F, 0xFF, 0xFF, 0xFF] 0 4 = 2147483647 :=
  ⟨taken_running (by decide +kernel), by decide +kernel, by decide +kernel, by decide +kernel⟩

/-- A zero exposure, guards of 255 and 256, first delays of 1,000 and 1,001, lengths of 4,000 and 4,001. -/
theorem witness_StrobeSet :
    let args (e g d : Nat) : List Byte :=
      natBytes16 e ++ natBytes16 1000 ++ natBytes16 1 ++ natBytes16 1 ++ natBytes16 g ++ natBytes16 d
    (∀ e g d, Taken running 0 (args e g d) ∧ (args e g d).length = 12) ∧ natField (args 0 0 0) 0 2 = 0 ∧
      natField (args 1 255 0) 8 2 = 255 ∧ 255 < natField (args 1 256 0) 8 2 ∧ natField (args 1 0 1000) 10 2 = 1000 ∧
      1000 < natField (args 1 0 1001) 10 2 ∧ 2000 < natField (args 2001 0 1000) 0 2 ∧
      Plan.length ⟨⟨1698, 1000, 1, 1⟩, 100, 1000⟩ running.roof.enabled = 4000 ∧
      Plan.length ⟨⟨1699, 1000, 1, 1⟩, 100, 1000⟩ running.roof.enabled = 4001 := by
  refine ⟨fun e g d => ⟨⟨rfl, rfl, ?_, rfl, by decide +kernel⟩, rfl⟩, by decide +kernel, by decide +kernel, by decide +kernel, by decide +kernel, by decide +kernel, by decide +kernel,
    by decide +kernel, by decide +kernel⟩
  show 12 + 2 ≤ 320
  decide

/-- Two entries that touch on an empty queue with their wire type loaded; 63 entries held; and an unloaded wire type. -/
theorem witness_ZonesAppended :
    let args := [(2 : Byte)] ++ zoneBytes 0 20 0 ++ zoneBytes 20 30 0
    let bytes (j : Nat) : List Byte := (args.drop (1 + 31 * j)).take 31
    Taken ready 0 args ∧ lengthRight 0x20 args = true ∧ (byteAt args 0).toNat = 2 ∧
      ZoneArgLegal (bytes 0) ∧ ZoneArgLegal (bytes 1) ∧
      (∀ j < 2, (zoneEntryArg (bytes j)).wireType = 0) ∧ (ready.merge.slots[0]?.map (·.loaded)) = some true ∧
      ready.zones.entries.getLast? = none ∧ (zoneEntryArg (bytes 0)).hi ≤ (zoneEntryArg (bytes 1)).lo ∧
      (∀ j < 2, ready.odo.mm < (zoneEntryArg (bytes j)).hi) ∧ (List.replicate 62 (zone 1 0 1 0 none)).length + 2 ≤ 64 ∧
      ¬((List.replicate 63 (zone 1 0 1 0 none)).length + 2 ≤ 64) ∧
      (zoneEntryArg (zoneBytes 0 20 1)).wireType = 1 ∧ (ready.merge.slots[1]?.map (·.loaded)) = some false := by
  refine ⟨⟨rfl, rfl, by decide +kernel, rfl, by decide +kernel⟩, by decide +kernel, by decide +kernel, ?_, ?_,
    by decide +kernel, by decide +kernel, by decide +kernel, by decide +kernel, by decide +kernel, by decide +kernel,
    by decide +kernel, by decide +kernel, by decide +kernel⟩
  all_goals constructor <;> decide +kernel

/-- An empty queue; STANDBY; RUNNING with room for exactly the records; DRAINING with scans in flight. -/
theorem witness_ZonesFlushed :
    let s := { full 55 with zones := { entries := zonesOf57 } }
    Taken running 0 [] ∧ running.zones.entries.length = 0 ∧ Taken s 0 [] ∧ 0 < s.zones.entries.length ∧
      s.cmd.op = .running ∧ s.zones.inFlight = 0 ∧ s.out.records.length + 1 + s.zones.entries.length < 60 ∧
      State.reset.cmd.op = .standby := by
  refine ⟨taken_running (by decide +kernel), rfl, ⟨rfl, rfl, by decide +kernel, rfl, by decide +kernel⟩, by decide +kernel, rfl, rfl, by decide +kernel, rfl⟩

/-- Port index 4; a disabled port; an occupied slot; an empty one; 1 and 64 relay bytes. -/
theorem witness_HeadPassed :
    Taken running 0 (4 :: [1]) ∧ Taken running 0 (0 :: List.replicate 64 1) ∧ (List.replicate 64 (1 : Byte)).length ≤ 64 ∧
      3 < (4 : Byte).toNat ∧ (0 : Byte).toNat = Port.index .h0 ∧ running.roof.enabled.get .h0 = true ∧
      (running.port .h0).relay = none ∧ (sequencerAt 0 none 0).roof.enabled.get .h2 = false ∧
      ((withPort running .h0 fun c => { c with relay := some ⟨0x42, 0, [1]⟩, tx := .config }).port .h0).relay ≠ none := by
  refine ⟨taken_running (by decide +kernel), taken_running (by decide +kernel), by decide +kernel, by decide +kernel, by decide +kernel, rfl, rfl, rfl, by decide +kernel⟩

/-- A START that passes; no enabled port; H0 not loaded; and, with every set loaded, a priority that H0 and H1 share, a default wire
type that is not loaded, and a plan of 4,001 µs. -/
theorem witness_RunStarts :
    let shared : State := { ready with geo := { cal := ready.geo.cal.set .h1 (ready.geo.cal.get .h0) } }
    let unloaded : State := { ready with cmd := { ready.cmd with params := { defaultWire := 7 } } }
    let long : State := { ready with seq := { active := ⟨Quad.replicate 1000, 0, 1⟩ } }
    Taken ready 0 [] ∧ ready.cmd.op = .standby ∧ (∃ p, ready.roof.enabled.get p = true) ∧
      (∀ p, ready.roof.enabled.get p = true → (ready.geo.cal.get p).loaded = true) ∧
      (∀ p q, ready.roof.enabled.get p = true → ready.roof.enabled.get q = true → p ≠ q →
        (ready.geo.cal.get p).cal.priority ≠ (ready.geo.cal.get q).cal.priority) ∧
      (∃ w, ready.merge.slots[ready.cmd.params.defaultWire]? = some w ∧ w.loaded = true) ∧
      ready.seq.active.length ready.roof.enabled ≤ 4000 ∧ ready.out.records.length + 1 < 60 ∧
      (∀ p, ¬(Quad.replicate false : PortSet).get p = true) ∧ State.reset.roof.enabled.get .h0 = true ∧
      ¬(State.reset.geo.cal.get .h0).loaded = true ∧
      Taken shared 0 [] ∧ Taken unloaded 0 [] ∧ Taken long 0 [] ∧
      (∀ p, shared.roof.enabled.get p = true → (shared.geo.cal.get p).loaded = true) ∧
      (shared.geo.cal.get .h0).cal.priority = (shared.geo.cal.get .h1).cal.priority ∧
      unloaded.merge.slots[unloaded.cmd.params.defaultWire]? = some WireSlot.unloaded ∧
      long.seq.active.length long.roof.enabled = 4001 := by
  have taken : ∀ s : State, s.held = false → s.cmd.frame = none → s.cmd.station = 0 → s.out = State.reset.out →
      Taken s 0 [] := fun s a b c d => ⟨a, b, by decide, by rw [c]; rfl, by rw [d]; decide +kernel⟩
  refine ⟨taken _ rfl rfl rfl rfl, rfl, ⟨.h0, rfl⟩, fun p _ => by cases p <;> rfl, ?_, ⟨_, rfl, rfl⟩, by decide +kernel,
    by decide +kernel, fun p => by cases p <;> decide, rfl, by decide +kernel, taken _ rfl rfl rfl rfl,
    taken _ rfl rfl rfl rfl, taken _ rfl rfl rfl rfl, fun p _ => by cases p <;> rfl, rfl, rfl, by decide +kernel⟩
  intro p q _ _ h
  cases p <;> cases q <;> first | exact absurd rfl h | decide

theorem witness_RunStops :
    Taken State.reset 0 [] ∧ State.reset.cmd.op = .standby ∧ Taken running 0 [] ∧ running.cmd.op = .running ∧
      running.asm.contexts = [] ∧ running.cmd.tally = 0 ∧ running.out.records.length + 1 < 60 ∧
      (withContexts [collecting 1 ⟨true, false, false, false⟩] 2).asm.contexts ≠ [] :=
  ⟨taken_reset (by decide +kernel), rfl, taken_running (by decide +kernel), rfl, rfl, rfl, by decide +kernel, by decide +kernel⟩

theorem witness_ResetIsLegal : running.pending = [] ∧ running.out.linkUp = false := by decide +kernel

/-- The RUNNING part of these tests meets every invariant, and it takes a step. -/
theorem witness_Kept :
    Capacity running ∧ PortsLegal running ∧ LinesLegal running ∧ ContextsLegal running ∧ TracksLegal running ∧
      ZonesLegal running ∧ OdometerLegal running ∧ PlansLegal running ∧ RunsLegal running ∧ SpanKeyed running ∧
      ∃ t, step running = .next t := by
  refine ⟨⟨?_, by decide, by decide, by decide, rfl, by decide, by decide, by decide, by decide, by decide⟩, ⟨?_, ?_⟩, ?_,
    ⟨by decide, ?_, ?_, ?_, ?_, ?_⟩, ⟨by decide, by decide, by decide, by decide, by decide, by decide⟩,
    ⟨by decide, ?_, List.Pairwise.nil, by decide⟩, ⟨by decide, by decide, by decide, by decide⟩,
    ⟨⟨?_, by decide, by decide⟩, ?_, ?_, ?_, ?_, ?_⟩, ⟨by decide, by decide, ?_⟩,
    ⟨by decide, List.Pairwise.nil, ?_⟩, ⟨_, rfl⟩⟩
  · intro r w h
    cases r with
    | roof p => cases p <;> cases (show (none : Option OpenFrame) = some w from h)
    | motion => cases (show (none : Option OpenFrame) = some w from h)
    | trunk => cases (show (none : Option OpenFrame) = some w from h)
  · intro p
    cases p <;> exact ⟨by decide, by decide, by decide, by decide, by decide⟩
  · intro p _
    cases p <;> rfl
  · intro p
    cases p <;> decide
  · intro i h
    exact absurd h (by simp [running, State.reset])
  all_goals first
    | (intro p
       cases p <;> decide +kernel)
    | (intro c hc
       exact absurd hc (by simp [running, State.reset]))
    | (intro l rest h
       exact absurd h (by simp [running, State.reset]))
    | decide +kernel

/-- Track 1 with its bin open, whose end is on its way with the confirmation of track 2. -/
def handingOver : State :=
  { running with
    tracks := { slots := [none, some (trackOf 2 .confirmed 0 0 0 0 0)] ++ List.replicate 4 none, nextId := 3 }
    span := { bins := [binAt84 none 7] }
    paths :=
      { toSpan :=
          [.tracks
            ⟨headerAt 85000 .increasing 7 noZone,
              [.ended ⟨1, .misses, 0, 84000, 85000, 5, none⟩, .confirmed 2 (mergedAt 0 0 0)], false, 1⟩] }
    pending := [.trackListArrival] }

/-- The lists on their way lead from the open bin to the table; and the step takes them. -/
theorem witness_SpanFollows :
    TracksLegal handingOver ∧ SpanFollows handingOver ∧
      holds (step handingOver) (fun t => t.span.bins.map (·.track) == [2] && t.paths.toSpan == []) = true := by
  refine ⟨⟨rfl, by decide, by decide, by decide, by decide, by decide⟩,
    ⟨by decide, List.Pairwise.nil, ⟨by decide, by decide, by decide, by decide⟩, ?_⟩, by decide +kernel⟩
  intro id
  exact Iff.rfl

/-- R148, R160: a track confirmed in a lower slot under the id of one that ends: the bin reported closes, the other stays open. -/
theorem test_sameId :
    let s : State :=
      { handingOver with
        paths :=
          { toSpan :=
              [.tracks
                ⟨headerAt 85000 .increasing 7 noZone,
                  [.confirmed 1 (mergedAt 0 0 0), .ended ⟨1, .misses, 0, 84000, 85000, 5, none⟩], false, 1⟩] } }
    holds (step s) (fun t =>
      t.span.bins.map (·.first) == [85000] && t.span.counters.binsOpened == 1 && t.span.counters.binsClosed == 1 &&
        (t.out.records.map (·.kind)) == [kindStatus, kindWire, kindTrackEnd]) = true := by decide +kernel

/-- A drain that waits for a report of its last scan, with the stop list taken and an entry in the closing list. -/
def lastReport : State :=
  { running with
    cmd := { running.cmd with op := .draining, drain := .waitingSpan }
    zones := { inFlight := 1, lastScan := 9, closing := [⟨zone 1 0 1 0 none, .skipped, 0, 9⟩] }
    paths := { reports := [.scanFinished 9], spanClosed := true } }

/-- The part in STANDBY and that part meet DrainLegal; with its report, the latter enters STANDBY; and STANDBY takes a step. -/
theorem witness_DrainLegal :
    DrainLegal { State.reset with pending := [.scanResolution] } ∧
      DrainLegal { lastReport with pending := [.scanFinishedReport] } ∧
      holds (step { lastReport with pending := [.scanFinishedReport] }) (fun t =>
        t.cmd.op == .standby && t.zones.closing == [] && t.zones.inFlight == 0) = true ∧
      ∃ t, step { State.reset with pending := [.scanResolution] } = .next t := by
  refine ⟨⟨by decide, rfl, rfl, fun k h => ?_, by decide, rfl, fun h => absurd h (by decide), by decide⟩,
    ⟨by decide, rfl, rfl, ?_, by decide, rfl, ?_, fun h => absurd h (by decide)⟩, by decide +kernel, ⟨_, rfl⟩⟩
  · cases (show (none : Option Word16) = some k from h)
  · intro k h
    exact (Option.some.inj h).symm
  · intro _ _
    refine ⟨rfl, fun _ => by decide, fun _ => rfl, ?_⟩
    intro before l rest h
    exact absurd h (by simp [lastReport])

/-- Its counters balance, no counter has saturated, and its step is none that clears the counters. -/
theorem witness_Balances :
    PortBalance running ∧ GeometryBalance running ∧ MergeBalance running ∧ MotionBalance running ∧
      TriggerBalance running ∧ TrackBalance running ∧ DrainLegal running ∧
      (∀ c, ({ running with pending := [.linkUp] } : State).pending.head? = some c → clearsCounters c = false) ∧
      running.out.counters.admitted.toNat < Config.counterMax ∧ running.out.counters.sent.toNat < Config.counterMax ∧
      Taken running 0 [] ∧ (Taken State.reset 0 [] ∧ State.reset.cmd.op = .standby) := by
  refine ⟨fun p _ => ?_, fun p _ => ?_, fun _ => ?_, fun _ => by decide +kernel,
    ⟨fun _ => by decide +kernel, fun _ => by decide +kernel⟩,
    ⟨fun _ => by decide +kernel, fun _ => by decide +kernel, fun _ => by decide +kernel, ?_⟩,
    ⟨by decide, rfl, rfl, fun k h => ?_, by decide, rfl, fun h => absurd h (by decide), by decide⟩, ?_, by decide +kernel,
    by decide +kernel, taken_running (by decide +kernel), taken_reset (by decide +kernel), rfl⟩
  · cases p <;> rfl
  · cases p <;> exact ⟨rfl, by decide⟩
  · exact ⟨rfl, rfl, rfl⟩
  · intro l h
    exact absurd h (by simp [running, State.reset])
  · cases (show (none : Option Word16) = some k from h)
  · intro c h
    obtain rfl : Instr.linkUp = c := Option.some.inj h
    rfl

end Sys2Proof.Tests
end

section
/-! SUPPORT. What the operations leave alone, said once for each of them by OnlyChanges, and what a row of the table changes
at most. -/

namespace Sys2Proof.Machine

set_option Elab.async false

/-! ### Nothing changes but some parts -/

theorem OnlyChanges.rfl {parts : List Part} {s : State} : OnlyChanges parts s s :=
  ⟨fun p _ => by cases p <;> exact Eq.refl _, Eq.refl _⟩

theorem Agree.trans {s t u : State} {p : Part} (h : Agree s t p) (k : Agree t u p) : Agree s u p := by
  cases p <;> exact Eq.trans k h

theorem OnlyChanges.mono {parts more : List Part} {s t : State} (h : OnlyChanges parts s t)
    (hs : parts ⊆ more := by decide) : OnlyChanges more s t :=
  ⟨fun p hp => h.1 p fun k => hp (hs k), h.2⟩

/-- A last operation that changes only some of the parts that may change. -/
theorem OnlyChanges.last {parts more : List Part} {s t u : State} (k : OnlyChanges parts t u) (h : OnlyChanges more s t)
    (hs : parts ⊆ more := by decide) : OnlyChanges more s u :=
  ⟨fun p hp => (h.1 p hp).trans (k.1 p fun hk => hp (hs hk)), k.2.trans h.2⟩

theorem OnlyChanges.ite {parts : List Part} {s t u : State} {c : Prop} [Decidable c] (h : OnlyChanges parts s t)
    (k : OnlyChanges parts s u) : OnlyChanges parts s (if c then t else u) := by
  split
  · exact h
  · exact k

theorem OnlyChanges.foldl {α : Type} {parts : List Part} {f : State → α → State} (h : ∀ s a, OnlyChanges parts s (f s a))
    (l : List α) (s : State) : OnlyChanges parts s (l.foldl f s) := by
  induction l generalizing s with
  | nil => exact .rfl
  | cons a l ih => exact .last (ih _) (h s a) (List.Subset.refl _)

theorem State.onRoof_changes (s : State) (f : Roof → Roof) : OnlyChanges [.roof] s (s.onRoof f) :=
  ⟨fun p h => by cases p <;> simp_all [Agree], rfl⟩

theorem State.onMotion_changes (s : State) (f : MotionPort → MotionPort) : OnlyChanges [.motion] s (s.onMotion f) :=
  ⟨fun p h => by cases p <;> simp_all [Agree], rfl⟩

theorem State.onOdo_changes (s : State) (f : Odometer → Odometer) : OnlyChanges [.odo] s (s.onOdo f) :=
  ⟨fun p h => by cases p <;> simp_all [Agree], rfl⟩

theorem State.onSeq_changes (s : State) (f : Sequencer → Sequencer) : OnlyChanges [.seq] s (s.onSeq f) :=
  ⟨fun p h => by cases p <;> simp_all [Agree], rfl⟩

theorem State.onAsm_changes (s : State) (f : Assembler → Assembler) : OnlyChanges [.asm] s (s.onAsm f) :=
  ⟨fun p h => by cases p <;> simp_all [Agree], rfl⟩

theorem State.onPaths_changes (s : State) (f : Paths → Paths) : OnlyChanges [.paths] s (s.onPaths f) :=
  ⟨fun p h => by cases p <;> simp_all [Agree], rfl⟩

theorem State.onZones_changes (s : State) (f : ZoneQueue → ZoneQueue) : OnlyChanges [.zones] s (s.onZones f) :=
  ⟨fun p h => by cases p <;> simp_all [Agree], rfl⟩

theorem State.onGeo_changes (s : State) (f : Geometry → Geometry) : OnlyChanges [.geo] s (s.onGeo f) :=
  ⟨fun p h => by cases p <;> simp_all [Agree], rfl⟩

theorem State.onMerge_changes (s : State) (f : MergeWear → MergeWear) : OnlyChanges [.merge] s (s.onMerge f) :=
  ⟨fun p h => by cases p <;> simp_all [Agree], rfl⟩

theorem State.onTracks_changes (s : State) (f : TrackTable → TrackTable) : OnlyChanges [.tracks] s (s.onTracks f) :=
  ⟨fun p h => by cases p <;> simp_all [Agree], rfl⟩

theorem State.onSpan_changes (s : State) (f : SpanUnit → SpanUnit) : OnlyChanges [.span] s (s.onSpan f) :=
  ⟨fun p h => by cases p <;> simp_all [Agree], rfl⟩

theorem State.onOut_changes (s : State) (f : Output → Output) : OnlyChanges [.out] s (s.onOut f) :=
  ⟨fun p h => by cases p <;> simp_all [Agree], rfl⟩

theorem State.onCmd_changes (s : State) (f : CommandUnit → CommandUnit) : OnlyChanges [.cmd] s (s.onCmd f) :=
  ⟨fun p h => by cases p <;> simp_all [Agree], rfl⟩

theorem State.onPort_changes (s : State) (p : Port) (f : RoofPort → RoofPort) : OnlyChanges [.roof] s (s.onPort p f) :=
  s.onRoof_changes _

theorem State.countPort_changes (s : State) (p : Port) (f : PortCounters → PortCounters) :
    OnlyChanges [.roof] s (s.countPort p f) :=
  s.onRoof_changes _

theorem offerA_changes (s : State) (f : Frame) : OnlyChanges [.out] s (offerA s f) := by
  rw [offerA_out]; exact s.onOut_changes _

theorem offerB_changes (s : State) (f : Frame) : OnlyChanges [.out] s (offerB s f) := by
  rw [offerB_out]; exact s.onOut_changes _

theorem offerStatus_changes (s : State) (c : StatusCause) : OnlyChanges [.out] s (offerStatus s c) := by
  rw [offerStatus_out]; exact s.onOut_changes _

theorem offerRaw_changes (s : State) (f : Frame) : OnlyChanges [.out] s (offerRaw s f) := by
  rw [offerRaw_out]; exact s.onOut_changes _

/-! ### Receivers -/

theorem State.countRx_changes (s : State) (r : Receiver) (x : RxResult) : OnlyChanges [receiverPart r] s (s.countRx r x) := by
  cases r with
  | roof p => exact s.countPort_changes p _
  | motion => exact s.onMotion_changes _
  | trunk => exact s.onCmd_changes _

theorem State.withOpenFrame_changes (s : State) (r : Receiver) (w : Option OpenFrame) :
    OnlyChanges [receiverPart r] s (s.withOpenFrame r w) := by
  cases r with
  | roof p => exact s.onPort_changes p _
  | motion => exact s.onMotion_changes _
  | trunk => exact s.onCmd_changes _

/-- An open frame that closes and is counted at its receiver. -/
theorem closeCounted_changes (s : State) (r : Receiver) (w : Option OpenFrame) (x : RxResult) :
    OnlyChanges [receiverPart r] s ((s.withOpenFrame r w).countRx r x) :=
  .last (State.countRx_changes _ r x) (s.withOpenFrame_changes r w) (List.Subset.refl _)

theorem settle_changes (s : State) (r : Receiver) (f : Frame) : OnlyChanges [receiverPart r] s (settle s r f) := by
  unfold settle
  split
  · exact .rfl
  · exact .ite (s.withOpenFrame_changes r _) (closeCounted_changes s r _ _)

theorem frameFailed_changes (s : State) (r : Receiver) (rx : Reception) :
    OnlyChanges [receiverPart r] s (frameFailed s r rx) := by
  unfold frameFailed
  dsimp only
  split
  · exact s.withOpenFrame_changes r _
  · exact closeCounted_changes s r _ _
  · split
    · exact .rfl
    · exact closeCounted_changes s r _ _

/-! ### Drain control, release and the assembler -/

theorem testTally_changes (s : State) : OnlyChanges [.paths, .cmd] s (testTally s) :=
  .ite (.last (State.onCmd_changes _ _) (s.onPaths_changes _).mono) .rfl

theorem assemblyDrained_changes (s : State) : OnlyChanges [.paths, .cmd] s (assemblyDrained s) :=
  .ite (.last (testTally_changes _) (s.onCmd_changes _).mono) .rfl

theorem enterStandby_changes (s : State) : OnlyChanges [.roof, .seq, .cmd, .out] s (enterStandby s) :=
  .last (offerStatus_changes _ _) (.last (State.onCmd_changes _ _) (.last (State.onSeq_changes _ _)
    (s.onRoof_changes _).mono))

theorem spanClosed_changes (s : State) : OnlyChanges [.paths, .roof, .seq, .cmd, .out] s (spanClosed s) :=
  .ite (.ite (s.onCmd_changes _).mono
    (.ite (.last (testTally_changes _) (s.onCmd_changes _).mono) (enterStandby_changes s).mono)) .rfl

theorem settleSpanClosed_changes (s : State) : OnlyChanges [.paths, .roof, .seq, .cmd, .out] s (settleSpanClosed s) :=
  .ite (.last (spanClosed_changes _) (s.onPaths_changes _).mono) .rfl

theorem release_changes (s : State) : OnlyChanges [.asm, .paths, .cmd] s (release s) := by
  have freed : ∀ f g h, OnlyChanges [.asm, .paths, .cmd] s (((s.onAsm f).onPaths g).onCmd h) := fun f g h =>
    .last (State.onCmd_changes _ _) (.last (State.onPaths_changes _ _) (s.onAsm_changes f).mono)
  exact .ite .rfl (.ite (.last (assemblyDrained_changes _) (freed _ _ _)) (freed _ _ _))

theorem assemble_changes (s : State) (v : Verdict) (prof : Profile) :
    OnlyChanges [.asm, .paths, .cmd] s (assemble s v prof) := by
  cases v with
  | accepted => exact .last (release_changes _) (s.onAsm_changes _).mono
  | duplicate => exact .rfl
  | late => exact .rfl
  | stray => exact .rfl

/-! ### Frames at the roof ports and the motion port -/

theorem goodFrame_changes (s : State) (p : Port) : OnlyChanges [.roof, .out] s (goodFrame s p) := by
  unfold goodFrame
  split
  · exact .rfl
  · exact .rfl
  · exact (s.onPort_changes p _).mono
  · exact .last (offerStatus_changes _ _) (s.onPort_changes p _).mono

theorem forward_changes (s : State) (p : Port) (f : Frame) : OnlyChanges [.roof, .out] s (forward s p f) :=
  .ite .rfl (.ite (.last (offerRaw_changes _ _) (s.onPort_changes p _).mono) (s.onPort_changes p _).mono)

theorem handProfile_changes (s : State) (p : Port) (f : Frame) :
    OnlyChanges [.roof, .asm, .paths, .cmd, .out] s (handProfile s p f) := by
  have judged : ∀ k v prof k', OnlyChanges [.roof, .asm, .paths, .cmd, .out] s
      ((assemble (s.countPort p k) v prof).countPort p k') := fun k v prof k' =>
    .last (State.countPort_changes _ p k') (.last (assemble_changes _ v prof) (s.countPort_changes p k).mono)
  exact .ite (.last (forward_changes _ p f) (judged _ _ _ _)) (judged _ _ _ _)

theorem takeProfile_changes (s : State) (p : Port) (f : Frame) :
    OnlyChanges [.roof, .asm, .paths, .cmd, .out] s (takeProfile s p f) := by
  have counted : ∀ k, OnlyChanges [.roof, .asm, .paths, .cmd, .out] s (s.countPort p k) := fun k =>
    (s.countPort_changes p k).mono
  unfold takeProfile
  dsimp only
  split
  · exact .last (State.countPort_changes _ p _) (counted _)
  · exact .last (State.countPort_changes _ p _) (counted _)
  · exact .last (handProfile_changes _ p f) (counted _)

/-- A good frame closes at a roof port and is counted. -/
theorem closeRoof_changes (s : State) (p : Port) (f : Frame) (x : RxResult) :
    OnlyChanges [.roof] s ((settle s (.roof p) f).countRx (.roof p) x) :=
  .last (State.countRx_changes _ (.roof p) x) (settle_changes s (.roof p) f) (List.Subset.refl _)

theorem profileFrame_changes (s : State) (p : Port) (address : Byte) (payload : List Byte) :
    OnlyChanges [.roof, .asm, .paths, .cmd, .out] s (profileFrame s p address payload) := by
  unfold profileFrame
  dsimp only
  split
  · exact (closeRoof_changes s p _ _).mono
  · exact .last (takeProfile_changes _ p _) (.last (goodFrame_changes _ p) (closeRoof_changes s p _ _).mono)

theorem relayReply_changes (s : State) (p : Port) (f : Frame) : OnlyChanges [.roof, .out] s (relayReply s p f) := by
  unfold relayReply
  split
  · exact (s.countPort_changes p _).mono
  · exact .last (offerB_changes _ f) (s.countPort_changes p _).mono

theorem headReplyFrame_changes (s : State) (p : Port) (address : Byte) (payload : List Byte) :
    OnlyChanges [.roof, .out] s (headReplyFrame s p address payload) := by
  unfold headReplyFrame
  dsimp only
  split
  · exact (closeRoof_changes s p _ _).mono
  · exact .last (relayReply_changes _ p _) (.last (goodFrame_changes _ p) (closeRoof_changes s p _ _).mono)

theorem motionFrame_changes (s : State) (address : Byte) (payload : List Byte) :
    OnlyChanges [.motion] s (motionFrame s address payload) := by
  have closed : ∀ f x, OnlyChanges [.motion] s ((settle s .motion f).countRx .motion x) := fun f x =>
    .last (State.countRx_changes _ .motion x) (settle_changes s .motion f) (List.Subset.refl _)
  unfold motionFrame
  dsimp only
  split
  · exact closed _ _
  · exact .last (State.onMotion_changes _ _) (closed _ _)

/-! ### Triggers and timed events -/

theorem startScan_changes (s : State) : OnlyChanges [.motion, .seq, .asm, .paths, .cmd] s (startScan s) := by
  have started : ∀ f g h, OnlyChanges [.motion, .seq, .asm, .paths, .cmd] s (((s.onMotion f).onSeq g).onAsm h) :=
    fun f g h => .last (State.onAsm_changes _ h) (.last (State.onSeq_changes _ g) (s.onMotion_changes f).mono)
  exact .ite (.last (release_changes _) (.last (State.onAsm_changes _ _) (started _ _ _))) (started _ _ _)

theorem handleTrigger_changes (s : State) : OnlyChanges [.motion, .seq, .asm, .paths, .cmd] s (handleTrigger s) :=
  .ite (s.onSeq_changes _).mono (.ite (s.onSeq_changes _).mono (startScan_changes s))

theorem accumulate_changes (s : State) (k : Sense) : OnlyChanges [.odo, .out] s (accumulate s k) :=
  .ite (.last (offerStatus_changes _ _) (s.onOdo_changes _).mono) (s.onOdo_changes _).mono

theorem countStep_changes (s : State) : OnlyChanges [.odo] s (countStep s) := .ite (s.onOdo_changes _) .rfl

theorem sendTrigger_changes (s : State) (late : Bool) :
    OnlyChanges [.motion, .seq, .asm, .paths, .cmd] s (sendTrigger s late) :=
  .ite (s.onSeq_changes _).mono (handleTrigger_changes s)

theorem lineChange_changes (s : State) (oda odb late : Bool) :
    OnlyChanges [.odo, .out, .motion, .seq, .asm, .paths, .cmd] s (lineChange s oda odb late) := by
  have moved : ∀ f k, OnlyChanges [.odo, .out, .motion, .seq, .asm, .paths, .cmd] s (countStep (accumulate (s.onOdo f) k)) :=
    fun f k => .last (countStep_changes _) (.last (accumulate_changes _ k) (s.onOdo_changes f).mono)
  exact .ite .rfl (.ite (.last (State.onOdo_changes _ _) (s.onOdo_changes _).mono)
    (.ite (.last (sendTrigger_changes _ late) (moved _ _)) (moved _ _)))

theorem triggerArrival_changes (s : State) :
    OnlyChanges [.motion, .seq, .asm, .paths, .cmd, .roof, .out] s (triggerArrival s) :=
  .ite (.last (settleSpanClosed_changes _) (.last (handleTrigger_changes _) (s.onSeq_changes _).mono)) .rfl

theorem silenceTimerExpiry_changes (s : State) (p : Port) :
    OnlyChanges [.roof, .out, .asm, .paths, .cmd] s (silenceTimerExpiry s p) :=
  .ite (.last (release_changes _) (.last (State.onAsm_changes _ _) (.last (offerStatus_changes _ _)
    (s.onPort_changes p _).mono))) .rfl

theorem slotStart_changes (s : State) (p : Port) : OnlyChanges [.seq, .roof] s (slotStart s p) := by
  unfold slotStart
  split
  · exact .last (State.onPort_changes _ p _) (s.onSeq_changes _).mono
  · exact .rfl

theorem exposureEnd_changes (s : State) (p : Port) : OnlyChanges [.seq] s (exposureEnd s p) := by
  unfold exposureEnd
  split
  · exact s.onSeq_changes _
  · exact .rfl

theorem busyWindowClose_changes (s : State) : OnlyChanges [.seq] s (busyWindowClose s) := .ite (s.onSeq_changes _) .rfl

theorem deadlineReached_changes (s : State) (scan : Word16) :
    OnlyChanges [.asm, .paths, .cmd] s (deadlineReached s scan) :=
  .ite (.last (release_changes _) (s.onAsm_changes _).mono) .rfl

theorem holdAgeExpiry_changes (s : State) : OnlyChanges [.motion] s (holdAgeExpiry s) := .ite (s.onMotion_changes _) .rfl

/-! ### The zone queue, geometry, merge and track units -/

theorem exhaust_changes (s : State) : OnlyChanges [.zones, .out] s (exhaust s) :=
  .ite (.last (offerStatus_changes _ _) (s.onZones_changes _).mono) .rfl

theorem resolveScan_changes (s : State) (scan : ReleasedScan) :
    OnlyChanges [.paths, .zones, .out] s (resolveScan s scan) := by
  have retired : ∀ f, OnlyChanges [.paths, .zones, .out] s (s.onZones f) := fun f => (s.onZones_changes f).mono
  exact .last (State.onZones_changes _ _) (.last (State.onPaths_changes _ _) (.last (State.onZones_changes _ _)
    (.ite (.last (exhaust_changes _) (retired _)) (retired _))))

theorem scanResolution_changes (s : State) : OnlyChanges [.paths, .zones, .out] s (scanResolution s) := by
  unfold scanResolution
  split
  · exact .last (resolveScan_changes _ _) (s.onPaths_changes _).mono
  · exact .rfl

theorem geometryScan_changes (s : State) : OnlyChanges [.paths, .geo] s (geometryScan s) := by
  unfold geometryScan
  split
  · exact .last (State.onPaths_changes _ _) (.last (State.onGeo_changes _ _) (s.onPaths_changes _).mono)
  · exact .rfl

theorem rawListArrival_changes (s : State) : OnlyChanges [.paths, .merge] s (rawListArrival s) := by
  unfold rawListArrival
  split
  · exact .last (State.onPaths_changes _ _) (.last (State.onMerge_changes _ _) (s.onPaths_changes _).mono)
  · exact .rfl

theorem clusterListArrival_changes (s : State) : OnlyChanges [.paths, .tracks, .cmd] s (clusterListArrival s) := by
  unfold clusterListArrival
  split
  · exact .last (testTally_changes _) (.last (State.onCmd_changes _ _) (.last (State.onPaths_changes _ _)
      (.last (State.onTracks_changes _ _) (s.onPaths_changes _).mono)))
  · exact .rfl

theorem drainCloseRequest_changes (s : State) : OnlyChanges [.paths, .tracks] s (drainCloseRequest s) :=
  .ite (.last (State.onTracks_changes _ _) (s.onPaths_changes _).mono) .rfl

theorem runOpeningReport_changes (s : State) :
    OnlyChanges [.zones, .paths, .roof, .seq, .cmd, .out] s (runOpeningReport s) := by
  unfold runOpeningReport
  split
  · exact .last (settleSpanClosed_changes _) (.last (State.onZones_changes _ _) (s.onPaths_changes _).mono)
  · exact .rfl

theorem offerZones_changes (s : State) (cs : List ClosingEntry) : OnlyChanges [.out] s (cs.foldl offerZone s) :=
  .foldl (fun s _ => offerB_changes s _) cs s

theorem finishScan_changes (s : State) (scan : Word16) : OnlyChanges [.zones, .out] s (finishScan s scan) :=
  .last (offerZones_changes _ _) (s.onZones_changes _).mono

theorem scanFinishedReport_changes (s : State) :
    OnlyChanges [.zones, .paths, .roof, .seq, .cmd, .out] s (scanFinishedReport s) := by
  unfold scanFinishedReport
  split
  · exact .last (settleSpanClosed_changes _) (.last (finishScan_changes _ _) (s.onPaths_changes _).mono)
  · exact .rfl

end Sys2Proof.Machine
end

section
/-! SUPPORT. The span unit as a sequence of moves: what a track list or a stop list does is made of closings, openings and
changes of single bins and runs, so that what holds of each move holds of the whole list (R142 to R158). -/

namespace Sys2Proof.Machine

set_option Elab.async false

/-! ### What each operation of the span unit changes -/

theorem countSpan_changes (s : State) (f : SpanCounters → SpanCounters) : OnlyChanges [.span] s (countSpan s f) :=
  s.onSpan_changes _

theorem closeBin_changes (s : State) (id : Nat) (cause : CloseCause) : OnlyChanges [.span, .out] s (closeBin s id cause) := by
  unfold closeBin
  split
  · exact .last (State.onSpan_changes _ _) (offerA_changes s _).mono
  · exact .rfl

theorem reportRun_changes (s : State) (r : Run) (cause : CloseCause) : OnlyChanges [.span, .out] s (reportRun s r cause) :=
  .last (countSpan_changes _ _) (offerB_changes s _).mono

theorem closeRun_changes (s : State) (id : Nat) (cause : CloseCause) (kind : RunKind) :
    OnlyChanges [.span, .out] s (closeRun s id cause kind) := by
  unfold closeRun
  split
  · exact .last (State.onSpan_changes _ _) (reportRun_changes s _ cause)
  · exact .rfl

theorem closeCount_changes (s : State) (cause : CloseCause) : OnlyChanges [.span, .out] s (closeCount s cause) := by
  unfold closeCount
  split
  · exact .last (State.onSpan_changes _ _) (reportRun_changes s _ cause)
  · exact .rfl

/-- The TRACK_END record of an ended track is offered and counted (R149). -/
def recordEnd (s : State) (e : EndedTrack) : State :=
  countSpan (offerB s (s.record kindTrackEnd e.payload)) fun c => { c with trackEnds := bump c.trackEnds }

theorem recordEnd_changes (s : State) (e : EndedTrack) : OnlyChanges [.span, .out] s (recordEnd s e) :=
  .last (countSpan_changes _ _) (offerB_changes s _).mono

theorem endTrack_eq (s : State) (cause : CloseCause) (e : EndedTrack) :
    endTrack s cause e = recordEnd (closeRuns (closeBin s e.id cause) e.id cause) e := rfl

theorem closeRuns_changes (s : State) (id : Nat) (cause : CloseCause) : OnlyChanges [.span, .out] s (closeRuns s id cause) :=
  .foldl (fun s k => closeRun_changes s id cause k) trackKinds s

theorem endTrack_changes (s : State) (cause : CloseCause) (e : EndedTrack) :
    OnlyChanges [.span, .out] s (endTrack s cause e) :=
  .last (recordEnd_changes _ e) (.last (closeRuns_changes _ e.id cause) (closeBin_changes s e.id cause))

/-! ### Moves -/

/-- A move of the span unit: one bin, run or COUNT run closes, opens or changes, or a TRACK_END record is offered. -/
inductive SpanMove : State → State → Prop
  | closeBin (s : State) (id : Nat) (cause : CloseCause) : SpanMove s (closeBin s id cause)
  | closeRun (s : State) (id : Nat) (cause : CloseCause) (kind : RunKind) : SpanMove s (closeRun s id cause kind)
  | closeCount (s : State) (cause : CloseCause) : SpanMove s (closeCount s cause)
  | recordEnd (s : State) (e : EndedTrack) : SpanMove s (recordEnd s e)
  | openBin (s : State) (h : ScanHeader) (full : Bool) (id : Nat) (hit : Option Merged) : SpanMove s (openBin s h full id hit)
  | extendBin (s : State) (h : ScanHeader) (full : Bool) (id : Nat) (hit : Option Merged) :
      SpanMove s (extendBin s h full id hit)
  | changeRun (s : State) (id : Nat) (kind : RunKind) (f : Run → Run)
      (keyed : ∀ r, (f r).track = r.track ∧ (f r).kind = r.kind) : SpanMove s (changeRun s id kind f)
  | openRun (s : State) (z : ZoneView) (id : Nat) (kind : RunKind) (d v : Int) (free : s.span.runOf id kind = none) :
      SpanMove s (reportOpening (s.onSpan fun u => { u with runs := u.runs ++ [newRun id kind z d v] }) z)
  | openCount (s : State) (z : ZoneView) (d v : Int) (free : s.span.count = none) :
      SpanMove s (reportOpening (s.onSpan fun u => { u with count := some (newRun 0 .count z d v) }) z)
  | changeCount (s : State) (r k : Run) (running : s.span.count = some r) :
      SpanMove s (s.onSpan fun u => { u with count := some k })

/-- A sequence of moves of the span unit. -/
abbrev SpanMoves : State → State → Prop := Relation.ReflTransGen SpanMove

theorem SpanMoves.foldl {α : Type} {f : State → α → State} (h : ∀ s a, SpanMoves s (f s a)) (l : List α) (s : State) :
    SpanMoves s (l.foldl f s) := by
  induction l generalizing s with
  | nil => exact .refl
  | cons a l ih => exact (h s a).trans (ih _)

theorem closeRuns_moves (s : State) (id : Nat) (cause : CloseCause) : SpanMoves s (closeRuns s id cause) :=
  .foldl (fun s k => .single (.closeRun s id cause k)) trackKinds s

theorem endTrack_moves (s : State) (cause : CloseCause) (e : EndedTrack) : SpanMoves s (endTrack s cause e) :=
  ((Relation.ReflTransGen.single (.closeBin s e.id cause)).trans (closeRuns_moves _ e.id cause)).tail (.recordEnd _ e)

theorem actOnRun_moves (s : State) (z : ZoneView) (d : Int) (id : Nat) (kind : RunKind) (j : Judgement) :
    SpanMoves s (actOnRun s z d id kind j) := by
  unfold actOnRun
  split
  · next h => exact .single (.openRun s z id kind d _ h)
  · exact .single (.changeRun s id kind _ fun _ => ⟨rfl, rfl⟩)
  · have changed := SpanMove.changeRun s id kind (fun r => { r with conforming := r.conforming + 1 }) fun _ => ⟨rfl, rfl⟩
    dsimp only
    split
    · exact (Relation.ReflTransGen.single changed).tail (.closeRun _ id .released kind)
    · exact .single changed
  · exact .refl

theorem checkLimits_moves (s : State) (h : ScanHeader) (id : Nat) (m : Merged) : SpanMoves s (checkLimits s h id m) := by
  unfold checkLimits
  split
  · exact .foldl (fun s k => actOnRun_moves s _ _ id k _) trackKinds s
  · exact .refl

theorem continueBin_moves (s : State) (device : Option CloseCause) (l : TrackList) (id : Nat) (hit : Option Merged) :
    SpanMoves s (continueBin s device l id hit) := by
  unfold continueBin
  dsimp only
  split
  · split
    · next cause _ =>
      have closed : SpanMoves s (closeBin s id cause) := .single (.closeBin s id cause)
      refine Relation.ReflTransGen.tail ?_ (.openBin _ l.header l.tableFull id hit)
      split
      · exact closed.trans (closeRuns_moves _ id _)
      · exact closed
    · exact .single (.extendBin s l.header l.tableFull id hit)
  · exact .single (.openBin s l.header l.tableFull id hit)

theorem takeEntry_moves (device : Option CloseCause) (l : TrackList) (s : State) (e : TrackEntry) :
    SpanMoves s (takeEntry device l s e) := by
  cases e with
  | continuing id state hit =>
    cases hit with
    | none => exact continueBin_moves s device l id none
    | some m => exact (continueBin_moves s device l id (some m)).trans (checkLimits_moves _ l.header id m)
  | confirmed id m =>
    exact (Relation.ReflTransGen.single (.openBin s l.header l.tableFull id (some m))).trans
      (checkLimits_moves _ l.header id m)
  | ended e => exact endTrack_moves s .trackEnd e

theorem actOnCount_moves (s : State) (z : ZoneView) (d : Int) (j : Judgement) : SpanMoves s (actOnCount s z d j) := by
  unfold actOnCount
  split
  · next h => exact .single (.openCount s z d _ h)
  · next r h => exact .single (.changeCount s r _ h)
  · next r h =>
    dsimp only
    split
    · exact (Relation.ReflTransGen.single (.changeCount s r _ h)).tail (.closeCount _ .released)
    · exact .single (.changeCount s r _ h)
  · exact .refl

theorem handleCount_moves (s : State) (device : Option CloseCause) (l : TrackList) : SpanMoves s (handleCount s device l) := by
  unfold handleCount
  dsimp only
  cases s.span.count.bind (countCloseCause device l.header) with
  | none =>
    cases l.header.context.zone with
    | none => exact .refl
    | some z => exact actOnCount_moves s z _ _
  | some cause =>
    have closed : SpanMoves s (closeCount s cause) := .single (.closeCount s cause)
    cases l.header.context.zone with
    | none => exact closed
    | some z => exact closed.trans (actOnCount_moves _ z _ _)

/-- What a track list does before the scan is reported finished (R142). -/
def spanEntries (s : State) (l : TrackList) : State :=
  handleCount (l.entries.foldl (takeEntry (deviceCause s.span l.header) l) s) (deviceCause s.span l.header) l

theorem spanScan_eq (s : State) (l : TrackList) : spanScan s l = finishSpan (spanEntries s l) l.header := rfl

theorem spanEntries_moves (s : State) (l : TrackList) : SpanMoves s (spanEntries s l) :=
  (SpanMoves.foldl (fun s e => takeEntry_moves _ l s e) l.entries s).trans (handleCount_moves _ _ l)

/-- What a stop list does before the span closed report (R158). -/
def spanClosing (s : State) (l : StopList) : State := closeCount (l.entries.foldl (fun s e => endTrack s .stop e) s) .stop

theorem spanStop_eq (s : State) (l : StopList) :
    spanStop s l = settleSpanClosed ((spanClosing s l).onPaths fun p => { p with spanClosed := true }) := rfl

theorem spanClosing_moves (s : State) (l : StopList) : SpanMoves s (spanClosing s l) :=
  (SpanMoves.foldl (fun s e => endTrack_moves s .stop e) l.entries s).tail (.closeCount _ .stop)

theorem spanClosing_changes (s : State) (l : StopList) : OnlyChanges [.span, .out] s (spanClosing s l) :=
  .last (closeCount_changes _ .stop) (.foldl (fun s e => endTrack_changes s .stop e) l.entries s)

/-! ### What the moves change -/

theorem SpanMove.changes {s t : State} (h : SpanMove s t) : OnlyChanges [.span, .paths, .out] s t := by
  cases h with
  | closeBin id cause => exact (closeBin_changes s id cause).mono
  | closeRun id cause kind => exact (closeRun_changes s id cause kind).mono
  | closeCount cause => exact (closeCount_changes s cause).mono
  | recordEnd e => exact (recordEnd_changes s e).mono
  | openBin h full id hit => exact (s.onSpan_changes _).mono
  | extendBin h full id hit => exact (s.onSpan_changes _).mono
  | changeRun id kind f keyed => exact (s.onSpan_changes _).mono
  | openRun z id kind d v free =>
    exact .last (State.onPaths_changes _ _) (.last (countSpan_changes _ _) (s.onSpan_changes _).mono)
  | openCount z d v free =>
    exact .last (State.onPaths_changes _ _) (.last (countSpan_changes _ _) (s.onSpan_changes _).mono)
  | changeCount r k running => exact (s.onSpan_changes _).mono

theorem SpanMoves.changes {s t : State} (h : SpanMoves s t) : OnlyChanges [.span, .paths, .out] s t := by
  induction h with
  | refl => exact .rfl
  | tail _ m ih => exact .last m.changes ih

/-- Of the paths, the moves of the span unit reach the reports alone: run-opening reports join them (R151, R154). -/
theorem SpanMove.reports {s t : State} (h : SpanMove s t) :
    ∃ ns : List Word16, t.paths = { s.paths with reports := s.paths.reports ++ ns.map .runOpened } := by
  have quiet : ∀ {u : State}, OnlyChanges [.span, .out] s u →
      ∃ ns : List Word16, u.paths = { s.paths with reports := s.paths.reports ++ ns.map .runOpened } := fun hu =>
    ⟨[], by rw [hu.1 .paths (by decide)]; simp⟩
  cases h with
  | closeBin id cause => exact quiet (closeBin_changes s id cause)
  | closeRun id cause kind => exact quiet (closeRun_changes s id cause kind)
  | closeCount cause => exact quiet (closeCount_changes s cause)
  | recordEnd e => exact quiet (recordEnd_changes s e)
  | openBin h full id hit => exact quiet (s.onSpan_changes _).mono
  | extendBin h full id hit => exact quiet (s.onSpan_changes _).mono
  | changeRun id kind f keyed => exact quiet (s.onSpan_changes _).mono
  | openRun z id kind d v free => exact ⟨[z.number], rfl⟩
  | openCount z d v free => exact ⟨[z.number], rfl⟩
  | changeCount r k running => exact quiet (s.onSpan_changes _).mono

theorem SpanMoves.reports {s t : State} (h : SpanMoves s t) :
    ∃ ns : List Word16, t.paths = { s.paths with reports := s.paths.reports ++ ns.map .runOpened } := by
  induction h with
  | refl => exact ⟨[], by simp⟩
  | tail _ m ih =>
    obtain ⟨ns, hn⟩ := ih
    obtain ⟨ms, hm⟩ := m.reports
    exact ⟨ns ++ ms, by rw [hm, hn]; simp⟩

theorem trackListArrival_changes (s : State) : OnlyChanges [.span, .paths, .out] s (trackListArrival s) := by
  unfold trackListArrival
  split
  · exact .last (State.onPaths_changes _ _) (.last (State.onSpan_changes _ _)
      (.last (spanEntries_moves _ _).changes (s.onPaths_changes _).mono))
  · exact .rfl

theorem stopListArrival_changes (s : State) :
    OnlyChanges [.span, .paths, .out, .roof, .seq, .cmd] s (stopListArrival s) := by
  unfold stopListArrival
  split
  · exact .last (settleSpanClosed_changes _) (.last (State.onPaths_changes _ _)
      (.last (spanClosing_moves _ _).changes (s.onPaths_changes _).mono))
  · exact .rfl

end Sys2Proof.Machine
end

section
/-! SUPPORT. How a COMMAND row runs (R163, R173, R174): turned away, refused, or carried out by its body, and what the bodies
change. -/

namespace Sys2Proof.Machine

set_option Elab.async false

/-! ### The trunk receiver and the output unit apart -/

/-- Two states that differ in the output unit, the trunk receiver and the command counters at most: what the bookkeeping of a
command, and every offer of a record, is confined to. -/
def Quiet (s t : State) : Prop :=
  ∃ o f r k, t = { s with out := o, cmd := { s.cmd with frame := f, rx := r, counters := k } }

theorem Quiet.rfl {s : State} : Quiet s s := ⟨s.out, s.cmd.frame, s.cmd.rx, s.cmd.counters, Eq.refl s⟩

theorem Quiet.trans {s t u : State} (h : Quiet s t) (k : Quiet t u) : Quiet s u := by
  obtain ⟨_, _, _, _, hs⟩ := h
  obtain ⟨o, f, r, k, ht⟩ := k
  exact ⟨o, f, r, k, by rw [ht, hs]⟩

theorem Quiet.of_out {s t : State} (h : OnlyChanges [.out] s t) : Quiet s t := by
  obtain ⟨h, hp⟩ := h
  refine ⟨t.out, s.cmd.frame, s.cmd.rx, s.cmd.counters, ?_⟩
  have e (p : Part) (k : p ≠ .out) : Agree s t p := h p (by simpa using k)
  have e1 := e .timebase (by decide); have e2 := e .held (by decide); have e3 := e .roof (by decide)
  have e4 := e .motion (by decide); have e5 := e .odo (by decide); have e6 := e .seq (by decide)
  have e7 := e .asm (by decide); have e8 := e .paths (by decide); have e9 := e .zones (by decide)
  have e10 := e .geo (by decide); have e11 := e .merge (by decide); have e12 := e .tracks (by decide)
  have e13 := e .span (by decide); have e14 := e .cmd (by decide)
  cases s; cases t
  simp only [Agree] at *
  subst e1 e2 e3 e4 e5 e6 e7 e8 e9 e10 e11 e12 e13 e14 hp
  rfl

/-! ### Taking a command -/

/-- A COMMAND frame that is not taken: it fails a check, or it is good and counted as misaddressed or dropped (R173). -/
def TurnedAway (s t : State) : Prop :=
  ∃ r k, t = { s with cmd := { s.cmd with frame := none, rx := r, counters := k } } ∧
    (r.good = s.cmd.rx.good ∧ k = s.cmd.counters ∨
      r.good = bump s.cmd.rx.good ∧
        (k = { s.cmd.counters with misaddressed := bump s.cmd.counters.misaddressed } ∨
          k = { s.cmd.counters with dropped := bump s.cmd.counters.dropped }))

/-- A COMMAND frame that is taken: it is counted good, and the reply reservation opens in class C room (R163, R173). -/
def Opened (s u : State) : Prop :=
  ∃ r, u = { s with cmd := { s.cmd with frame := none, rx := r }, out := { s.out with reserved := true } } ∧
    r.good = bump s.cmd.rx.good ∧ s.out.occupancy < 64

theorem settle_trunk (s : State) (f : Frame) :
    ∃ r, settle s .trunk f = { s with cmd := { s.cmd with frame := none, rx := r } } ∧ r.good = s.cmd.rx.good := by
  cases h : s.openFrame .trunk with
  | none => exact ⟨s.cmd.rx, by rw [settle_none h, ← show s.cmd.frame = none from h], rfl⟩
  | some w =>
    rw [settle_some h]
    split
    · exact ⟨s.cmd.rx, rfl, rfl⟩
    · exact ⟨s.cmd.rx.count (.failed .framing), rfl, rfl⟩

theorem RxCounters.count_failed_good (c : RxCounters) (x : RxFailure) : (c.count (.failed x)).good = c.good := by
  cases x <;> rfl

theorem takeCommand_cases (s : State) (address code tag : Byte) (args : List Byte) (go : State → State) :
    TurnedAway s (takeCommand s address code tag args go) ∨
      ∃ u, Opened s u ∧ takeCommand s address code tag args go = go u := by
  obtain ⟨r, settled, good⟩ := settle_trunk s (commandFrame address code tag args)
  simp only [takeCommand, settled]
  generalize checkIntact _ _ = x
  cases x with
  | failed c => exact .inl ⟨r.count (.failed c), s.cmd.counters, rfl, .inl ⟨(r.count_failed_good c).trans good, rfl⟩⟩
  | good f =>
    have counted : (r.count (.good f)).good = bump s.cmd.rx.good := congrArg bump good
    dsimp only
    split
    · exact .inl ⟨r.count (.good f), _, rfl, .inr ⟨counted, .inl rfl⟩⟩
    · split
      · next room => exact .inr ⟨_, ⟨r.count (.good f), rfl, counted, room⟩, rfl⟩
      · exact .inl ⟨r.count (.good f), _, rfl, .inr ⟨counted, .inr rfl⟩⟩

theorem TurnedAway.quiet {s t : State} (h : TurnedAway s t) : Quiet s t := by
  obtain ⟨r, k, rfl, -⟩ := h
  exact ⟨s.out, none, r, k, rfl⟩

theorem Opened.quiet {s u : State} (h : Opened s u) : Quiet s u := by
  obtain ⟨r, rfl, -⟩ := h
  exact ⟨{ s.out with reserved := true }, none, r, s.cmd.counters, rfl⟩

theorem queueReply_quiet (s : State) (code tag : Byte) (r : Reply) : Quiet s (queueReply s code tag r) :=
  ⟨_, s.cmd.frame, s.cmd.rx, _, queueReply_eq s code tag r⟩

/-! ### The command rows -/

/-- What tells one command of Table 11-2 from another: its frame, its length, where it is allowed, the parts that
it can change, and its body. -/
structure CommandRow where
  address  : Byte
  code     : Byte
  tag      : Byte
  args     : List Byte
  lengthOk : Bool
  allowed  : OpState → Bool
  parts    : List Part
  body     : State → State × Reply

/-- The rows of the table that run by `command`: all COMMAND rows but RESET and UNKNOWN_COMMAND. -/
def commandRow : Instr → Option CommandRow
  | .identify a t args =>
    some ⟨a, 0x01, t, args, args.isEmpty, anyState, [.out, .cmd],
      fun s => (s, { result := .done, data := identifyData s })⟩
  | .getState a t args =>
    some ⟨a, 0x02, t, args, args.isEmpty, anyState, [.out, .cmd],
      fun s => (s, { result := .done, data := statusContent s 0 })⟩
  | .getCounters a t args => some ⟨a, 0x03, t, args, args.length == 1, anyState, [.out, .cmd],
      fun s => (s, counterReply args s)⟩
  | .clearCounters a t args =>
    some ⟨a, 0x04, t, args, args.isEmpty, standbyOnly, [.roof, .motion, .odo, .seq, .asm, .zones, .geo, .merge, .tracks, .span, .out, .cmd],
      fun s => (clearAll s, { result := .done })⟩
  | .setHeads a t args => some ⟨a, 0x10, t, args, args.length == 1, standbyOnly, [.roof, .out, .cmd],
      setHeads args⟩
  | .loadHeadCal a t args => some ⟨a, 0x11, t, args, args.length == 161, standbyOnly, [.geo, .roof, .out, .cmd],
      loadHeadCal args⟩
  | .loadWireType a t args => some ⟨a, 0x12, t, args, args.length == 141, standbyOnly, [.merge, .out, .cmd],
      loadWireType args⟩
  | .setRunParams a t args => some ⟨a, 0x13, t, args, args.length == 51, standbyOnly, [.out, .cmd],
      setRunParams args⟩
  | .setScanSpacing a t args => some ⟨a, 0x14, t, args, args.length == 2, anyState, [.odo, .out, .cmd],
      setScanSpacing args⟩
  | .setStrobe a t args => some ⟨a, 0x15, t, args, args.length == 12, anyState, [.seq, .out, .cmd],
      setStrobe args⟩
  | .setDistance a t args => some ⟨a, 0x16, t, args, args.length == 4, anyState, [.odo, .out, .cmd],
      setDistance args⟩
  | .zoneAppend a t args => some ⟨a, 0x20, t, args, zoneAppendLengthOk args, anyState, [.zones, .out, .cmd],
      zoneAppend args⟩
  | .zoneFlush a t args => some ⟨a, 0x21, t, args, args.isEmpty, anyState, [.zones, .out, .cmd],
      zoneFlush⟩
  | .headPass a t args =>
    some ⟨a, 0x30, t, args, decide (2 ≤ args.length) && decide (args.length ≤ 65), anyState, [.roof, .out, .cmd],
      headPass args⟩
  | .start a t args => some ⟨a, 0x40, t, args, args.isEmpty, standbyOnly, [.roof, .motion, .odo, .zones, .span, .out, .cmd],
      startRun⟩
  | .stop a t args => some ⟨a, 0x41, t, args, args.isEmpty, anyState, [.out, .cmd, .paths],
      stopRun⟩
  | _ => none

/-- What a command row does once the part is live. -/
def CommandRow.run (row : CommandRow) (s : State) : State :=
  command s row.address row.code row.tag row.args row.lengthOk row.allowed row.body

/-- How a command row can end: turned away, refused, or carried out by its body and answered (R173, R174). -/
inductive CommandRow.Ends (row : CommandRow) (s : State) : State → Prop
  | turned {t : State} (h : TurnedAway s t) : Ends row s t
  | refused {u : State} (h : Opened s u) (r : Reply) : Ends row s (queueReply u row.code row.tag r)
  | done {u : State} (h : Opened s u) (allowed : row.allowed u.cmd.op = true) :
      Ends row s (queueReply (row.body u).1 row.code row.tag (row.body u).2)

theorem CommandRow.ends (row : CommandRow) (s : State) : row.Ends s (row.run s) := by
  unfold CommandRow.run command
  rcases takeCommand_cases s row.address row.code row.tag row.args
    fun s => runCommand s row.code row.tag row.lengthOk row.allowed row.body with away | ⟨u, opened, ran⟩
  · exact .turned away
  · rw [ran]
    unfold runCommand
    split
    · exact .refused opened _
    · split
      · exact .refused opened _
      · next allowed => exact .done opened (by simpa using allowed)

/-! ### What the bodies change -/

theorem setHeads_changes (args : List Byte) (s : State) : OnlyChanges [.roof, .out] s (setHeads args s).1 := by
  unfold setHeads
  dsimp only
  split
  · exact .rfl
  · exact .ite (s.onRoof_changes _).mono (.last (offerStatus_changes _ _) (s.onRoof_changes _).mono)

theorem loadHeadCal_changes (args : List Byte) (s : State) : OnlyChanges [.geo, .roof] s (loadHeadCal args s).1 := by
  unfold loadHeadCal
  dsimp only
  split
  · exact .rfl
  · split
    · exact .last (State.onPort_changes _ _ _) (s.onGeo_changes _).mono
    · exact .rfl

theorem loadWireType_changes (args : List Byte) (s : State) : OnlyChanges [.merge] s (loadWireType args s).1 := by
  unfold loadWireType
  dsimp only
  split
  · exact .rfl
  · exact s.onMerge_changes _

theorem setRunParams_changes (args : List Byte) (s : State) : OnlyChanges [.cmd] s (setRunParams args s).1 := by
  unfold setRunParams
  split
  · exact .rfl
  · exact s.onCmd_changes _

theorem setScanSpacing_changes (args : List Byte) (s : State) : OnlyChanges [.odo] s (setScanSpacing args s).1 := by
  unfold setScanSpacing
  dsimp only
  split
  · exact .rfl
  · exact s.onOdo_changes _

theorem setStrobe_changes (args : List Byte) (s : State) : OnlyChanges [.seq] s (setStrobe args s).1 := by
  unfold setStrobe
  dsimp only
  split
  · exact .rfl
  · split
    · exact .rfl
    · exact s.onSeq_changes _

theorem setDistance_changes (args : List Byte) (s : State) : OnlyChanges [.odo] s (setDistance args s).1 := by
  unfold setDistance
  dsimp only
  split
  · exact .rfl
  · exact s.onOdo_changes _

theorem zoneAppend_changes (args : List Byte) (s : State) : OnlyChanges [.zones] s (zoneAppend args s).1 := by
  unfold zoneAppend
  dsimp only
  split
  · exact .rfl
  · split
    · exact .rfl
    · exact s.onZones_changes _

theorem zoneFlush_changes (s : State) : OnlyChanges [.zones, .out] s (zoneFlush s).1 := by
  have flushed : OnlyChanges [.zones, .out] s (s.onZones ZoneQueue.flush) := (s.onZones_changes _).mono
  unfold zoneFlush
  dsimp only
  split
  · exact .rfl
  · split
    · exact flushed
    · split
      · exact .last (exhaust_changes _) (.last (offerZones_changes _ _) flushed)
      · exact .last (exhaust_changes _) (.last (State.onZones_changes _ _) flushed)

theorem headPass_changes (args : List Byte) (s : State) : OnlyChanges [.roof] s (headPass args s).1 := by
  unfold headPass
  split
  · exact .rfl
  · split
    · exact .rfl
    · split
      · exact .rfl
      · exact s.onPort_changes _ _

theorem beginRun_changes (s : State) : OnlyChanges [.roof, .motion, .odo, .zones, .span, .out, .cmd] s (beginRun s) :=
  .last (offerStatus_changes _ _) (.last (State.onCmd_changes _ _) (.last (State.onSpan_changes _ _)
    (.last (State.onZones_changes _ _) (.last (State.onOdo_changes _ _) (.last (State.onMotion_changes _ _)
      (s.onRoof_changes _).mono)))))

theorem startRun_changes (s : State) : OnlyChanges [.roof, .motion, .odo, .zones, .span, .out, .cmd] s (startRun s).1 := by
  unfold startRun
  split
  · exact .rfl
  · exact beginRun_changes s

theorem beginDrain_changes (s : State) : OnlyChanges [.out, .cmd, .paths] s (beginDrain s) := by
  have drains : OnlyChanges [.out, .cmd, .paths] s
      (offerStatus (s.onCmd fun c => { c with op := .draining, drain := .waitingAssembly }) .operatingState) :=
    .last (offerStatus_changes _ _) (s.onCmd_changes _).mono
  exact .ite (.last (assemblyDrained_changes _) drains) drains

theorem stopRun_changes (s : State) : OnlyChanges [.out, .cmd, .paths] s (stopRun s).1 := by
  unfold stopRun
  split
  · exact beginDrain_changes s
  · exact .rfl
  · exact .rfl

theorem clearAll_changes (s : State) :
    OnlyChanges [.roof, .motion, .odo, .seq, .asm, .zones, .geo, .merge, .tracks, .span, .out, .cmd] s (clearAll s) :=
  .last (State.onCmd_changes _ _) (.last (State.onOut_changes _ _) (.last (State.onSpan_changes _ _)
    (.last (State.onTracks_changes _ _) (.last (State.onMerge_changes _ _) (.last (State.onGeo_changes _ _)
      (.last (State.onZones_changes _ _) (.last (State.onAsm_changes _ _) (.last (State.onSeq_changes _ _)
        (.last (State.onOdo_changes _ _) (.last (State.onMotion_changes _ _) (s.onRoof_changes _).mono))))))))))

theorem body_changes {c : Instr} {row : CommandRow} (h : commandRow c = some row) (s : State) :
    OnlyChanges row.parts s (row.body s).1 := by
  cases c <;> cases h <;> dsimp only
  case identify => exact .rfl
  case getState => exact .rfl
  case getCounters => exact .rfl
  case clearCounters => exact (clearAll_changes s).mono
  case setHeads args => exact (setHeads_changes args s).mono
  case loadHeadCal args => exact (loadHeadCal_changes args s).mono
  case loadWireType args => exact (loadWireType_changes args s).mono
  case setRunParams args => exact (setRunParams_changes args s).mono
  case setScanSpacing args => exact (setScanSpacing_changes args s).mono
  case setStrobe args => exact (setStrobe_changes args s).mono
  case setDistance args => exact (setDistance_changes args s).mono
  case zoneAppend args => exact (zoneAppend_changes args s).mono
  case zoneFlush => exact (zoneFlush_changes s).mono
  case headPass args => exact (headPass_changes args s).mono
  case start => exact (startRun_changes s).mono
  case stop => exact (stopRun_changes s).mono

theorem Quiet.changes {s t : State} (h : Quiet s t) : OnlyChanges [.out, .cmd] s t := by
  obtain ⟨o, f, r, k, rfl⟩ := h
  exact ⟨fun p hp => by cases p <;> simp_all [Agree], Eq.refl _⟩

end Sys2Proof.Machine
end

section
/-! SUPPORT. What each row of the table changes at most, and how an invariant of every step follows from one of every row. -/

namespace Sys2Proof.Machine

set_option Elab.async false

/-- All parts of the state. -/
def everyPart : List Part :=
  [.timebase, .held, .roof, .motion, .odo, .seq, .asm, .paths, .zones, .geo, .merge, .tracks, .span, .out, .cmd]

theorem onlyChanges_everyPart {s t : State} (h : t.pending = s.pending) : OnlyChanges everyPart s t :=
  ⟨fun p hp => absurd (by cases p <;> decide) hp, h⟩

/-! ### UNKNOWN_COMMAND, RESET and the reset line -/

/-- What an unknown command does once it is live: a listed code belongs to another row (R174). -/
def unknownRow (address code tag : Byte) (args : List Byte) (s : State) : State :=
  if commandCodes.contains code then s
  else takeCommand s address code tag args fun s => queueReply s code tag { result := .unknownCommand }

/-- How an unknown command ends: no event, turned away, or answered (R174). -/
theorem unknownRow_cases (s : State) (address code tag : Byte) (args : List Byte) :
    unknownRow address code tag args s = s ∨ TurnedAway s (unknownRow address code tag args s) ∨
      ∃ u, Opened s u ∧ unknownRow address code tag args s = queueReply u code tag { result := .unknownCommand } := by
  unfold unknownRow
  split
  · exact .inl rfl
  · exact .inr (takeCommand_cases s address code tag args _)

theorem unknownRow_quiet (s : State) (address code tag : Byte) (args : List Byte) :
    Quiet s (unknownRow address code tag args s) := by
  rcases unknownRow_cases s address code tag args with same | away | ⟨u, opened, ran⟩
  · rw [same]
    exact .rfl
  · exact away.quiet
  · rw [ran]
    exact opened.quiet.trans (queueReply_quiet _ _ _ _)

theorem unknownRow_changes (s : State) (address code tag : Byte) (args : List Byte) :
    OnlyChanges [.out, .cmd] s (unknownRow address code tag args s) := (unknownRow_quiet s address code tag args).changes

/-- What a RESET does once it is live. -/
def resetRow (address tag : Byte) (args : List Byte) (s : State) : State :=
  takeCommand s address 0x4F tag args fun s =>
    if args.isEmpty then resetCommand s tag else queueReply s 0x4F tag { result := .badLength }

/-- How a RESET ends: turned away, answered with BAD_LENGTH, or carried out (R174, R183). -/
theorem resetRow_cases (s : State) (address tag : Byte) (args : List Byte) :
    TurnedAway s (resetRow address tag args s) ∨
      ∃ u, Opened s u ∧
        (resetRow address tag args s = resetCommand u tag ∨
          resetRow address tag args s = queueReply u 0x4F tag { result := .badLength }) := by
  rcases takeCommand_cases s address 0x4F tag args fun s =>
      if args.isEmpty then resetCommand s tag else queueReply s 0x4F tag { result := .badLength } with away | ⟨u, opened, ran⟩
  · exact .inl away
  · refine .inr ⟨u, opened, ?_⟩
    rw [resetRow, ran]
    split
    · exact .inl rfl
    · exact .inr rfl

/-- Between the soft reset and the end of RESET only its reply and the STATUS record come (R183). -/
theorem resetCommand_quiet (s : State) (tag : Byte) : Quiet (softReset s) (resetCommand s tag) := by
  have replied := queueReply_quiet (softReset s) 0x4F tag
    { result := .done, data := byte s.asm.contexts.length ++ byte s.cmd.op.code }
  unfold resetCommand
  dsimp only
  split
  · exact replied
  · exact replied.trans (.of_out (offerStatus_changes _ _))

theorem resetRow_pending (s : State) (address tag : Byte) (args : List Byte) :
    (resetRow address tag args s).pending = s.pending := by
  rcases resetRow_cases s address tag args with away | ⟨u, opened, h | h⟩
  · exact away.quiet.changes.2
  · rw [h, (resetCommand_quiet u tag).changes.2]
    exact opened.quiet.changes.2
  · rw [h, (queueReply_quiet u _ _ _).changes.2]
    exact opened.quiet.changes.2

/-- HARD_RESET_END's meaning. -/
theorem hardResetEnd_quiet (s : State) (staddr : BitVec 4) (present : PortSet) (oda odb : Bool) :
    Quiet (hardValues s staddr present oda odb) (offerStatus (hardValues s staddr present oda odb) .operatingState) :=
  .of_out (offerStatus_changes _ _)

/-! ### What each row does, and what it changes -/

/-- What a row does, its reading of the reset line apart. -/
def meaning (c : Instr) (s : State) : State :=
  match c with
  | .profileFrame p a b => profileFrame s p a b
  | .headReplyFrame p a b => headReplyFrame s p a b
  | .motionFrame a b => motionFrame s a b
  | .frameFailed r rx => frameFailed s r rx
  | .lineChange oda odb late => lineChange s oda odb late
  | .silenceTimerExpiry p => silenceTimerExpiry s p
  | .slotStart p => slotStart s p
  | .exposureEnd p => exposureEnd s p
  | .busyWindowClose => busyWindowClose s
  | .deadlineReached scan => deadlineReached s scan
  | .holdAgeExpiry => holdAgeExpiry s
  | .downlinkEndDelimiter p => s.onPort p RoofPort.downlinkEnd
  | .scanResolution => scanResolution s
  | .geometryScan => geometryScan s
  | .rawListArrival => rawListArrival s
  | .clusterListArrival => clusterListArrival s
  | .trackListArrival => trackListArrival s
  | .runOpeningReport => runOpeningReport s
  | .scanFinishedReport => scanFinishedReport s
  | .drainCloseRequest => drainCloseRequest s
  | .stopListArrival => stopListArrival s
  | .trunkEndDelimiter => s.onOut Output.endFrame
  | .linkUp => s.onOut fun o => if s.held then { o with linkUp := true } else o.up
  | .linkDown => s.onOut fun o => if s.held then { o with linkUp := false } else o.down
  | .triggerArrival => triggerArrival s
  | .reset a tag args => resetRow a tag args s
  | .unknownCommand a code tag args => unknownRow a code tag args s
  | .hardReset => (hardValues s s.cmd.station s.cmd.present s.odo.oda s.odo.odb).onHeld fun _ => true
  | .hardResetEnd a m x y => offerStatus (hardValues s a m x y) .operatingState
  | c => match commandRow c with
    | some row => row.run s
    | none => s

/-- Whether a row does nothing while the reset line is held (R182): all rows but those of the trunk link and of the line. -/
def heedsReset : Instr → Bool
  | .linkUp => false
  | .linkDown => false
  | .hardReset => false
  | .hardResetEnd _ _ _ _ => false
  | _ => true

/-- Every row answers a next state: its meaning, or the same state while the reset line is held. -/
theorem exec_eq (c : Instr) (s : State) : exec c s = .next (if heedsReset c && s.held then s else meaning c s) := by
  cases c <;> rfl

/-- What a row's meaning keeps, the row keeps. -/
theorem exec_keeps {P : State → Prop} {c : Instr} {s t : State} (h : exec c s = .next t) (hs : P s)
    (hf : P (meaning c s)) : P t := by
  rw [exec_eq] at h
  cases h
  split
  · exact hs
  · exact hf

/-- The parts that a row of the table can change. -/
def footprint : Instr → List Part
  | .profileFrame _ _ _ => [.roof, .asm, .paths, .cmd, .out]
  | .headReplyFrame _ _ _ => [.roof, .out]
  | .motionFrame _ _ => [.motion]
  | .frameFailed r _ => [receiverPart r]
  | .lineChange _ _ _ => [.odo, .out, .motion, .seq, .asm, .paths, .cmd]
  | .silenceTimerExpiry _ => [.roof, .out, .asm, .paths, .cmd]
  | .slotStart _ => [.seq, .roof]
  | .exposureEnd _ => [.seq]
  | .busyWindowClose => [.seq]
  | .deadlineReached _ => [.asm, .paths, .cmd]
  | .holdAgeExpiry => [.motion]
  | .downlinkEndDelimiter _ => [.roof]
  | .scanResolution => [.paths, .zones, .out]
  | .geometryScan => [.paths, .geo]
  | .rawListArrival => [.paths, .merge]
  | .clusterListArrival => [.paths, .tracks, .cmd]
  | .trackListArrival => [.span, .paths, .out]
  | .runOpeningReport => [.zones, .paths, .roof, .seq, .cmd, .out]
  | .scanFinishedReport => [.zones, .paths, .roof, .seq, .cmd, .out]
  | .drainCloseRequest => [.paths, .tracks]
  | .stopListArrival => [.span, .paths, .out, .roof, .seq, .cmd]
  | .trunkEndDelimiter => [.out]
  | .linkUp => [.out]
  | .linkDown => [.out]
  | .triggerArrival => [.motion, .seq, .asm, .paths, .cmd, .roof, .out]
  | .reset _ _ _ => everyPart
  | .hardReset => everyPart
  | .hardResetEnd _ _ _ _ => everyPart
  | .identify _ _ _ => [.out, .cmd]
  | .getState _ _ _ => [.out, .cmd]
  | .getCounters _ _ _ => [.out, .cmd]
  | .clearCounters _ _ _ => [.roof, .motion, .odo, .seq, .asm, .zones, .geo, .merge, .tracks, .span, .out, .cmd]
  | .setHeads _ _ _ => [.roof, .out, .cmd]
  | .loadHeadCal _ _ _ => [.geo, .roof, .out, .cmd]
  | .loadWireType _ _ _ => [.merge, .out, .cmd]
  | .setRunParams _ _ _ => [.out, .cmd]
  | .setScanSpacing _ _ _ => [.odo, .out, .cmd]
  | .setStrobe _ _ _ => [.seq, .out, .cmd]
  | .setDistance _ _ _ => [.odo, .out, .cmd]
  | .zoneAppend _ _ _ => [.zones, .out, .cmd]
  | .zoneFlush _ _ _ => [.zones, .out, .cmd]
  | .headPass _ _ _ => [.roof, .out, .cmd]
  | .start _ _ _ => [.roof, .motion, .odo, .zones, .span, .out, .cmd]
  | .stop _ _ _ => [.out, .cmd, .paths]
  | .unknownCommand _ _ _ _ => [.out, .cmd]

theorem commandRow_changes {c : Instr} {row : CommandRow} (hc : commandRow c = some row) (s : State) :
    OnlyChanges row.parts s (row.run s) := by
  have sub : [.out, .cmd] ⊆ row.parts := by cases c <;> cases hc <;> dsimp only <;> decide
  have ends := row.ends s
  generalize row.run s = t at ends
  cases ends with
  | turned away => exact away.quiet.changes.mono sub
  | refused opened r => exact .last (queueReply_quiet _ _ _ r).changes (opened.quiet.changes.mono sub) sub
  | done opened _ =>
    exact .last (queueReply_quiet _ _ _ _).changes
      (.last (body_changes hc _) (opened.quiet.changes.mono sub) (List.Subset.refl _)) sub

/-- A row changes no part outside its footprint, and leaves the queue of waiting commands as it is. -/
theorem meaning_changes (c : Instr) (s : State) : OnlyChanges (footprint c) s (meaning c s) := by
  cases c with
  | profileFrame p a b => exact profileFrame_changes s p a b
  | headReplyFrame p a b => exact headReplyFrame_changes s p a b
  | motionFrame a b => exact motionFrame_changes s a b
  | frameFailed r rx => exact frameFailed_changes s r rx
  | lineChange oda odb late => exact lineChange_changes s oda odb late
  | silenceTimerExpiry p => exact silenceTimerExpiry_changes s p
  | slotStart p => exact slotStart_changes s p
  | exposureEnd p => exact exposureEnd_changes s p
  | busyWindowClose => exact busyWindowClose_changes s
  | deadlineReached scan => exact deadlineReached_changes s scan
  | holdAgeExpiry => exact holdAgeExpiry_changes s
  | downlinkEndDelimiter p => exact s.onPort_changes p _
  | scanResolution => exact scanResolution_changes s
  | geometryScan => exact geometryScan_changes s
  | rawListArrival => exact rawListArrival_changes s
  | clusterListArrival => exact clusterListArrival_changes s
  | trackListArrival => exact trackListArrival_changes s
  | runOpeningReport => exact runOpeningReport_changes s
  | scanFinishedReport => exact scanFinishedReport_changes s
  | drainCloseRequest => exact drainCloseRequest_changes s
  | stopListArrival => exact stopListArrival_changes s
  | trunkEndDelimiter => exact s.onOut_changes _
  | linkUp => exact s.onOut_changes _
  | linkDown => exact s.onOut_changes _
  | triggerArrival => exact triggerArrival_changes s
  | reset a tag args => exact onlyChanges_everyPart (resetRow_pending s a tag args)
  | unknownCommand a code tag args => exact unknownRow_changes s a code tag args
  | hardReset => exact onlyChanges_everyPart rfl
  | hardResetEnd a m x y => exact onlyChanges_everyPart (hardResetEnd_quiet s a m x y).changes.2
  | identify a tag args => exact commandRow_changes (c := .identify a tag args) rfl s
  | getState a tag args => exact commandRow_changes (c := .getState a tag args) rfl s
  | getCounters a tag args => exact commandRow_changes (c := .getCounters a tag args) rfl s
  | clearCounters a tag args => exact commandRow_changes (c := .clearCounters a tag args) rfl s
  | setHeads a tag args => exact commandRow_changes (c := .setHeads a tag args) rfl s
  | loadHeadCal a tag args => exact commandRow_changes (c := .loadHeadCal a tag args) rfl s
  | loadWireType a tag args => exact commandRow_changes (c := .loadWireType a tag args) rfl s
  | setRunParams a tag args => exact commandRow_changes (c := .setRunParams a tag args) rfl s
  | setScanSpacing a tag args => exact commandRow_changes (c := .setScanSpacing a tag args) rfl s
  | setStrobe a tag args => exact commandRow_changes (c := .setStrobe a tag args) rfl s
  | setDistance a tag args => exact commandRow_changes (c := .setDistance a tag args) rfl s
  | zoneAppend a tag args => exact commandRow_changes (c := .zoneAppend a tag args) rfl s
  | zoneFlush a tag args => exact commandRow_changes (c := .zoneFlush a tag args) rfl s
  | headPass a tag args => exact commandRow_changes (c := .headPass a tag args) rfl s
  | start a tag args => exact commandRow_changes (c := .start a tag args) rfl s
  | stop a tag args => exact commandRow_changes (c := .stop a tag args) rfl s

theorem exec_changes {c : Instr} {s t : State} (h : exec c s = .next t) : OnlyChanges (footprint c) s t :=
  exec_keeps h .rfl (meaning_changes c s)

/-! ### What COMMAND rows keep -/

theorem standbyOnly_iff {op : OpState} : standbyOnly op = true ↔ op = .standby := beq_iff_eq

theorem meaning_command {c : Instr} {row : CommandRow} (h : commandRow c = some row) (s : State) :
    meaning c s = row.run s := by
  cases c <;> cases h <;> rfl

/-- What the bookkeeping of a command cannot break, and the body keeps, the row keeps. -/
theorem command_keeps {P : State → Prop} (quiet : ∀ {s t}, Quiet s t → P s → P t) {c : Instr} {row : CommandRow}
    (hc : commandRow c = some row) (body : ∀ u, row.allowed u.cmd.op = true → P u → P (row.body u).1) {s : State}
    (hs : P s) : P (meaning c s) := by
  rw [meaning_command hc]
  have ends := row.ends s
  generalize row.run s = t at ends
  cases ends with
  | turned away => exact quiet away.quiet hs
  | refused opened r => exact quiet (queueReply_quiet _ _ _ r) (quiet opened.quiet hs)
  | done opened allowed => exact quiet (queueReply_quiet _ _ _ _) (body _ allowed (quiet opened.quiet hs))

/-- What the bookkeeping of a command cannot break, and a soft reset keeps, RESET keeps. -/
theorem reset_keeps {P : State → Prop} (quiet : ∀ {s t}, Quiet s t → P s → P t) (soft : ∀ {s}, P s → P (softReset s))
    {address tag : Byte} {args : List Byte} {s : State} (hs : P s) : P (meaning (.reset address tag args) s) := by
  show P (resetRow address tag args s)
  rcases resetRow_cases s address tag args with away | ⟨u, opened, ran | ran⟩
  · exact quiet away.quiet hs
  · rw [ran]
    exact quiet (resetCommand_quiet u tag) (soft (quiet opened.quiet hs))
  · rw [ran]
    exact quiet (queueReply_quiet _ _ _ _) (quiet opened.quiet hs)

/-! ### From rows to steps -/

/-- An invariant that neither the queue of waiting commands nor the timebase enters, and that every row's meaning keeps, every
step keeps. -/
theorem kept_of_exec {inv : State → Prop} (pending : ∀ s q, inv s → inv { s with pending := q })
    (timebase : ∀ s n, inv s → inv { s with timebase := n })
    (row : ∀ c s, inv s → inv (meaning c s)) : Kept inv := by
  intro s t hs h
  unfold step at h
  split at h
  · next c rest _ => exact exec_keeps h (pending s rest hs) (row c _ (pending s rest hs))
  · cases h
    unfold idle
    generalize (if s.held = true then [] else dueEvents s) = due
    dsimp only
    split
    · exact timebase s _ hs
    · exact pending s _ hs

/-- Settles O2: every row answers by its form, and no row's footprint holds the queue of waiting commands. -/
theorem everyCommandAnswersNext : Obligations.EveryCommandAnswersNext := by
  intro c s
  exact ⟨_, exec_eq c s, (exec_changes (exec_eq c s)).2⟩

end Sys2Proof.Machine
end

section
/-! SUPPORT. The roof ports and the strobe lines: what keeps them legal (R5 to R9, R17, R43 to R45). -/

namespace Sys2Proof.Machine

set_option Elab.async false

/-! ### The span closed report at drain control -/

/-- The state in which the part enters STANDBY, before its STATUS record (R7, R38, R181). -/
def standbyState (s : State) : State :=
  { s with
    roof := { s.roof with ports := Quad.ofFn fun p => (s.roof.ports.get p).standby }
    seq := { s.seq with active := s.seq.staged.getD s.seq.active, staged := none }
    cmd := { s.cmd with op := .standby, drain := .none } }

theorem enterStandby_quiet (s : State) : Quiet (standbyState s) (enterStandby s) := .of_out (offerStatus_changes _ _)

/-- How a span closed report ends at drain control (R181). -/
inductive ClosedSpan (s : State) : State → Prop
  | other (h : s.cmd.drain ≠ .waitingSpan) : ClosedSpan s s
  | assembly (h : s.cmd.drain = .waitingSpan) (used : s.asm.contexts ≠ []) :
      ClosedSpan s { s with cmd := { s.cmd with drain := .waitingAssembly } }
  | pipeline (h : s.cmd.drain = .waitingSpan) (free : s.asm.contexts = []) (late : s.cmd.lateMark = true)
      (busy : s.cmd.tally ≠ 0) : ClosedSpan s { s with cmd := { s.cmd with drain := .waitingPipeline } }
  | again (h : s.cmd.drain = .waitingSpan) (free : s.asm.contexts = []) (late : s.cmd.lateMark = true)
      (done : s.cmd.tally = 0) :
      ClosedSpan s { s with cmd := { s.cmd with lateMark := false }, paths := { s.paths with drainRequest := true } }
  | standby (h : s.cmd.drain = .waitingSpan) (free : s.asm.contexts = []) (early : s.cmd.lateMark = false) :
      ClosedSpan s (enterStandby s)

theorem spanClosed_ends (s : State) : ClosedSpan s (spanClosed s) := by
  unfold spanClosed
  split
  · next h =>
    replace h : s.cmd.drain = .waitingSpan := by simpa using h
    split
    · next used => exact .assembly h (by simpa using used)
    · next free =>
      replace free : s.asm.contexts = [] := by simpa using free
      split
      · next late =>
        rw [testTally_eq]
        split
        · next done =>
          have again := ClosedSpan.again h free late done.2
          rw [← h] at *
          exact again
        · next busy => exact .pipeline h free late fun k => busy ⟨rfl, k⟩
      · next early => exact .standby h free (by simpa using early)
  · next h => exact .other (by simpa using h)

/-- What a waiting span closed report does: nothing yet, or it reaches drain control (R181, log entry 21). -/
theorem settleSpanClosed_cases (s : State) :
    settleSpanClosed s = s ∨
      s.paths.spanClosed = true ∧ s.paths.reports = [] ∧ s.seq.onWay = 0 ∧
        ClosedSpan { s with paths := { s.paths with spanClosed := false } } (settleSpanClosed s) := by
  rw [settleSpanClosed_eq]
  split
  · next h => exact .inr ⟨h.1, h.2.1, h.2.2, spanClosed_ends _⟩
  · exact .inl rfl

/-- Of the sequencer, a span closed report reaches the plan store alone (R38). -/
theorem ClosedSpan.seq {s t : State} (h : ClosedSpan s t) :
    ∃ active staged, t.seq = { s.seq with active := active, staged := staged } := by
  cases h with
  | standby => exact ⟨_, _, (enterStandby_quiet _).changes.1 .seq (by decide)⟩
  | _ => exact ⟨s.seq.active, s.seq.staged, rfl⟩

theorem settleSpanClosed_seq (s : State) :
    ∃ active staged, (settleSpanClosed s).seq = { s.seq with active := active, staged := staged } := by
  rcases settleSpanClosed_cases s with h | ⟨-, -, -, h⟩
  · exact ⟨s.seq.active, s.seq.staged, by rw [h]⟩
  · exact h.seq

/-! ### The strobe lines (Law 9) -/

/-- The strobe lines are read from the lines and the slots of the sequencer. -/
theorem LinesLegal.congr {s t : State} (h : LinesLegal s) (hl : t.seq.lines = s.seq.lines := by rfl)
    (hs : t.seq.slots = s.seq.slots := by rfl) : LinesLegal t := by
  intro p
  rw [hl, Sequencer.exposing, hs]
  exact h p

theorem LinesLegal.of_changes {parts : List Part} {s t : State} (k : OnlyChanges parts s t) (h : LinesLegal s)
    (hp : .seq ∉ parts := by decide) : LinesLegal t :=
  h.congr (congrArg Sequencer.lines (k.1 .seq hp)) (congrArg Sequencer.slots (k.1 .seq hp))

/-- With every line deasserted and no slot exposed, the lines are as the slots say. -/
theorem linesLegal_dark {s : State} (hl : s.seq.lines = Quad.replicate false) (hs : s.seq.exposing = none) :
    LinesLegal s := by
  intro p
  simp [hl, hs]

theorem slotDue_some {s : State} {p : Port} {q : SlotSequence} {slot : Slot} {rest : List Slot}
    (h : slotDue s p = some (q, slot, rest)) :
    s.seq.slots = some q ∧ q.current = none ∧ q.remaining = slot :: rest ∧ slot.port = p := by
  unfold slotDue at h
  split at h
  · next k hk =>
    split at h
    · next hc hr =>
      split at h
      · next due =>
        cases h
        exact ⟨hk, hc, hr, due.1⟩
      · cases h
    · cases h
  · cases h

theorem exposureDue_some {s : State} {p : Port} {q : SlotSequence} (h : exposureDue s p = some q) :
    s.seq.exposing = some p := by
  unfold exposureDue at h
  split at h
  · next k hk =>
    split at h
    · next slot hc =>
      split at h
      · next due =>
        rw [Sequencer.exposing, hk]
        simp [hc, due.1]
      · cases h
    · cases h
  · cases h

theorem slotStart_linesLegal {s : State} (p : Port) (h : LinesLegal s) : LinesLegal (slotStart s p) := by
  unfold slotStart
  split
  · next q slot rest due =>
    obtain ⟨hq, hc, -, hp⟩ := slotDue_some due
    have dark : ∀ r, s.seq.lines.get r = false := fun r =>
      Bool.eq_false_iff.2 fun k => by simpa [Sequencer.exposing, hq, hc] using (h r).1 k
    intro r
    simp only [State.onPort_seq, State.onSeq_seq, Quad.get_set, dark, Sequencer.exposing, Option.bind_some, Option.map_some,
      Option.some.injEq, hp]
    exact ⟨fun k => by_contra fun n => by simp [Ne.symm n] at k, fun k => by simp [k]⟩
  · exact h

theorem exposureEnd_linesLegal {s : State} (p : Port) (h : LinesLegal s) : LinesLegal (exposureEnd s p) := by
  unfold exposureEnd
  split
  · next q due =>
    refine linesLegal_dark (Quad.ext_get fun r => ?_) ?_
    · have lit := h r
      simp only [exposureDue_some due, Option.some.injEq] at lit
      simp only [State.onSeq_seq, Quad.get_set, Quad.get_replicate]
      split
      · rfl
      · next n => exact Bool.eq_false_iff.2 fun k => n (lit.1 k).symm
    · simp only [State.onSeq_seq, Sequencer.exposing]
      split <;> rfl
  · exact h

/-- A scan starts with every line deasserted (R43, log entry 16). -/
theorem startScan_linesLegal (s : State) : LinesLegal (startScan s) := by
  have dark : ∀ now enabled, (s.seq.startScan now enabled).lines = Quad.replicate false ∧
      (s.seq.startScan now enabled).exposing = none := by
    intro now enabled
    refine ⟨rfl, ?_⟩
    simp only [Sequencer.startScan, Sequencer.exposing]
    split <;> rfl
  have started := fun f g h => linesLegal_dark (s := ((s.onMotion f).onSeq fun q => q.startScan g s.roof.enabled).onAsm h)
    (dark _ _).1 (dark _ _).2
  unfold startScan
  dsimp only
  split
  · exact .of_changes (release_changes _) (.of_changes (State.onAsm_changes _ _) (started _ _ _))
  · exact started _ _ _

theorem handleTrigger_linesLegal {s : State} (h : LinesLegal s) : LinesLegal (handleTrigger s) := by
  unfold handleTrigger
  split
  · exact h.congr
  · split
    · exact h.congr
    · exact startScan_linesLegal s

theorem sendTrigger_linesLegal {s : State} (late : Bool) (h : LinesLegal s) : LinesLegal (sendTrigger s late) := by
  unfold sendTrigger
  split
  · exact h.congr
  · exact handleTrigger_linesLegal h

theorem lineChange_linesLegal {s : State} (oda odb late : Bool) (h : LinesLegal s) :
    LinesLegal (lineChange s oda odb late) := by
  unfold lineChange
  dsimp only
  split
  · exact h
  · split
    · exact h.congr
    · have moved : ∀ f k, LinesLegal (countStep (accumulate (s.onOdo f) k)) := fun f k =>
        .of_changes (countStep_changes _) (.of_changes (accumulate_changes _ _) (.of_changes (s.onOdo_changes f) h))
      split
      · exact sendTrigger_linesLegal late (moved _ _)
      · exact moved _ _

theorem settleSpanClosed_linesLegal {s : State} (h : LinesLegal s) : LinesLegal (settleSpanClosed s) := by
  obtain ⟨active, staged, k⟩ := settleSpanClosed_seq s
  exact h.congr (by rw [k]) (by rw [k])

theorem triggerArrival_linesLegal {s : State} (h : LinesLegal s) : LinesLegal (triggerArrival s) := by
  unfold triggerArrival
  split
  · exact settleSpanClosed_linesLegal (handleTrigger_linesLegal (h.congr))
  · exact h

theorem LinesLegal.quiet {s t : State} (k : Quiet s t) (h : LinesLegal s) : LinesLegal t := .of_changes k.changes h

theorem setStrobe_linesLegal {s : State} (args : List Byte) (h : LinesLegal s) : LinesLegal (setStrobe args s).1 := by
  have accepted : ∀ op plan, LinesLegal (s.onSeq fun q => q.accept op plan) := fun op plan => by
    refine h.congr ?_ ?_ <;> (simp only [State.onSeq_seq, Sequencer.accept]; split <;> rfl)
  unfold setStrobe
  dsimp only
  split
  · exact h
  · split
    · exact h
    · exact accepted _ _

theorem meaning_linesLegal (c : Instr) (s : State) (h : LinesLegal s) : LinesLegal (meaning c s) := by
  by_cases hc : Part.seq ∈ footprint c
  · cases c <;> simp only [footprint, List.mem_cons, List.not_mem_nil, reduceCtorEq, or_false, or_self] at hc
    case frameFailed r rx => exact .of_changes (frameFailed_changes s r rx) h (by cases r <;> simp [receiverPart])
    case lineChange oda odb late => exact lineChange_linesLegal oda odb late h
    case slotStart p => exact slotStart_linesLegal p h
    case exposureEnd p => exact exposureEnd_linesLegal p h
    case busyWindowClose =>
      show LinesLegal (if busyDue s = true then _ else s)
      split
      · exact h.congr
      · exact h
    case triggerArrival => exact triggerArrival_linesLegal h
    case runOpeningReport =>
      show LinesLegal (runOpeningReport s)
      unfold runOpeningReport
      split
      · exact settleSpanClosed_linesLegal (h.congr)
      · exact h
    case scanFinishedReport =>
      show LinesLegal (scanFinishedReport s)
      unfold scanFinishedReport
      split
      · exact settleSpanClosed_linesLegal (.of_changes (finishScan_changes _ _) (h.congr))
      · exact h
    case stopListArrival =>
      show LinesLegal (stopListArrival s)
      unfold stopListArrival
      split
      · exact settleSpanClosed_linesLegal (.of_changes (State.onPaths_changes _ _)
          (.of_changes (spanClosing_changes _ _) (h.congr)))
      · exact h
    case clearCounters a tag args => exact command_keeps (c := .clearCounters a tag args) LinesLegal.quiet rfl (fun u _ hu => hu.congr) h
    case setStrobe a tag args => exact command_keeps (c := .setStrobe a tag args) LinesLegal.quiet rfl (fun u _ hu => setStrobe_linesLegal args hu) h
    case reset a tag args => exact reset_keeps LinesLegal.quiet (fun _ => linesLegal_dark rfl rfl) h
    case hardReset => exact linesLegal_dark rfl rfl
    case hardResetEnd a m x y => exact .quiet (hardResetEnd_quiet s a m x y) (linesLegal_dark rfl rfl)
  · exact .of_changes (meaning_changes c s) h hc

theorem linesLegal_kept : Kept LinesLegal :=
  kept_of_exec (fun _ _ h => h) (fun _ _ h => h) meaning_linesLegal

end Sys2Proof.Machine
end

section
/-! SUPPORT. The roof ports: what keeps them legal (R5 to R9, R17), and the command unit where drain control alone moves. -/

namespace Sys2Proof.Machine

set_option Elab.async false

/-! ### Drain control alone moves in the command unit -/

/-- From s to t nothing of the command unit changes but drain progress, late release mark and tally. -/
def DrainOnly (s t : State) : Prop :=
  ∃ d l n, t.cmd = { s.cmd with drain := d, lateMark := l, tally := n }

theorem DrainOnly.of_eq {s t : State} (h : t.cmd = s.cmd) : DrainOnly s t :=
  ⟨s.cmd.drain, s.cmd.lateMark, s.cmd.tally, h⟩

theorem DrainOnly.of_changes {parts : List Part} {s t : State} (h : OnlyChanges parts s t)
    (hp : .cmd ∉ parts := by decide) : DrainOnly s t := .of_eq (h.1 .cmd hp)

theorem DrainOnly.trans {s t u : State} (h : DrainOnly s t) (k : DrainOnly t u) : DrainOnly s u := by
  obtain ⟨_, _, _, hs⟩ := h
  obtain ⟨d, l, n, ht⟩ := k
  exact ⟨d, l, n, by rw [ht, hs]⟩

theorem testTally_drainOnly (s : State) : DrainOnly s (testTally s) := by
  rw [testTally_eq]
  split
  · exact ⟨_, _, s.cmd.tally, rfl⟩
  · exact .of_eq rfl

theorem release_drainOnly (s : State) : DrainOnly s (release s) := by
  by_cases h : s.asm.contexts.takeWhile (·.complete) = []
  · exact .of_eq (by simp [release, h])
  · rw [release_eq s _ _ rfl rfl h]
    unfold CommandUnit.released
    split
    · exact .of_eq (by simp [*])
    · exact ⟨_, _, _, rfl⟩

theorem assemble_drainOnly (s : State) (v : Verdict) (prof : Profile) : DrainOnly s (assemble s v prof) := by
  cases v with
  | accepted => exact (DrainOnly.of_eq rfl).trans (release_drainOnly _)
  | _ => exact .of_eq rfl

theorem startScan_drainOnly (s : State) : DrainOnly s (startScan s) := by
  unfold startScan
  dsimp only
  split
  · exact (DrainOnly.of_eq rfl).trans (release_drainOnly _)
  · exact .of_eq rfl

theorem handleTrigger_drainOnly (s : State) : DrainOnly s (handleTrigger s) := by
  unfold handleTrigger
  split
  · exact .of_eq rfl
  · split
    · exact .of_eq rfl
    · exact startScan_drainOnly s

theorem lineChange_drainOnly (s : State) (oda odb late : Bool) : DrainOnly s (lineChange s oda odb late) := by
  have moved : ∀ f k, DrainOnly s (countStep (accumulate (s.onOdo f) k)) := fun f k =>
    ((DrainOnly.of_changes (s.onOdo_changes f)).trans (.of_changes (accumulate_changes _ k))).trans
      (.of_changes (countStep_changes _))
  unfold lineChange sendTrigger
  dsimp only
  split
  · exact .of_eq rfl
  · split
    · exact .of_eq rfl
    · split
      · split
        · exact (moved _ _).trans (.of_eq rfl)
        · exact (moved _ _).trans (handleTrigger_drainOnly _)
      · exact moved _ _

/-! ### One port -/

section
variable {e : Bool} {op : OpState} {c k : RoofPort}

/-- A port is legal by its state, its timer and its downlink alone. -/
theorem PortLegal.congr (h : PortLegal e op c) (hs : k.state = c.state := by rfl) (ht : k.silence = c.silence := by rfl)
    (hx : k.tx = c.tx := by rfl) (hw : k.waiting = c.waiting := by rfl) (hr : k.relay = c.relay := by rfl) :
    PortLegal e op k := by
  obtain ⟨timer, disabled, idle, relay, quiet⟩ := h
  exact ⟨by rw [ht, hs]; exact timer, by rw [hs]; exact disabled, by rw [hs]; exact idle, by rw [hx, hr]; exact relay,
    by rw [hx, hw, hr]; exact quiet⟩

/-- A port that is neither DISABLED nor IDLE can go to another such state, with its timer as that state asks. -/
theorem PortLegal.move (h : PortLegal e op c) (hd : c.state ≠ .disabled) (hi : c.state ≠ .idle) {state : PortState}
    {silence : Option Time} (kd : state ≠ .disabled) (ki : state ≠ .idle)
    (timer : silence.isSome = true ↔ state = .seeking ∨ state = .active) :
    PortLegal e op { c with state := state, silence := silence } where
  timer := timer
  disabled := ⟨fun k => absurd k kd, fun k => absurd (h.disabled.2 k) hd⟩
  idle he := ⟨fun k => absurd k ki, fun k => absurd ((h.idle he).2 k) hi⟩
  relay := h.relay
  quiet := h.quiet

/-- A downlink that starts leaves nothing waiting where it is idle (R17). -/
theorem RoofPort.startDownlink_quiet (c : RoofPort) (h : c.startDownlink.tx = .idle) :
    c.startDownlink.waiting = none ∧ c.startDownlink.relay = none := by
  unfold RoofPort.startDownlink at h ⊢
  split
  · split
    · next w => simp [*] at h
    · split
      · simp [*] at h
      · next hw hr => exact ⟨hw, by simpa using hr⟩
  · next hx => exact absurd (by simpa [hx] using h) hx

theorem RoofPort.startDownlink_relay (c : RoofPort) : c.startDownlink.relay = c.relay := by
  unfold RoofPort.startDownlink
  split
  · split
    · rfl
    · split <;> rfl
  · rfl

theorem RoofPort.startDownlink_config (c : RoofPort) (hc : c.tx = .config → c.relay.isSome = true)
    (h : c.startDownlink.tx = .config) : c.relay.isSome = true := by
  unfold RoofPort.startDownlink at h
  split at h
  · split at h
    · cases h
    · split at h
      · assumption
      · exact hc h
  · exact hc h

theorem RoofPort.startDownlink_state (c : RoofPort) :
    c.startDownlink.state = c.state ∧ c.startDownlink.silence = c.silence := by
  unfold RoofPort.startDownlink
  split
  · split
    · exact ⟨rfl, rfl⟩
    · split <;> exact ⟨rfl, rfl⟩
  · exact ⟨rfl, rfl⟩

/-- A port whose downlink starts is legal whatever has just been requested of it. -/
theorem PortLegal.started (h : PortLegal e op c) (hs : k.state = c.state := by rfl) (ht : k.silence = c.silence := by rfl)
    (hr : k.tx = .config → k.relay.isSome = true) : PortLegal e op k.startDownlink := by
  obtain ⟨es, et⟩ := k.startDownlink_state
  exact {
    timer := by rw [et, es, ht, hs]; exact h.timer
    disabled := by rw [es, hs]; exact h.disabled
    idle := by rw [es, hs]; exact h.idle
    relay := fun x => by rw [k.startDownlink_relay]; exact k.startDownlink_config hr x
    quiet := k.startDownlink_quiet }

theorem PortLegal.requestTrigger (h : PortLegal e op c) (scan : Word16) (exposure : Nat) :
    PortLegal e op (c.requestTrigger scan exposure) := h.started (hr := h.relay)

theorem PortLegal.placeRelay (h : PortLegal e op c) (bytes : List Byte) : PortLegal e op (c.placeRelay bytes) :=
  h.started (hr := fun _ => rfl)

theorem PortLegal.downlinkEnd (h : PortLegal e op c) : PortLegal e op c.downlinkEnd := by
  unfold RoofPort.downlinkEnd
  split
  · exact h
  · exact h.started (hr := nofun)
  · exact h.started (hr := nofun)

/-- At the entry to STANDBY every enabled port is IDLE (R7). -/
theorem PortLegal.standby (h : PortLegal e op c) : PortLegal e .standby c.standby := by
  have enabled : e = true ↔ c.state ≠ .disabled := by rw [ne_eq, h.disabled]; simp
  have timer := h.timer
  unfold RoofPort.standby
  split
  · next hs => exact ⟨timer, h.disabled, fun he => absurd hs (enabled.1 he), h.relay, h.quiet⟩
  · next hs => exact ⟨timer, h.disabled, fun _ => iff_of_true hs rfl, h.relay, h.quiet⟩
  · next hd _ =>
    exact ⟨by simp, by simpa using enabled.2 hd, fun _ => iff_of_true rfl rfl, h.relay, h.quiet⟩

/-- A port becomes DISABLED as its enable goes (R6). -/
theorem PortLegal.disable (h : PortLegal e op c) (hi : c.state = .idle) : PortLegal false .standby c.disable := by
  have timer : c.silence.isSome = true ↔ PortState.disabled = .seeking ∨ PortState.disabled = .active := by
    simpa [hi] using h.timer
  unfold RoofPort.disable
  split
  · next hx =>
    refine ⟨timer, by simp, nofun, fun x => ?_, fun x => ?_⟩
    · simp at hx
      exact absurd x hx.2
    · exact ⟨(h.quiet x).1, rfl⟩
  · exact ⟨timer, by simp, nofun, h.relay, h.quiet⟩

/-- In STANDBY a port takes the new mask (R6). -/
theorem PortLegal.underMask (h : PortLegal e .standby c) (on : Bool) : PortLegal on .standby (c.underMask on) := by
  have timer := h.timer
  have state : c.state = .disabled ∨ c.state = .idle := by
    cases he : e
    · exact .inl (h.disabled.2 he)
    · exact .inr ((h.idle he).2 rfl)
  rcases state with hs | hs <;> cases on <;> simp only [RoofPort.underMask, hs]
  case inl.false => exact ⟨timer, by simp [hs], nofun, h.relay, h.quiet⟩
  case inl.true => exact ⟨by simpa [hs] using timer, by simp, fun _ => by simp, h.relay, h.quiet⟩
  case inr.false => exact h.disable hs
  case inr.true => exact ⟨timer, by simp [hs], fun _ => by simp [hs], h.relay, h.quiet⟩

/-- At START an IDLE port is SEEKING with its timer started (R7). -/
theorem PortLegal.begin_ (h : PortLegal e .standby c) (now : Time) : PortLegal e .running (c.begin_ now) := by
  unfold RoofPort.begin_
  split
  · next hs => exact ⟨by simp, by simpa [hs] using h.disabled, fun _ => by simp, h.relay, h.quiet⟩
  · next hs =>
    exact ⟨h.timer, h.disabled, fun he => absurd ((h.idle he).2 rfl) hs, h.relay, h.quiet⟩

/-- Where no enabled port is IDLE it stays so from RUNNING to DRAINING. -/
theorem PortLegal.drain (h : PortLegal e .running c) : PortLegal e .draining c :=
  ⟨h.timer, h.disabled, fun he => by simpa using h.idle he, h.relay, h.quiet⟩

theorem softPort_legal (enabled : PortSet) (p : Port) (c : RoofPort) :
    PortLegal (enabled.get p) .standby (softPort enabled p c) := by
  unfold softPort
  cases enabled.get p <;> exact ⟨by simp, by simp, by simp, by simp, by simp⟩

theorem hardPort_legal (present : PortSet) (p : Port) : PortLegal (present.get p) .standby (hardPort present p) := by
  unfold hardPort
  cases present.get p <;> exact ⟨by simp, by simp, by simp, by simp, by simp⟩

end

/-! ### The four ports -/

/-- What leaves the mask, the operating state and the straps, and keeps each port legal, keeps the ports legal. -/
theorem PortsLegal.congr {s t : State} (h : PortsLegal s)
    (hp : ∀ p, PortLegal (s.roof.enabled.get p) s.cmd.op (s.port p) → PortLegal (s.roof.enabled.get p) s.cmd.op (t.port p))
    (he : t.roof.enabled = s.roof.enabled := by rfl) (ho : t.cmd.op = s.cmd.op := by rfl)
    (hm : t.cmd.present = s.cmd.present := by rfl) : PortsLegal t :=
  ⟨fun p => by rw [he, ho]; exact hp p (h.port p), fun p => by rw [he, hm]; exact h.present p⟩

theorem PortsLegal.of_drainOnly {parts : List Part} {s t : State} (k : OnlyChanges parts s t) (d : DrainOnly s t)
    (h : PortsLegal s) (hp : .roof ∉ parts := by decide) : PortsLegal t := by
  have roof : t.roof = s.roof := k.1 .roof hp
  obtain ⟨_, _, _, cmd⟩ := d
  exact h.congr (fun p hp => by rw [State.port, roof]; exact hp) (by rw [roof]) (by rw [cmd]) (by rw [cmd])

theorem PortsLegal.of_changes {parts : List Part} {s t : State} (k : OnlyChanges parts s t) (h : PortsLegal s)
    (hp : .roof ∉ parts := by decide) (hc : .cmd ∉ parts := by decide) : PortsLegal t :=
  h.of_drainOnly k (.of_changes k hc) hp

theorem PortsLegal.quiet {s t : State} (k : Quiet s t) (h : PortsLegal s) : PortsLegal t := by
  obtain ⟨o, f, r, k, rfl⟩ := k
  exact h.congr fun _ hp => hp

theorem PortsLegal.onPort {s : State} (h : PortsLegal s) (p : Port) {f : RoofPort → RoofPort}
    (hf : PortLegal (s.roof.enabled.get p) s.cmd.op (s.port p) → PortLegal (s.roof.enabled.get p) s.cmd.op (f (s.port p))) :
    PortsLegal (s.onPort p f) := by
  refine h.congr fun q hq => ?_
  rw [State.onPort_port]
  split
  · next e => subst e; exact hf hq
  · exact hq

theorem PortsLegal.countPort {s : State} (h : PortsLegal s) (p : Port) (f : PortCounters → PortCounters) :
    PortsLegal (s.countPort p f) := h.onPort p fun hp => hp.congr

theorem PortsLegal.countRx {s : State} (h : PortsLegal s) (r : Receiver) (x : RxResult) : PortsLegal (s.countRx r x) := by
  cases r with
  | roof p => exact h.countPort p fun c => { c with rx := c.rx.count x }
  | motion => exact h.congr fun _ hp => hp
  | trunk => exact h.congr fun _ hp => hp

theorem PortsLegal.withOpenFrame {s : State} (h : PortsLegal s) (r : Receiver) (w : Option OpenFrame) :
    PortsLegal (s.withOpenFrame r w) := by
  cases r with
  | roof p => exact h.onPort p fun hp => hp.congr
  | motion => exact h.congr fun _ hp => hp
  | trunk => exact h.congr fun _ hp => hp

theorem PortsLegal.settle {s : State} (h : PortsLegal s) (r : Receiver) (f : Frame) : PortsLegal (settle s r f) := by
  unfold Machine.settle
  split
  · exact h
  · split
    · exact h.withOpenFrame r none
    · exact (h.withOpenFrame r none).countRx r _

theorem PortsLegal.frameFailed {s : State} (h : PortsLegal s) (r : Receiver) (rx : Reception) :
    PortsLegal (frameFailed s r rx) := by
  unfold Machine.frameFailed
  dsimp only
  split
  · exact h.withOpenFrame r _
  · exact (h.withOpenFrame r _).countRx r _
  · split
    · exact h
    · exact (h.withOpenFrame r none).countRx r _

theorem PortsLegal.goodFrame {s : State} (h : PortsLegal s) (p : Port) : PortsLegal (goodFrame s p) := by
  unfold Machine.goodFrame
  split
  · exact h
  · exact h
  · next hs => exact h.onPort p fun hp => hs ▸ hp.move (by simp [hs]) (by simp [hs]) (by simp) (by simp) (by simp)
  · next hd hi ha =>
    exact .quiet (.of_out (offerStatus_changes _ _))
      (h.onPort p fun hp => hp.move hd hi (by simp) (by simp) (by simp))

theorem PortsLegal.forward {s : State} (h : PortsLegal s) (p : Port) (f : Frame) : PortsLegal (forward s p f) := by
  unfold Machine.forward
  dsimp only
  split
  · exact h
  · split
    · exact .quiet (.of_out (offerRaw_changes _ _)) (h.onPort p fun hp => hp.congr)
    · exact h.onPort p fun hp => hp.congr

theorem PortsLegal.handProfile {s : State} (h : PortsLegal s) (p : Port) (f : Frame) : PortsLegal (handProfile s p f) := by
  have judged : ∀ k v prof k', PortsLegal ((assemble (s.countPort p k) v prof).countPort p k') := fun k v prof k' =>
    ((h.countPort p k).of_drainOnly (assemble_changes _ v prof) (assemble_drainOnly _ v prof)).countPort p k'
  unfold Machine.handProfile
  dsimp only
  split
  · exact (judged _ _ _ _).forward p f
  · exact judged _ _ _ _

theorem PortsLegal.takeProfile {s : State} (h : PortsLegal s) (p : Port) (f : Frame) : PortsLegal (takeProfile s p f) := by
  have counted : ∀ k, PortsLegal (s.countPort p k) := h.countPort p
  unfold Machine.takeProfile
  dsimp only
  split
  · exact (counted _).countPort p _
  · exact (counted _).countPort p _
  · exact (counted _).handProfile p f

theorem PortsLegal.profileFrame {s : State} (h : PortsLegal s) (p : Port) (address : Byte) (payload : List Byte) :
    PortsLegal (profileFrame s p address payload) := by
  have closed : ∀ f x, PortsLegal ((Machine.settle s (.roof p) f).countRx (.roof p) x) := fun f x =>
    (h.settle (.roof p) f).countRx (.roof p) x
  unfold Machine.profileFrame
  dsimp only
  split
  · exact closed _ _
  · exact ((closed _ _).goodFrame p).takeProfile p _

theorem PortsLegal.headReplyFrame {s : State} (h : PortsLegal s) (p : Port) (address : Byte) (payload : List Byte) :
    PortsLegal (headReplyFrame s p address payload) := by
  have closed : ∀ f x, PortsLegal ((Machine.settle s (.roof p) f).countRx (.roof p) x) := fun f x =>
    (h.settle (.roof p) f).countRx (.roof p) x
  unfold Machine.headReplyFrame relayReply
  dsimp only
  split
  · exact closed _ _
  · split
    · exact ((closed _ _).goodFrame p).countPort p _
    · exact .quiet (.of_out (offerB_changes _ _)) (((closed _ _).goodFrame p).countPort p _)

theorem silenceDue_timer {s : State} {p : Port} (h : silenceDue s p = true) : (s.port p).silence.isSome = true := by
  unfold silenceDue at h
  split at h
  · next hs => simp [hs]
  · cases h

theorem PortsLegal.silenceTimerExpiry {s : State} (h : PortsLegal s) (p : Port) : PortsLegal (silenceTimerExpiry s p) := by
  unfold Machine.silenceTimerExpiry
  split
  · next due =>
    have lost := h.onPort p (f := fun c =>
        { c with
          state := .lost
          silence := none
          counters := { c.counters with silenceExpiries := bump c.counters.silenceExpiries } }) fun hp => by
      have state := hp.timer.1 (silenceDue_timer due)
      exact (hp.move (by rcases state with k | k <;> simp [k]) (by rcases state with k | k <;> simp [k])
        (state := .lost) (silence := none) (by simp) (by simp) (by simp)).congr
    have told := PortsLegal.quiet (.of_out (offerStatus_changes _ .portState)) lost
    exact (told.of_changes (State.onAsm_changes _ _)).of_drainOnly (release_changes _) (release_drainOnly _)
  · exact h

theorem PortsLegal.slotStart {s : State} (h : PortsLegal s) (p : Port) : PortsLegal (slotStart s p) := by
  unfold Machine.slotStart
  split
  · exact (h.of_changes (s.onSeq_changes _)).onPort p fun hp => hp.requestTrigger _ _
  · exact h

/-- At the entry to STANDBY the ports are as STANDBY asks (R7). -/
theorem PortsLegal.enterStandby {s : State} (h : PortsLegal s) : PortsLegal (enterStandby s) := by
  refine .quiet (enterStandby_quiet s) ⟨fun p => ?_, h.present⟩
  show PortLegal _ _ ((Quad.ofFn fun p => (s.roof.ports.get p).standby).get p)
  rw [Quad.get_ofFn]
  exact (h.port p).standby

theorem PortsLegal.settleSpanClosed {s : State} (h : PortsLegal s) : PortsLegal (settleSpanClosed s) := by
  rcases settleSpanClosed_cases s with same | ⟨-, -, -, closed⟩
  · rw [same]
    exact h
  · generalize Machine.settleSpanClosed s = t at closed
    have open_ : PortsLegal { s with paths := { s.paths with spanClosed := false } } := h.congr fun _ hp => hp
    cases closed with
    | other => exact open_
    | standby => exact open_.enterStandby
    | assembly => exact open_.congr fun _ hp => hp
    | pipeline => exact open_.congr fun _ hp => hp
    | again => exact open_.congr fun _ hp => hp

theorem PortsLegal.triggerArrival {s : State} (h : PortsLegal s) : PortsLegal (triggerArrival s) := by
  unfold Machine.triggerArrival
  split
  · exact ((h.of_changes (s.onSeq_changes _)).of_drainOnly (handleTrigger_changes _) (handleTrigger_drainOnly _)).settleSpanClosed
  · exact h

theorem PortsLegal.clusterListArrival {s : State} (h : PortsLegal s) : PortsLegal (clusterListArrival s) := by
  unfold Machine.clusterListArrival
  split
  · have counted : ∀ f g k, PortsLegal ((((s.onPaths f).onTracks g).onPaths k).onCmd fun c => { c with tally := c.tally - 1 }) :=
      fun f g k => h.congr fun _ hp => hp
    exact (counted _ _ _).of_drainOnly (testTally_changes _) (testTally_drainOnly _)
  · exact h

/-! ### The commands that reach the ports -/

theorem PortsLegal.setHeads {s : State} (h : PortsLegal s) (op : s.cmd.op = .standby) (args : List Byte) :
    PortsLegal (setHeads args s).1 := by
  unfold Machine.setHeads
  dsimp only
  split
  · exact h
  · next fits =>
    have masked : PortsLegal (s.onRoof fun r => r.withMask (Quad.ofMask (byteAt args 0).toNat)) := by
      refine ⟨fun p => ?_, fun p hp => ?_⟩
      · show PortLegal _ s.cmd.op ((Quad.ofFn fun p => (s.roof.ports.get p).underMask _).get p)
        have legal := h.port p
        rw [op] at legal ⊢
        rw [Quad.get_ofFn]
        exact legal.underMask _
      · have sub : (Quad.ofMask (byteAt args 0).toNat).subset s.cmd.present = true := by simp_all
        exact (Quad.subset_iff _ _).1 sub p hp
    split
    · exact masked
    · exact .quiet (.of_out (offerStatus_changes _ _)) masked

theorem PortsLegal.loadHeadCal {s : State} (h : PortsLegal s) (args : List Byte) : PortsLegal (loadHeadCal args s).1 := by
  unfold Machine.loadHeadCal
  dsimp only
  split
  · exact h
  · split
    · exact (h.of_changes (s.onGeo_changes _)).onPort _ fun hp => hp.congr
    · exact h

theorem PortsLegal.headPass {s : State} (h : PortsLegal s) (args : List Byte) : PortsLegal (headPass args s).1 := by
  unfold Machine.headPass
  split
  · exact h
  · split
    · exact h
    · split
      · exact h
      · exact h.onPort _ fun hp => hp.placeRelay _

theorem PortsLegal.startRun {s : State} (h : PortsLegal s) (op : s.cmd.op = .standby) : PortsLegal (startRun s).1 := by
  unfold Machine.startRun
  split
  · exact h
  · refine .quiet (.of_out (offerStatus_changes _ _)) ⟨fun p => ?_, h.present⟩
    show PortLegal _ _ ((Quad.ofFn fun p => (s.roof.ports.get p).begin_ s.timebase).get p)
    have legal := h.port p
    rw [op] at legal
    rw [Quad.get_ofFn]
    exact legal.begin_ _

theorem PortsLegal.stopRun {s : State} (h : PortsLegal s) : PortsLegal (stopRun s).1 := by
  unfold Machine.stopRun
  split
  · next op =>
    have drains : PortsLegal (s.onCmd fun c => { c with op := .draining, drain := .waitingAssembly }) :=
      ⟨fun p => (op ▸ h.port p).drain, h.present⟩
    have told := PortsLegal.quiet (.of_out (offerStatus_changes _ .operatingState)) drains
    show PortsLegal (beginDrain s)
    unfold beginDrain assemblyDrained
    dsimp only
    split
    · split
      · exact .of_drainOnly (testTally_changes _) (testTally_drainOnly _) (told.congr fun _ hp => hp)
      · exact told
    · exact told
  · exact h
  · exact h

theorem PortsLegal.clearAll {s : State} (h : PortsLegal s) : PortsLegal (clearAll s) := by
  refine h.congr fun p hp => ?_
  show PortLegal _ _ ((Quad.ofFn fun p => { s.roof.ports.get p with counters := {} }).get p)
  rw [Quad.get_ofFn]
  exact hp.congr

theorem PortsLegal.setRunParams {s : State} (h : PortsLegal s) (args : List Byte) : PortsLegal (setRunParams args s).1 := by
  unfold Machine.setRunParams
  split
  · exact h
  · exact h.congr fun _ hp => hp

theorem PortsLegal.softReset {s : State} (h : PortsLegal s) : PortsLegal (softReset s) := by
  refine ⟨fun p => ?_, h.present⟩
  show PortLegal _ _ ((Quad.ofFn fun p => softPort s.roof.enabled p (s.port p)).get p)
  rw [Quad.get_ofFn]
  exact softPort_legal _ p _

theorem hardValues_portsLegal (s : State) (staddr : BitVec 4) (present : PortSet) (oda odb : Bool) :
    PortsLegal (hardValues s staddr present oda odb) := by
  refine ⟨fun p => ?_, fun p hp => hp⟩
  show PortLegal _ _ ((Quad.ofFn (hardPort present)).get p)
  rw [Quad.get_ofFn]
  exact hardPort_legal _ p

theorem meaning_portsLegal (c : Instr) (s : State) (h : PortsLegal s) : PortsLegal (meaning c s) := by
  by_cases hc : Part.roof ∈ footprint c ∨ Part.cmd ∈ footprint c
  · cases c <;> simp only [footprint, List.mem_cons, List.not_mem_nil, reduceCtorEq, or_false, or_true, or_self] at hc
    case profileFrame p a b => exact h.profileFrame p a b
    case headReplyFrame p a b => exact h.headReplyFrame p a b
    case frameFailed r rx => exact h.frameFailed r rx
    case lineChange oda odb late =>
      exact h.of_drainOnly (lineChange_changes s oda odb late) (lineChange_drainOnly s oda odb late)
    case silenceTimerExpiry p => exact h.silenceTimerExpiry p
    case slotStart p => exact h.slotStart p
    case deadlineReached scan =>
      show PortsLegal (if _ then _ else s)
      split
      · exact (h.of_changes (s.onAsm_changes _)).of_drainOnly (release_changes _) (release_drainOnly _)
      · exact h
    case downlinkEndDelimiter p => exact h.onPort p fun hp => hp.downlinkEnd
    case clusterListArrival => exact h.clusterListArrival
    case runOpeningReport =>
      show PortsLegal (runOpeningReport s)
      unfold runOpeningReport
      split
      · exact ((h.of_changes (s.onPaths_changes _)).of_changes (State.onZones_changes _ _)).settleSpanClosed
      · exact h
    case scanFinishedReport =>
      show PortsLegal (scanFinishedReport s)
      unfold scanFinishedReport
      split
      · exact ((h.of_changes (s.onPaths_changes _)).of_changes (finishScan_changes _ _)).settleSpanClosed
      · exact h
    case stopListArrival =>
      show PortsLegal (stopListArrival s)
      unfold stopListArrival
      split
      · exact (((h.of_changes (s.onPaths_changes _)).of_changes (spanClosing_changes _ _)).of_changes
          (State.onPaths_changes _ _)).settleSpanClosed
      · exact h
    case triggerArrival => exact h.triggerArrival
    case identify a tag args => exact command_keeps (c := .identify a tag args) .quiet rfl (fun _ _ hu => hu) h
    case getState a tag args => exact command_keeps (c := .getState a tag args) .quiet rfl (fun _ _ hu => hu) h
    case getCounters a tag args => exact command_keeps (c := .getCounters a tag args) .quiet rfl (fun _ _ hu => hu) h
    case clearCounters a tag args =>
      exact command_keeps (c := .clearCounters a tag args) .quiet rfl (fun _ _ hu => hu.clearAll) h
    case setHeads a tag args =>
      exact command_keeps (c := .setHeads a tag args) .quiet rfl (fun _ op hu => hu.setHeads (standbyOnly_iff.1 op) args) h
    case loadHeadCal a tag args =>
      exact command_keeps (c := .loadHeadCal a tag args) .quiet rfl (fun _ _ hu => hu.loadHeadCal args) h
    case loadWireType a tag args =>
      exact command_keeps (c := .loadWireType a tag args) .quiet rfl (fun u _ hu => hu.of_changes (loadWireType_changes args u)) h
    case setRunParams a tag args =>
      exact command_keeps (c := .setRunParams a tag args) .quiet rfl (fun _ _ hu => hu.setRunParams args) h
    case setScanSpacing a tag args =>
      exact command_keeps (c := .setScanSpacing a tag args) .quiet rfl (fun u _ hu => hu.of_changes (setScanSpacing_changes args u)) h
    case setStrobe a tag args =>
      exact command_keeps (c := .setStrobe a tag args) .quiet rfl (fun u _ hu => hu.of_changes (setStrobe_changes args u)) h
    case setDistance a tag args =>
      exact command_keeps (c := .setDistance a tag args) .quiet rfl (fun u _ hu => hu.of_changes (setDistance_changes args u)) h
    case zoneAppend a tag args =>
      exact command_keeps (c := .zoneAppend a tag args) .quiet rfl (fun u _ hu => hu.of_changes (zoneAppend_changes args u)) h
    case zoneFlush a tag args =>
      exact command_keeps (c := .zoneFlush a tag args) .quiet rfl (fun u _ hu => hu.of_changes (zoneFlush_changes u)) h
    case headPass a tag args => exact command_keeps (c := .headPass a tag args) .quiet rfl (fun _ _ hu => hu.headPass args) h
    case start a tag args =>
      exact command_keeps (c := .start a tag args) .quiet rfl (fun _ op hu => hu.startRun (standbyOnly_iff.1 op)) h
    case stop a tag args => exact command_keeps (c := .stop a tag args) .quiet rfl (fun _ _ hu => hu.stopRun) h
    case unknownCommand a code tag args => exact h.quiet (unknownRow_quiet s a code tag args)
    case reset a tag args => exact reset_keeps .quiet (fun hu => hu.softReset) h
    case hardReset =>
      have hu := hardValues_portsLegal s s.cmd.station s.cmd.present s.odo.oda s.odo.odb
      exact ⟨hu.port, hu.present⟩
    case hardResetEnd a m x y => exact .quiet (hardResetEnd_quiet s a m x y) (hardValues_portsLegal s a m x y)
  · exact h.of_changes (meaning_changes c s) (fun k => hc (.inl k)) (fun k => hc (.inr k))

/-- Settles O56: the ports and the lines are legal after each row's meaning, and the clock reads neither. -/
theorem portsAndLinesKept : Obligations.PortsAndLinesKept :=
  ⟨kept_of_exec (fun _ _ h => h.congr fun _ hp => hp) (fun _ _ h => h.congr fun _ hp => hp) meaning_portsLegal,
    linesLegal_kept⟩

end Sys2Proof.Machine
end

section
/-! SUPPORT. The output unit under offers: records and raw frames join at the tails, each counted once, within the sizes of the
queues (R161 to R166; Law 8). -/

namespace Sys2Proof.Machine

set_option Elab.async false

/-! ### One output unit -/

/-- The transmitter sends a frame that stands at its queue's head (R166). -/
def Output.HeadHeld (o : Output) : Prop := (o.tx = .record → o.records ≠ []) ∧ (o.tx = .raw → o.raw ≠ [])

/-- From o to u only offers have come: what joined a queue has been counted, nothing has been sent, and no queue has grown
beyond what its class allows. -/
structure Output.Grows (o u : Output) : Prop where
  reserved : u.reserved = o.reserved
  sent : u.counters.sent = o.counters.sent
  rawSent : u.counters.rawSent = o.counters.rawSent
  records : ∃ fs, u.records = o.records ++ fs ∧ u.counters.admitted = bumpBy o.counters.admitted fs.length
  raw : ∃ fs, u.raw = o.raw ++ fs ∧ u.counters.rawAdmitted = bumpBy o.counters.rawAdmitted fs.length
  room : u.occupancy ≤ max o.occupancy 60
  rawRoom : u.raw.length ≤ max o.raw.length 16
  head : o.HeadHeld → u.HeadHeld

theorem Output.Grows.trans {o u v : Output} (h : o.Grows u) (k : u.Grows v) : o.Grows v := by
  obtain ⟨fs, hf, ha⟩ := h.records
  obtain ⟨gs, hg, kb⟩ := k.records
  obtain ⟨ws, hw, hr⟩ := h.raw
  obtain ⟨xs, hx, kr⟩ := k.raw
  refine ⟨k.reserved.trans h.reserved, k.sent.trans h.sent, k.rawSent.trans h.rawSent, ⟨fs ++ gs, ?_, ?_⟩, ⟨ws ++ xs, ?_, ?_⟩,
    ?_, ?_, fun held => k.head (h.head held)⟩
  · rw [hg, hf, List.append_assoc]
  · rw [kb, ha, bumpBy_bumpBy, List.length_append]
  · rw [hx, hw, List.append_assoc]
  · rw [kr, hr, bumpBy_bumpBy, List.length_append]
  · have := h.room
    have := k.room
    omega
  · have := h.rawRoom
    have := k.rawRoom
    omega

/-- Marks and the counters of what was refused are not what an offer moves in the queues. -/
theorem Output.Grows.marks (o : Output) (loss notice : Bool) (a b d : Counter) :
    o.Grows { o with
      lossFlag := loss
      notice := notice
      counters := { o.counters with refusedA := a, refusedB := b, rawDrops := d } } :=
  ⟨Eq.refl _, Eq.refl _, Eq.refl _, ⟨[], by simp, by simp [bumpBy_zero]⟩, ⟨[], by simp, by simp [bumpBy_zero]⟩, le_max_left _ _,
    le_max_left _ _, id⟩

theorem Output.Grows.rfl {o : Output} : o.Grows o :=
  .marks o o.lossFlag o.notice o.counters.refusedA o.counters.refusedB o.counters.rawDrops

theorem Output.HeadHeld.kick {o : Output} (h : o.HeadHeld) : o.kick.HeadHeld := by
  simp only [HeadHeld, Output.kick_tx, Output.kick_records, Output.kick_raw]
  split
  · cases hr : o.records <;> cases hw : o.raw <;> simp
  · exact h

theorem Output.Grows.join {o : Output} (f : Frame) (h : o.occupancy < 60) : o.Grows (o.join f) where
  reserved := by simp
  sent := by simp
  rawSent := by simp
  records := ⟨[f], by simp, by simp [bump]⟩
  raw := ⟨[], by simp, by simp [bumpBy_zero]⟩
  room := by
    rw [Output.join_occupancy]
    omega
  rawRoom := by simp
  head held := by
    refine HeadHeld.kick ⟨fun _ => by simp, held.2⟩

/-- A frame that joins the raw queue where it has room (R165). -/
theorem Output.Grows.joinRaw {o : Output} (f : Frame) (h : o.raw.length < 16) :
    o.Grows { o with
      raw := o.raw ++ [f]
      counters := { o.counters with rawAdmitted := bump o.counters.rawAdmitted } }.kick where
  reserved := by simp
  sent := by simp
  rawSent := by simp
  records := ⟨[], by simp, by simp [bumpBy_zero]⟩
  raw := ⟨[f], by simp, by simp [bump]⟩
  room := by simp [Output.occupancy]
  rawRoom := by
    simp
    omega
  head held := HeadHeld.kick ⟨held.1, fun _ => by simp⟩

/-! ### Offers -/

/-- From s to t the output unit has only had offers. -/
def OutGrows (s t : State) : Prop := s.out.Grows t.out

theorem OutGrows.last {s t u : State} (k : OutGrows t u) (h : OutGrows s t) : OutGrows s u := Output.Grows.trans h k

theorem OutGrows.of_eq {s t : State} (h : t.out = s.out) : OutGrows s t := by
  rw [OutGrows, h]
  exact .rfl

theorem OutGrows.of_changes {parts : List Part} {s t : State} (h : OnlyChanges parts s t)
    (hp : .out ∉ parts := by decide) : OutGrows s t := .of_eq (h.1 .out hp)

theorem offerLossStatus_grows (s : State) : OutGrows s (offerLossStatus s) := by
  unfold offerLossStatus OutGrows
  split
  · next room =>
    have told := Output.Grows.marks s.out false s.out.notice s.out.counters.refusedA s.out.counters.refusedB s.out.counters.rawDrops
    exact told.trans (.join _ room)
  · exact .marks s.out true s.out.notice s.out.counters.refusedA _ s.out.counters.rawDrops

theorem lose_grows (s : State) : OutGrows s (lose s) := by
  unfold lose
  dsimp only
  split
  · exact (offerLossStatus_grows _).last
      (.marks s.out true false s.out.counters.refusedA s.out.counters.refusedB s.out.counters.rawDrops)
  · exact .marks s.out true s.out.notice s.out.counters.refusedA s.out.counters.refusedB s.out.counters.rawDrops

theorem offerA_grows (s : State) (f : Frame) : OutGrows s (offerA s f) := by
  unfold offerA
  split
  · next room => exact .join f (by simp only [Config.classALimit] at room; omega)
  · exact (lose_grows _).last
      (.marks s.out s.out.lossFlag s.out.notice _ s.out.counters.refusedB s.out.counters.rawDrops)

/-- A refused class B record is counted and lost. -/
theorem refusedB_grows (s : State) :
    OutGrows s (lose (s.onOut fun o => { o with counters := { o.counters with refusedB := bump o.counters.refusedB } })) :=
  (lose_grows _).last (.marks s.out s.out.lossFlag s.out.notice s.out.counters.refusedA _ s.out.counters.rawDrops)

theorem offerB_grows (s : State) (f : Frame) : OutGrows s (offerB s f) := by
  unfold offerB
  split
  · next room => exact .join f room
  · exact refusedB_grows s

theorem offerStatus_grows (s : State) (c : StatusCause) : OutGrows s (offerStatus s c) := by
  unfold offerStatus OutGrows
  split
  · next room =>
    have told := Output.Grows.marks s.out false s.out.notice s.out.counters.refusedA s.out.counters.refusedB s.out.counters.rawDrops
    exact told.trans (.join _ room)
  · exact refusedB_grows s

theorem offerRaw_grows (s : State) (f : Frame) : OutGrows s (offerRaw s f) := by
  unfold offerRaw
  split
  · next room => exact .joinRaw f room
  · exact .marks s.out s.out.lossFlag s.out.notice s.out.counters.refusedA s.out.counters.refusedB _

theorem OutGrows.ite {s t u : State} {c : Prop} [Decidable c] (h : OutGrows s t) (k : OutGrows s u) :
    OutGrows s (if c then t else u) := by
  split
  · exact h
  · exact k

theorem OutGrows.foldl {α : Type} {f : State → α → State} (h : ∀ s a, OutGrows s (f s a)) (l : List α) (s : State) :
    OutGrows s (l.foldl f s) := by
  induction l generalizing s with
  | nil => exact .of_eq rfl
  | cons a l ih => exact (ih _).last (h s a)

/-! ### Rows -/

theorem goodFrame_grows (s : State) (p : Port) : OutGrows s (goodFrame s p) := by
  unfold goodFrame
  split
  · exact .of_eq rfl
  · exact .of_eq rfl
  · exact .of_eq rfl
  · exact (offerStatus_grows _ _).last (.of_eq rfl)

theorem forward_grows (s : State) (p : Port) (f : Frame) : OutGrows s (forward s p f) :=
  .ite (.of_eq rfl) (.ite ((offerRaw_grows _ f).last (.of_eq rfl)) (.of_eq rfl))

theorem takeProfile_grows (s : State) (p : Port) (f : Frame) : OutGrows s (takeProfile s p f) := by
  have judged : ∀ t k v prof k', t.out = s.out → OutGrows s ((assemble (State.countPort t p k) v prof).countPort p k') :=
    fun t k v prof k' ht =>
      (OutGrows.of_changes (State.countPort_changes _ p k')).last ((OutGrows.of_changes (assemble_changes _ v prof)).last (.of_eq ht))
  unfold takeProfile handProfile
  dsimp only
  split
  · exact .of_eq rfl
  · exact .of_eq rfl
  · split
    · exact (forward_grows _ p f).last (judged _ _ _ _ _ rfl)
    · exact judged _ _ _ _ _ rfl

theorem profileFrame_grows (s : State) (p : Port) (address : Byte) (payload : List Byte) :
    OutGrows s (profileFrame s p address payload) := by
  unfold profileFrame
  dsimp only
  split
  · exact .of_changes (closeRoof_changes s p _ _)
  · exact (takeProfile_grows _ p _).last ((goodFrame_grows _ p).last (.of_changes (closeRoof_changes s p _ _)))

theorem headReplyFrame_grows (s : State) (p : Port) (address : Byte) (payload : List Byte) :
    OutGrows s (headReplyFrame s p address payload) := by
  have relayed : ∀ t f, OutGrows t (relayReply t p f) := fun t f => by
    unfold relayReply
    split
    · exact .of_eq rfl
    · exact (offerB_grows _ f).last (.of_eq rfl)
  unfold headReplyFrame
  dsimp only
  split
  · exact .of_changes (closeRoof_changes s p _ _)
  · exact (relayed _ _).last ((goodFrame_grows _ p).last (.of_changes (closeRoof_changes s p _ _)))

theorem accumulate_grows (s : State) (k : Sense) : OutGrows s (accumulate s k) :=
  .ite ((offerStatus_grows _ _).last (.of_eq rfl)) (.of_eq rfl)

theorem lineChange_grows (s : State) (oda odb late : Bool) : OutGrows s (lineChange s oda odb late) := by
  have moved : ∀ f k, OutGrows s (countStep (accumulate (s.onOdo f) k)) := fun f k =>
    (OutGrows.of_changes (countStep_changes _)).last ((accumulate_grows _ k).last (.of_eq rfl))
  exact .ite (.of_eq rfl) (.ite (.of_eq rfl)
    (.ite ((OutGrows.of_changes (sendTrigger_changes _ late)).last (moved _ _)) (moved _ _)))

theorem silenceTimerExpiry_grows (s : State) (p : Port) : OutGrows s (silenceTimerExpiry s p) :=
  .ite ((OutGrows.of_changes (release_changes _)).last ((OutGrows.of_eq rfl).last
    ((offerStatus_grows _ _).last (.of_eq rfl)))) (.of_eq rfl)

theorem exhaust_grows (s : State) : OutGrows s (exhaust s) :=
  .ite ((offerStatus_grows _ _).last (.of_eq rfl)) (.of_eq rfl)

theorem scanResolution_grows (s : State) : OutGrows s (scanResolution s) := by
  unfold scanResolution resolveScan
  dsimp only
  split
  · refine OutGrows.last (t := ite _ _ _) (.of_eq rfl) (.ite ((exhaust_grows _).last ?_) ?_) <;> exact .of_eq rfl
  · exact .of_eq rfl

theorem closeBin_grows (s : State) (id : Nat) (cause : CloseCause) : OutGrows s (closeBin s id cause) := by
  unfold closeBin
  split
  · exact offerA_grows s _
  · exact .of_eq rfl

theorem closeRun_grows (s : State) (id : Nat) (cause : CloseCause) (kind : RunKind) : OutGrows s (closeRun s id cause kind) := by
  unfold closeRun
  split
  · exact offerB_grows s _
  · exact .of_eq rfl

theorem closeCount_grows (s : State) (cause : CloseCause) : OutGrows s (closeCount s cause) := by
  unfold closeCount
  split
  · exact offerB_grows s _
  · exact .of_eq rfl

theorem SpanMove.grows {s t : State} (h : SpanMove s t) : OutGrows s t := by
  cases h with
  | closeBin id cause => exact closeBin_grows s id cause
  | closeRun id cause kind => exact closeRun_grows s id cause kind
  | closeCount cause => exact closeCount_grows s cause
  | recordEnd e => exact offerB_grows s _
  | _ => exact .of_eq rfl

theorem SpanMoves.grows {s t : State} (h : SpanMoves s t) : OutGrows s t := by
  induction h with
  | refl => exact .of_eq rfl
  | tail _ m ih => exact m.grows.last ih

theorem settleSpanClosed_grows (s : State) : OutGrows s (settleSpanClosed s) := by
  rcases settleSpanClosed_cases s with same | ⟨-, -, -, closed⟩
  · exact .of_eq (by rw [same])
  · generalize settleSpanClosed s = t at closed
    cases closed with
    | standby => exact (offerStatus_grows _ _).last (.of_eq rfl)
    | _ => exact .of_eq rfl

theorem trackListArrival_grows (s : State) : OutGrows s (trackListArrival s) := by
  unfold trackListArrival
  split
  · exact (OutGrows.of_eq rfl).last ((spanEntries_moves _ _).grows.last (.of_eq rfl))
  · exact .of_eq rfl

theorem stopListArrival_grows (s : State) : OutGrows s (stopListArrival s) := by
  unfold stopListArrival
  split
  · exact (settleSpanClosed_grows _).last ((OutGrows.of_eq rfl).last ((spanClosing_moves _ _).grows.last (.of_eq rfl)))
  · exact .of_eq rfl

theorem triggerArrival_grows (s : State) : OutGrows s (triggerArrival s) :=
  .ite ((settleSpanClosed_grows _).last ((OutGrows.of_changes (handleTrigger_changes _)).last (.of_eq rfl))) (.of_eq rfl)

theorem runOpeningReport_grows (s : State) : OutGrows s (runOpeningReport s) := by
  unfold runOpeningReport
  split
  · exact (settleSpanClosed_grows _).last (.of_eq rfl)
  · exact .of_eq rfl

theorem offerZones_grows (s : State) (cs : List ClosingEntry) : OutGrows s (cs.foldl offerZone s) :=
  .foldl (fun s _ => offerB_grows s _) cs s

theorem scanFinishedReport_grows (s : State) : OutGrows s (scanFinishedReport s) := by
  unfold scanFinishedReport
  split
  · exact (settleSpanClosed_grows _).last ((offerZones_grows _ _).last (.of_eq rfl))
  · exact .of_eq rfl

/-- Whether a row reaches the output unit by offers alone: all but those of COMMAND frames, of the trunk and of the resets. -/
def onlyOffers (c : Instr) : Bool :=
  match c with
  | .trunkEndDelimiter => false
  | .linkUp => false
  | .linkDown => false
  | .reset _ _ _ => false
  | .unknownCommand _ _ _ _ => false
  | .hardReset => false
  | .hardResetEnd _ _ _ _ => false
  | c => (commandRow c).isNone

theorem meaning_grows {c : Instr} (h : onlyOffers c = true) (s : State) : OutGrows s (meaning c s) := by
  by_cases hc : Part.out ∈ footprint c
  · cases c <;> simp only [footprint, List.mem_cons, List.not_mem_nil, reduceCtorEq, or_false, or_self] at hc <;>
      simp only [onlyOffers, commandRow, Option.isNone_some, reduceCtorEq] at h
    case profileFrame p a b => exact profileFrame_grows s p a b
    case headReplyFrame p a b => exact headReplyFrame_grows s p a b
    case frameFailed r rx => exact .of_changes (frameFailed_changes s r rx) (by cases r <;> simp [receiverPart])
    case lineChange oda odb late => exact lineChange_grows s oda odb late
    case silenceTimerExpiry p => exact silenceTimerExpiry_grows s p
    case scanResolution => exact scanResolution_grows s
    case trackListArrival => exact trackListArrival_grows s
    case runOpeningReport => exact runOpeningReport_grows s
    case scanFinishedReport => exact scanFinishedReport_grows s
    case stopListArrival => exact stopListArrival_grows s
    case triggerArrival => exact triggerArrival_grows s
  · exact .of_changes (meaning_changes c s) hc

/-! ### Bodies of commands -/

theorem setHeads_grows (args : List Byte) (s : State) : OutGrows s (setHeads args s).1 := by
  unfold setHeads
  dsimp only
  split
  · exact .of_eq rfl
  · exact .ite (.of_eq rfl) ((offerStatus_grows _ _).last (.of_eq rfl))

theorem zoneFlush_grows (s : State) : OutGrows s (zoneFlush s).1 := by
  unfold zoneFlush
  dsimp only
  split
  · exact .of_eq rfl
  · split
    · exact .of_eq rfl
    · split
      · exact (exhaust_grows _).last ((offerZones_grows _ _).last (.of_eq rfl))
      · exact (exhaust_grows _).last (.of_eq rfl)

theorem startRun_grows (s : State) : OutGrows s (startRun s).1 := by
  unfold startRun
  split
  · exact .of_eq rfl
  · exact (offerStatus_grows _ _).last (.of_eq rfl)

theorem stopRun_grows (s : State) : OutGrows s (stopRun s).1 := by
  have told : OutGrows s (offerStatus (s.onCmd fun c => { c with op := .draining, drain := .waitingAssembly })
      .operatingState) := (offerStatus_grows _ _).last (.of_eq rfl)
  unfold stopRun
  split
  · exact .ite ((OutGrows.of_changes (assemblyDrained_changes _)).last told) told
  · exact .of_eq rfl
  · exact .of_eq rfl

/-- A command's body makes offers at most, CLEAR_COUNTERS's apart. -/
theorem body_grows {c : Instr} {row : CommandRow} (h : commandRow c = some row) (clear : clearsCounters c = false)
    (s : State) : OutGrows s (row.body s).1 := by
  cases c <;> cases h <;> dsimp only
  case clearCounters => cases clear
  case identify => exact .of_eq rfl
  case getState => exact .of_eq rfl
  case getCounters => exact .of_eq rfl
  case setHeads args => exact setHeads_grows args s
  case loadHeadCal args => exact .of_changes (loadHeadCal_changes args s)
  case loadWireType args => exact .of_changes (loadWireType_changes args s)
  case setRunParams args => exact .of_changes (setRunParams_changes args s)
  case setScanSpacing args => exact .of_changes (setScanSpacing_changes args s)
  case setStrobe args => exact .of_changes (setStrobe_changes args s)
  case setDistance args => exact .of_changes (setDistance_changes args s)
  case zoneAppend args => exact .of_changes (zoneAppend_changes args s)
  case zoneFlush => exact zoneFlush_grows s
  case headPass args => exact .of_changes (headPass_changes args s)
  case start => exact startRun_grows s
  case stop => exact stopRun_grows s

end Sys2Proof.Machine
end

section
/-! SUPPORT. The sizes of the queues and stores (Law 8): what keeps the output unit within them. -/

namespace Sys2Proof.Machine

set_option Elab.async false

/-! ### The output unit -/

/-- The output unit is within its sizes, its transmitter at a frame that is held, and the reply reservation as told (R161, R163,
R165, R166). -/
structure Output.Fits (open_ : Bool) (o : Output) : Prop where
  head : o.HeadHeld
  reserved : o.reserved = open_
  room : o.occupancy ≤ 64
  raw : o.raw.length ≤ 16

theorem Output.Grows.fits {o u : Output} {open_ : Bool} (k : o.Grows u) (h : o.Fits open_) : u.Fits open_ where
  head := k.head h.head
  reserved := k.reserved.trans h.reserved
  room := by
    have := k.room
    have := h.room
    omega
  raw := by
    have := k.rawRoom
    have := h.raw
    omega

theorem Output.Fits.records {o : Output} (h : o.Fits false) : o.records.length ≤ 64 := by
  have := h.room
  simpa [Output.occupancy, h.reserved] using this

/-- The output unit right after a reset (R182, R183). -/
theorem Output.fits_empty (up : Bool) : Output.Fits false { linkUp := up } :=
  ⟨⟨nofun, nofun⟩, rfl, Nat.zero_le _, Nat.zero_le _⟩

/-- A reply joins the queue in the room that was reserved for it (R163). -/
theorem Output.fits_replied {o : Output} (head : o.HeadHeld) (room : o.records.length < 64) (raw : o.raw.length ≤ 16)
    (f : Frame) : (replied o f).Fits false := by
  rw [replied, ← Output.join_eq_withRecord]
  refine ⟨HeadHeld.kick ⟨fun _ => by simp, head.2⟩, by simp, ?_, by simpa using raw⟩
  simp [Output.occupancy]
  omega

theorem Output.Fits.endFrame {o : Output} (h : o.Fits false) : o.endFrame.Fits false := by
  obtain ⟨head, reserved, room, raw⟩ := h
  unfold Output.endFrame
  split
  · exact ⟨head, reserved, room, raw⟩
  · refine ⟨HeadHeld.kick ⟨nofun, nofun⟩, by simpa using reserved, ?_, by simpa using raw⟩
    rw [Output.kick_occupancy]
    simp only [Output.occupancy, List.length_tail] at room ⊢
    omega
  · refine ⟨HeadHeld.kick ⟨nofun, nofun⟩, by simpa using reserved, by simpa [Output.occupancy] using room, ?_⟩
    simp only [Output.kick_raw, List.length_tail]
    omega

theorem Output.Fits.up {o : Output} (h : o.Fits false) : o.up.Fits false := by
  obtain ⟨head, reserved, room, raw⟩ := h
  unfold Output.up
  split
  · exact ⟨head, reserved, room, raw⟩
  · exact ⟨HeadHeld.kick head, by simpa using reserved, by simpa [Output.occupancy] using room, by simpa using raw⟩

theorem Output.Fits.down {o : Output} (h : o.Fits false) : o.down.Fits false := by
  obtain ⟨head, reserved, room, raw⟩ := h
  unfold Output.down
  split
  · exact ⟨⟨nofun, nofun⟩, reserved, room, raw⟩
  · exact ⟨head, reserved, room, raw⟩

/-! ### Rows and the output unit -/

theorem Opened.fits {s u : State} (h : Opened s u) (fits : s.out.Fits false) : u.out.Fits true := by
  obtain ⟨r, rfl, -, room⟩ := h
  refine ⟨fits.head, rfl, ?_, fits.raw⟩
  simp only [Output.occupancy, fits.reserved] at room ⊢
  simpa using room

theorem TurnedAway.out {s t : State} (h : TurnedAway s t) : t.out = s.out := by
  obtain ⟨r, k, rfl, -⟩ := h
  rfl

theorem queueReply_fits {s : State} (h : s.out.Fits true) (code tag : Byte) (r : Reply) :
    (queueReply s code tag r).out.Fits false := by
  rw [queueReply_eq]
  refine Output.fits_replied h.head ?_ h.raw _
  have := h.room
  simp only [Output.occupancy, h.reserved, if_true] at this
  omega

theorem clearAll_out (s : State) : (clearAll s).out = { s.out with counters := {} } := rfl

theorem body_fits {c : Instr} {row : CommandRow} (h : commandRow c = some row) {s : State} (fits : s.out.Fits true) :
    (row.body s).1.out.Fits true := by
  cases clear : clearsCounters c with
  | false => exact (body_grows h clear s).fits fits
  | true =>
    cases c <;> cases clear <;> cases h
    dsimp only
    rw [clearAll_out]
    exact ⟨fits.head, fits.reserved, fits.room, fits.raw⟩

theorem command_fits {c : Instr} {row : CommandRow} (h : commandRow c = some row) {s : State} (fits : s.out.Fits false) :
    (meaning c s).out.Fits false := by
  rw [meaning_command h]
  have ends := row.ends s
  generalize row.run s = t at ends
  cases ends with
  | turned away => rwa [away.out]
  | refused opened r => exact queueReply_fits (opened.fits fits) _ _ r
  | done opened _ => exact queueReply_fits (body_fits h (opened.fits fits)) _ _ _

theorem resetCommand_fits (s : State) (tag : Byte) : (resetCommand s tag).out.Fits false := by
  have replied : ∀ r, (queueReply (softReset s) 0x4F tag r).out.Fits false := fun r => by
    rw [queueReply_eq]
    exact Output.fits_replied (Output.fits_empty s.out.linkUp).head (by simp) (Nat.zero_le _) _
  unfold resetCommand
  dsimp only
  split
  · exact replied _
  · exact (offerStatus_grows _ _).fits (replied _)

theorem meaning_outputFits (c : Instr) (s : State) (fits : s.out.Fits false) : (meaning c s).out.Fits false := by
  cases offers : onlyOffers c with
  | true => exact (meaning_grows offers s).fits fits
  | false =>
    cases row : commandRow c with
    | some row => exact command_fits ‹_› fits
    | none =>
      cases c <;> simp only [onlyOffers, row, Option.isNone_none, reduceCtorEq] at offers
      case trunkEndDelimiter => exact fits.endFrame
      case linkUp =>
        show (if s.held = true then _ else _ : Output).Fits false
        split
        · exact ⟨fits.head, fits.reserved, fits.room, fits.raw⟩
        · exact fits.up
      case linkDown =>
        show (if s.held = true then _ else _ : Output).Fits false
        split
        · exact ⟨fits.head, fits.reserved, fits.room, fits.raw⟩
        · exact fits.down
      case reset a tag args =>
        show (resetRow a tag args s).out.Fits false
        rcases resetRow_cases s a tag args with away | ⟨u, opened, ran | ran⟩
        · rwa [away.out]
        · rw [ran]
          exact resetCommand_fits u tag
        · rw [ran]
          exact queueReply_fits (opened.fits fits) _ _ _
      case unknownCommand a code tag args =>
        show (unknownRow a code tag args s).out.Fits false
        rcases unknownRow_cases s a code tag args with same | away | ⟨u, opened, ran⟩
        · rwa [same]
        · rwa [away.out]
        · rw [ran]
          exact queueReply_fits (opened.fits fits) _ _ _
      case hardReset => exact Output.fits_empty _
      case hardResetEnd a m x y => exact (offerStatus_grows _ _).fits (Output.fits_empty _)

end Sys2Proof.Machine
end

section
/-! SUPPORT. The roof ports' frame stores and dispositions: what leaves them as they are. -/

namespace Sys2Proof.Machine

set_option Elab.async false

/-! ### One port -/

/-- The counters of a port that R13 adds up. -/
def PortCounters.dispositions (c : PortCounters) : List Counter :=
  [c.goodProfiles, c.accepted, c.duplicate, c.late, c.stray, c.idleDiscards, c.disabledDiscards]

/-- A port's frame store and dispositions have not changed. -/
structure PortAlike (c k : RoofPort) : Prop where
  frame : k.frame = c.frame
  counts : k.counters.dispositions = c.counters.dispositions

theorem PortAlike.rfl {c : RoofPort} : PortAlike c c := ⟨Eq.refl _, Eq.refl _⟩

theorem PortAlike.trans {c k m : RoofPort} (h : PortAlike c k) (j : PortAlike k m) : PortAlike c m :=
  ⟨j.frame.trans h.frame, j.counts.trans h.counts⟩

theorem RoofPort.startDownlink_alike (c : RoofPort) : PortAlike c c.startDownlink := by
  unfold RoofPort.startDownlink
  split
  · split
    · exact ⟨rfl, rfl⟩
    · split <;> exact ⟨rfl, rfl⟩
  · exact .rfl

theorem PortAlike.started {c k : RoofPort} (frame : k.frame = c.frame := by rfl)
    (counts : k.counters.dispositions = c.counters.dispositions := by rfl) : PortAlike c k.startDownlink :=
  .trans ⟨frame, counts⟩ k.startDownlink_alike

theorem RoofPort.requestTrigger_alike (c : RoofPort) (scan : Word16) (exposure : Nat) :
    PortAlike c (c.requestTrigger scan exposure) := by
  refine PortAlike.started (counts := ?_)
  dsimp only
  split <;> rfl

theorem RoofPort.placeRelay_alike (c : RoofPort) (bytes : List Byte) : PortAlike c (c.placeRelay bytes) := .started

theorem RoofPort.downlinkEnd_alike (c : RoofPort) : PortAlike c c.downlinkEnd := by
  unfold RoofPort.downlinkEnd
  split
  · exact .rfl
  · exact .started
  · exact .started

theorem RoofPort.standby_alike (c : RoofPort) : PortAlike c c.standby := by
  unfold RoofPort.standby
  split <;> exact ⟨rfl, rfl⟩

theorem RoofPort.underMask_alike (c : RoofPort) (on : Bool) : PortAlike c (c.underMask on) := by
  unfold RoofPort.underMask
  split
  · exact ⟨rfl, rfl⟩
  · unfold RoofPort.disable
    split <;> exact ⟨rfl, rfl⟩
  · exact .rfl

theorem RoofPort.begin_alike (c : RoofPort) (now : Time) : PortAlike c (c.begin_ now) := by
  unfold RoofPort.begin_
  split <;> exact ⟨rfl, rfl⟩

/-! ### The four ports -/

/-- No port's frame store or dispositions have changed. -/
def PortsAlike (s t : State) : Prop := ∀ p, PortAlike (s.port p) (t.port p)

theorem PortsAlike.last {s t u : State} (k : PortsAlike t u) (h : PortsAlike s t) : PortsAlike s u :=
  fun p => (h p).trans (k p)

theorem PortsAlike.of_eq {s t : State} (h : t.roof = s.roof) : PortsAlike s t := fun p => by
  rw [State.port, State.port, h]
  exact .rfl

theorem PortsAlike.of_changes {parts : List Part} {s t : State} (h : OnlyChanges parts s t)
    (hp : .roof ∉ parts := by decide) : PortsAlike s t := .of_eq (h.1 .roof hp)

theorem PortsAlike.onPort (s : State) (p : Port) {f : RoofPort → RoofPort} (hf : PortAlike (s.port p) (f (s.port p))) :
    PortsAlike s (s.onPort p f) := fun q => by
  rw [State.onPort_port]
  split
  · next e => exact e ▸ hf
  · exact .rfl

theorem PortsAlike.countPort (s : State) (p : Port) {f : PortCounters → PortCounters}
    (hf : ∀ c, (f c).dispositions = c.dispositions) : PortsAlike s (s.countPort p f) := .onPort s p ⟨rfl, hf _⟩

theorem PortsAlike.ofFn {s t : State} {f : Port → RoofPort} (ht : t.roof.ports = Quad.ofFn f)
    (hf : ∀ p, PortAlike (s.port p) (f p)) : PortsAlike s t := fun p => by
  have at_p : t.port p = f p := by rw [State.port, ht, Quad.get_ofFn]
  exact at_p ▸ hf p

theorem goodFrame_alike (s : State) (p : Port) : PortsAlike s (goodFrame s p) := by
  unfold goodFrame
  split
  · exact .of_eq rfl
  · exact .of_eq rfl
  · exact .onPort s p ⟨rfl, rfl⟩
  · exact (PortsAlike.of_changes (offerStatus_changes _ _)).last (.onPort s p ⟨rfl, rfl⟩)

theorem relayReply_alike (s : State) (p : Port) (f : Frame) : PortsAlike s (relayReply s p f) := by
  unfold relayReply
  split
  · exact .countPort s p fun _ => rfl
  · exact (PortsAlike.of_changes (offerB_changes _ _)).last (.countPort s p fun _ => rfl)

theorem forward_alike (s : State) (p : Port) (f : Frame) : PortsAlike s (forward s p f) := by
  unfold forward
  dsimp only
  split
  · exact .of_eq rfl
  · split
    · exact (PortsAlike.of_changes (offerRaw_changes _ _)).last (.onPort s p ⟨rfl, rfl⟩)
    · exact .onPort s p ⟨rfl, rfl⟩

theorem silenceTimerExpiry_alike (s : State) (p : Port) : PortsAlike s (silenceTimerExpiry s p) := by
  unfold silenceTimerExpiry
  split
  · exact (PortsAlike.of_changes (release_changes _)).last ((PortsAlike.of_eq rfl).last
      ((PortsAlike.of_changes (offerStatus_changes _ _)).last (.onPort s p ⟨rfl, rfl⟩)))
  · exact .of_eq rfl

theorem slotStart_alike (s : State) (p : Port) : PortsAlike s (slotStart s p) := by
  unfold slotStart
  split
  · exact (PortsAlike.onPort _ p (RoofPort.requestTrigger_alike _ _ _)).last (.of_eq rfl)
  · exact .of_eq rfl

theorem settleSpanClosed_alike (s : State) : PortsAlike s (settleSpanClosed s) := by
  rcases settleSpanClosed_cases s with same | ⟨-, -, -, closed⟩
  · exact .of_eq (by rw [same])
  · generalize settleSpanClosed s = t at closed
    cases closed with
    | standby =>
      exact (PortsAlike.of_changes (offerStatus_changes _ _)).last (.ofFn rfl fun p => RoofPort.standby_alike _)
    | _ => exact .of_eq rfl

theorem triggerArrival_alike (s : State) : PortsAlike s (triggerArrival s) := by
  unfold triggerArrival
  split
  · exact (settleSpanClosed_alike _).last ((PortsAlike.of_changes (handleTrigger_changes _)).last (.of_eq rfl))
  · exact .of_eq rfl

theorem runOpeningReport_alike (s : State) : PortsAlike s (runOpeningReport s) := by
  unfold runOpeningReport
  split
  · exact (settleSpanClosed_alike _).last (.of_eq rfl)
  · exact .of_eq rfl

theorem scanFinishedReport_alike (s : State) : PortsAlike s (scanFinishedReport s) := by
  unfold scanFinishedReport
  split
  · exact (settleSpanClosed_alike _).last ((PortsAlike.of_changes (finishScan_changes _ _)).last (.of_eq rfl))
  · exact .of_eq rfl

theorem stopListArrival_alike (s : State) : PortsAlike s (stopListArrival s) := by
  unfold stopListArrival
  split
  · exact (settleSpanClosed_alike _).last ((PortsAlike.of_eq rfl).last
      ((PortsAlike.of_changes (spanClosing_changes _ _)).last (.of_eq rfl)))
  · exact .of_eq rfl

theorem setHeads_alike (args : List Byte) (s : State) : PortsAlike s (setHeads args s).1 := by
  have masked : ∀ mask, PortsAlike s (s.onRoof fun r => r.withMask mask) := fun mask =>
    .ofFn rfl fun p => RoofPort.underMask_alike _ _
  unfold setHeads
  dsimp only
  split
  · exact .of_eq rfl
  · split
    · exact masked _
    · exact (PortsAlike.of_changes (offerStatus_changes _ _)).last (masked _)

theorem loadHeadCal_alike (args : List Byte) (s : State) : PortsAlike s (loadHeadCal args s).1 := by
  unfold loadHeadCal
  dsimp only
  split
  · exact .of_eq rfl
  · split
    · exact (PortsAlike.onPort _ _ ⟨rfl, rfl⟩).last (.of_eq rfl)
    · exact .of_eq rfl

theorem headPass_alike (args : List Byte) (s : State) : PortsAlike s (headPass args s).1 := by
  unfold headPass
  split
  · exact .of_eq rfl
  · split
    · exact .of_eq rfl
    · split
      · exact .of_eq rfl
      · exact .onPort s _ (RoofPort.placeRelay_alike _ _)

theorem startRun_alike (s : State) : PortsAlike s (startRun s).1 := by
  unfold startRun
  split
  · exact .of_eq rfl
  · exact (PortsAlike.of_changes (offerStatus_changes _ _)).last (.ofFn rfl fun p => RoofPort.begin_alike _ _)

/-- A command's body leaves the ports' frame stores and dispositions, CLEAR_COUNTERS's apart. -/
theorem body_alike {c : Instr} {row : CommandRow} (h : commandRow c = some row) (clear : clearsCounters c = false)
    (s : State) : PortsAlike s (row.body s).1 := by
  by_cases roof : Part.roof ∈ row.parts
  · cases c <;> cases h <;> simp only [List.mem_cons, List.not_mem_nil, reduceCtorEq, or_false, or_self] at roof <;> dsimp only
    case pos.clearCounters => cases clear
    case pos.setHeads args => exact setHeads_alike args s
    case pos.loadHeadCal args => exact loadHeadCal_alike args s
    case pos.headPass args => exact headPass_alike args s
    case pos.start => exact startRun_alike s
  · exact .of_changes (body_changes h s) roof

theorem CommandRow.Ends.alike {row : CommandRow} {s t : State} (ends : row.Ends s t)
    (body : ∀ u, PortsAlike u (row.body u).1) : PortsAlike s t := by
  cases ends with
  | turned away => exact .of_changes away.quiet.changes
  | refused opened r => exact (PortsAlike.of_changes (queueReply_quiet _ _ _ r).changes).last (.of_changes opened.quiet.changes)
  | done opened _ =>
    exact (PortsAlike.of_changes (queueReply_quiet _ _ _ _).changes).last
      ((body _).last (.of_changes opened.quiet.changes))

/-- Whether a row is apart from those that leave every port's frame store and dispositions as they are: it closes or stores a
frame at a roof port, or it clears counters. -/
def reachesPorts : Instr → Bool
  | .profileFrame _ _ _ => true
  | .headReplyFrame _ _ _ => true
  | .frameFailed _ _ => true
  | c => clearsCounters c

theorem clearsCounters_of_command {c : Instr} {row : CommandRow} (hr : commandRow c = some row) (h : reachesPorts c = false) :
    clearsCounters c = false := by
  cases c <;> cases hr <;> exact h

theorem meaning_alike {c : Instr} (h : reachesPorts c = false) (s : State) : PortsAlike s (meaning c s) := by
  by_cases hc : Part.roof ∈ footprint c
  · cases hr : commandRow c with
    | some row =>
      rw [meaning_command hr]
      exact (row.ends s).alike (body_alike hr (clearsCounters_of_command hr h))
    | none =>
      cases c <;> simp only [footprint, List.mem_cons, List.not_mem_nil, reduceCtorEq, or_false, or_self] at hc <;>
        simp only [commandRow, reduceCtorEq] at hr <;> simp only [reachesPorts, clearsCounters, reduceCtorEq] at h
      case silenceTimerExpiry p => exact silenceTimerExpiry_alike s p
      case slotStart p => exact slotStart_alike s p
      case downlinkEndDelimiter p => exact .onPort s p (RoofPort.downlinkEnd_alike _)
      case runOpeningReport => exact runOpeningReport_alike s
      case scanFinishedReport => exact scanFinishedReport_alike s
      case stopListArrival => exact stopListArrival_alike s
      case triggerArrival => exact triggerArrival_alike s
  · exact .of_changes (meaning_changes c s) hc

end Sys2Proof.Machine
end

section
/-! SUPPORT. The frame stores, the contexts, the zone entries, the track slots and the wire types: what keeps each of them
within its size (R2, R48, R68, R112, R122), and the whole of Law 8. -/

namespace Sys2Proof.Machine

set_option Elab.async false

/-! ### Frame stores (R2) -/

/-- A frame store holds the first 326 bytes of what has arrived. -/
def OpenFrame.Fits (w : OpenFrame) : Prop := w.stored.length = min 326 w.total

theorem OpenFrame.fits_new : OpenFrame.Fits {} := rfl

theorem OpenFrame.Fits.feed {w : OpenFrame} (h : w.Fits) (violation : Bool) (bytes : List Byte) :
    (w.feed violation bytes).Fits := by
  unfold OpenFrame.Fits at h ⊢
  simp only [OpenFrame.feed, Config.frameStore, List.length_take, List.length_append]
  omega

/-- Every receiver's frame store is within its size. -/
def FramesFit (s : State) : Prop := ∀ r w, s.openFrame r = some w → w.Fits

/-- From s to t every open frame stays as it is, or is gone. -/
def FramesClose (s t : State) : Prop := ∀ r, t.openFrame r = s.openFrame r ∨ t.openFrame r = none

theorem FramesFit.close {s t : State} (h : FramesFit s) (k : FramesClose s t) : FramesFit t := by
  intro r w hw
  rcases k r with same | gone
  · exact h r w (same ▸ hw)
  · simp [gone] at hw

theorem FramesFit.withOpenFrame {s : State} (h : FramesFit s) (r : Receiver) {w : OpenFrame} (hw : w.Fits) :
    FramesFit (s.withOpenFrame r (some w)) := by
  intro q k hk
  rw [State.withOpenFrame_openFrame] at hk
  split at hk
  · cases hk
    exact hw
  · exact h q k hk

theorem FramesFit.received {s : State} (h : FramesFit s) (r : Receiver) (rx : Reception) : (s.received r rx).Fits := by
  unfold State.received
  cases hw : s.openFrame r with
  | none => exact OpenFrame.fits_new.feed _ _
  | some w => exact (h r w hw).feed _ _

theorem closed_framesClose (s : State) (r : Receiver) : FramesClose s (s.withOpenFrame r none) := fun q => by
  rw [State.withOpenFrame_openFrame]
  split
  · exact .inr rfl
  · exact .inl rfl

theorem settle_framesClose (s : State) (r : Receiver) (f : Frame) : FramesClose s (settle s r f) := by
  unfold settle
  split
  · exact fun _ => .inl rfl
  · split
    · exact closed_framesClose s r
    · intro q
      rw [State.countRx_openFrame]
      exact closed_framesClose s r q

theorem FramesFit.frameFailed {s : State} (h : FramesFit s) (r : Receiver) (rx : Reception) :
    FramesFit (frameFailed s r rx) := by
  have counted : ∀ {t : State} x, FramesFit t → FramesFit (t.countRx r x) := fun x ht q w hw =>
    ht q w (by rwa [State.countRx_openFrame] at hw)
  unfold Machine.frameFailed
  dsimp only
  split
  · exact h.withOpenFrame r (h.received r rx)
  · exact counted _ (h.withOpenFrame r OpenFrame.fits_new)
  · split
    · exact h
    · exact counted _ (h.close (closed_framesClose s r))

/-- Each receiver's frame store on its own part. -/
theorem FramesClose.of_parts {s t : State} (roof : ∀ p, (t.port p).frame = (s.port p).frame ∨ (t.port p).frame = none)
    (motion : t.motion.frame = s.motion.frame ∨ t.motion.frame = none)
    (trunk : t.cmd.frame = s.cmd.frame ∨ t.cmd.frame = none) : FramesClose s t := fun r => by
  cases r with
  | roof p => exact roof p
  | motion => exact motion
  | trunk => exact trunk

theorem takeProfile_frame (s : State) (p : Port) (f : Frame) (q : Port) :
    ((takeProfile s p f).port q).frame = (s.port q).frame := by
  have counted : ∀ (t : State) g, ((t.countPort p g).port q).frame = (t.port q).frame := fun t g => by
    rw [State.countPort_port]
    split
    · next e => rw [e]
    · rfl
  have judged : ∀ (t : State) k v prof k',
      (((assemble (t.countPort p k) v prof).countPort p k').port q).frame = (t.port q).frame := fun t k v prof k' => by
    rw [counted, State.port, (assemble_changes _ v prof).1 .roof (by decide)]
    exact counted t k
  unfold takeProfile handProfile
  dsimp only
  split
  · rw [counted, counted]
  · rw [counted, counted]
  · split
    · rw [(forward_alike _ p f q).frame, judged, counted]
    · rw [judged, counted]

/-- A row of a roof port's good frame leaves no frame open there, and every other frame store as it is. -/
theorem roofRow_frame {s t : State} {p : Port} {f : Frame} {x : RxResult}
    (h : ∀ q, (t.port q).frame = (((settle s (.roof p) f).countRx (.roof p) x).port q).frame) (q : Port) :
    (t.port q).frame = (s.port q).frame ∨ (t.port q).frame = none := by
  have closes := settle_framesClose s (.roof p) f (.roof q)
  rw [h q, show (((settle s (.roof p) f).countRx (.roof p) x).port q).frame = _ from
    State.countRx_openFrame (settle s (.roof p) f) (.roof p) (.roof q) x]
  exact closes

theorem profileFrame_frame (s : State) (p : Port) (address : Byte) (payload : List Byte) (q : Port) :
    ((profileFrame s p address payload).port q).frame = (s.port q).frame ∨
      ((profileFrame s p address payload).port q).frame = none := by
  unfold profileFrame
  dsimp only
  split
  · exact roofRow_frame (fun _ => rfl) q
  · exact roofRow_frame (fun r => (takeProfile_frame _ p _ r).trans (goodFrame_alike _ p r).frame) q

theorem headReplyFrame_frame (s : State) (p : Port) (address : Byte) (payload : List Byte) (q : Port) :
    ((headReplyFrame s p address payload).port q).frame = (s.port q).frame ∨
      ((headReplyFrame s p address payload).port q).frame = none := by
  unfold headReplyFrame
  dsimp only
  split
  · exact roofRow_frame (fun _ => rfl) q
  · exact roofRow_frame (fun r => (relayReply_alike _ p _ r).frame.trans (goodFrame_alike _ p r).frame) q

theorem clearAll_frame (s : State) (p : Port) : ((clearAll s).port p).frame = (s.port p).frame := by
  show ((Quad.ofFn fun p => { s.roof.ports.get p with counters := {} }).get p).frame = _
  rw [Quad.get_ofFn]
  rfl

theorem softReset_frame (s : State) (p : Port) : ((softReset s).port p).frame = none := by
  show ((Quad.ofFn fun p => softPort s.roof.enabled p (s.port p)).get p).frame = _
  rw [Quad.get_ofFn]
  rfl

theorem hardValues_frame (s : State) (staddr : BitVec 4) (present : PortSet) (oda odb : Bool) (p : Port) :
    ((hardValues s staddr present oda odb).port p).frame = none := by
  show ((Quad.ofFn (hardPort present)).get p).frame = _
  rw [Quad.get_ofFn]
  rfl

/-! ### The motion port -/

/-- The motion port's frame store and the counters of R34's balance have not changed. -/
structure MotionAlike (s t : State) : Prop where
  frame : t.motion.frame = s.motion.frame
  rx : t.motion.rx = s.motion.rx
  taken : t.motion.counters.taken = s.motion.counters.taken
  invalid : t.motion.counters.invalid = s.motion.counters.invalid

theorem MotionAlike.last {s t u : State} (k : MotionAlike t u) (h : MotionAlike s t) : MotionAlike s u :=
  ⟨k.frame.trans h.frame, k.rx.trans h.rx, k.taken.trans h.taken, k.invalid.trans h.invalid⟩

theorem MotionAlike.of_eq {s t : State} (h : t.motion = s.motion) : MotionAlike s t := by
  constructor <;> rw [h]

theorem MotionAlike.of_changes {parts : List Part} {s t : State} (h : OnlyChanges parts s t)
    (hp : .motion ∉ parts := by decide) : MotionAlike s t := .of_eq (h.1 .motion hp)

theorem handleTrigger_motionAlike (s : State) : MotionAlike s (handleTrigger s) := by
  have snapped : ∀ g h, MotionAlike s (((s.onMotion fun m => m.countSnapshot (newContext s).snapshot.motion).onSeq g).onAsm h) :=
    fun g h => ⟨rfl, rfl, rfl, rfl⟩
  unfold handleTrigger startScan
  dsimp only
  split
  · exact .of_eq rfl
  · split
    · exact .of_eq rfl
    · split
      · exact (MotionAlike.of_changes (release_changes _)).last ((MotionAlike.of_changes (State.onAsm_changes _ _)).last (snapped _ _))
      · exact snapped _ _

theorem lineChange_motionAlike (s : State) (oda odb late : Bool) : MotionAlike s (lineChange s oda odb late) := by
  have moved : ∀ f k, MotionAlike s (countStep (accumulate (s.onOdo f) k)) := fun f k =>
    (MotionAlike.of_changes (countStep_changes _)).last ((MotionAlike.of_changes (accumulate_changes _ k)).last (.of_eq rfl))
  unfold lineChange sendTrigger
  dsimp only
  split
  · exact .of_eq rfl
  · split
    · exact .of_eq rfl
    · split
      · split
        · exact (MotionAlike.of_changes (State.onSeq_changes _ _)).last (moved _ _)
        · exact (handleTrigger_motionAlike _).last (moved _ _)
      · exact moved _ _

theorem triggerArrival_motionAlike (s : State) : MotionAlike s (triggerArrival s) := by
  unfold triggerArrival
  split
  · exact (MotionAlike.of_changes (settleSpanClosed_changes _)).last ((handleTrigger_motionAlike _).last (.of_eq rfl))
  · exact .of_eq rfl

theorem holdAgeExpiry_motionAlike (s : State) : MotionAlike s (holdAgeExpiry s) := by
  unfold holdAgeExpiry
  split
  · exact ⟨rfl, rfl, rfl, rfl⟩
  · exact .of_eq rfl

theorem startRun_motionAlike (s : State) : MotionAlike s (startRun s).1 := by
  unfold startRun
  split
  · exact .of_eq rfl
  · exact (MotionAlike.of_changes (offerStatus_changes _ _)).last ⟨rfl, rfl, rfl, rfl⟩

theorem CommandRow.Ends.motionAlike {row : CommandRow} {s t : State} (ends : row.Ends s t)
    (body : ∀ u, MotionAlike u (row.body u).1) : MotionAlike s t := by
  cases ends with
  | turned away => exact .of_changes away.quiet.changes
  | refused opened r => exact (MotionAlike.of_changes (queueReply_quiet _ _ _ r).changes).last (.of_changes opened.quiet.changes)
  | done opened _ =>
    exact (MotionAlike.of_changes (queueReply_quiet _ _ _ _).changes).last ((body _).last (.of_changes opened.quiet.changes))

/-- Whether a row closes or stores a frame at the motion port, or clears counters. -/
def reachesMotion : Instr → Bool
  | .motionFrame _ _ => true
  | .frameFailed _ _ => true
  | c => clearsCounters c

theorem meaning_motionAlike {c : Instr} (h : reachesMotion c = false) (s : State) : MotionAlike s (meaning c s) := by
  by_cases hc : Part.motion ∈ footprint c
  · cases c <;> simp only [footprint, List.mem_cons, List.not_mem_nil, reduceCtorEq, or_false, or_self] at hc <;>
      simp only [reachesMotion, clearsCounters, reduceCtorEq] at h
    case lineChange oda odb late => exact lineChange_motionAlike s oda odb late
    case triggerArrival => exact triggerArrival_motionAlike s
    case holdAgeExpiry => exact holdAgeExpiry_motionAlike s
    case start a tag args =>
      exact ((CommandRow.ends ⟨a, 0x40, tag, args, _, _, _, startRun⟩ s).motionAlike fun u => startRun_motionAlike u)
  · exact .of_changes (meaning_changes c s) hc

theorem motionFrame_frame (s : State) (address : Byte) (payload : List Byte) :
    (motionFrame s address payload).motion.frame = s.motion.frame ∨ (motionFrame s address payload).motion.frame = none := by
  have closes : ∀ f x, ((settle s .motion f).countRx .motion x).motion.frame = s.motion.frame ∨
      ((settle s .motion f).countRx .motion x).motion.frame = none := fun f x => by
    rw [show ((settle s .motion f).countRx .motion x).motion.frame = _ from State.countRx_openFrame (settle s .motion f) .motion .motion x]
    exact settle_framesClose s .motion f .motion
  have taken : ∀ (m : MotionPort) v now, (m.take v now).frame = m.frame := fun m v now => by
    unfold MotionPort.take
    split <;> rfl
  unfold motionFrame
  dsimp only
  split
  · exact closes _ _
  · rw [State.onMotion_motion, taken]
    exact closes _ _

/-! ### The trunk receiver -/

/-- The trunk receiver and the command counters have not changed. -/
structure TrunkAlike (s t : State) : Prop where
  frame : t.cmd.frame = s.cmd.frame
  rx : t.cmd.rx = s.cmd.rx
  counters : t.cmd.counters = s.cmd.counters

theorem TrunkAlike.last {s t u : State} (k : TrunkAlike t u) (h : TrunkAlike s t) : TrunkAlike s u :=
  ⟨k.frame.trans h.frame, k.rx.trans h.rx, k.counters.trans h.counters⟩

theorem TrunkAlike.of_eq {s t : State} (h : t.cmd = s.cmd) : TrunkAlike s t := by
  constructor <;> rw [h]

theorem TrunkAlike.of_changes {parts : List Part} {s t : State} (h : OnlyChanges parts s t)
    (hp : .cmd ∉ parts := by decide) : TrunkAlike s t := .of_eq (h.1 .cmd hp)

theorem DrainOnly.trunkAlike {s t : State} (h : DrainOnly s t) : TrunkAlike s t := by
  obtain ⟨_, _, _, hc⟩ := h
  constructor <;> rw [hc]

theorem settleSpanClosed_trunkAlike (s : State) : TrunkAlike s (settleSpanClosed s) := by
  rcases settleSpanClosed_cases s with same | ⟨-, -, -, closed⟩
  · exact .of_eq (by rw [same])
  · generalize settleSpanClosed s = t at closed
    cases closed with
    | standby => exact (TrunkAlike.of_changes (offerStatus_changes _ _)).last ⟨rfl, rfl, rfl⟩
    | _ => exact ⟨rfl, rfl, rfl⟩

theorem DrainOnly.last {s t u : State} (k : DrainOnly t u) (h : DrainOnly s t) : DrainOnly s u := h.trans k

theorem takeProfile_drainOnly (s : State) (p : Port) (f : Frame) : DrainOnly s (takeProfile s p f) := by
  have judged : ∀ t k v prof k', t.cmd = s.cmd → DrainOnly s ((assemble (State.countPort t p k) v prof).countPort p k') :=
    fun t k v prof k' ht =>
      (DrainOnly.trans (t := t.countPort p k) (.of_eq ht) (assemble_drainOnly _ v prof)).trans
        (.of_changes (State.countPort_changes _ p k'))
  unfold takeProfile handProfile
  dsimp only
  split
  · exact .of_eq rfl
  · exact .of_eq rfl
  · split
    · exact (DrainOnly.of_changes (forward_changes _ p f)).last (judged _ _ _ _ _ rfl)
    · exact judged _ _ _ _ _ rfl

theorem profileFrame_drainOnly (s : State) (p : Port) (address : Byte) (payload : List Byte) :
    DrainOnly s (profileFrame s p address payload) := by
  have closed : ∀ f x, DrainOnly s ((settle s (.roof p) f).countRx (.roof p) x) := fun f x =>
    .of_changes (closeRoof_changes s p f x)
  unfold profileFrame
  dsimp only
  split
  · exact closed _ _
  · exact (takeProfile_drainOnly _ p _).last ((DrainOnly.of_changes (goodFrame_changes _ p)).last (closed _ _))

theorem silenceTimerExpiry_drainOnly (s : State) (p : Port) : DrainOnly s (silenceTimerExpiry s p) := by
  unfold silenceTimerExpiry
  split
  · exact (((DrainOnly.of_changes (s.onPort_changes p _)).trans (.of_changes (offerStatus_changes _ _))).trans
      (.of_changes (State.onAsm_changes _ _))).trans (release_drainOnly _)
  · exact .of_eq rfl

theorem deadlineReached_drainOnly (s : State) (scan : Word16) : DrainOnly s (deadlineReached s scan) := by
  unfold deadlineReached
  split
  · exact DrainOnly.trans (.of_eq rfl) (release_drainOnly _)
  · exact .of_eq rfl

theorem clusterListArrival_drainOnly (s : State) : DrainOnly s (clusterListArrival s) := by
  unfold clusterListArrival
  split
  · exact DrainOnly.trans ⟨s.cmd.drain, s.cmd.lateMark, s.cmd.tally - 1, rfl⟩ (testTally_drainOnly _)
  · exact .of_eq rfl

theorem triggerArrival_trunkAlike (s : State) : TrunkAlike s (triggerArrival s) := by
  unfold triggerArrival
  split
  · exact (settleSpanClosed_trunkAlike _).last ((handleTrigger_drainOnly _).trunkAlike.last (.of_eq rfl))
  · exact .of_eq rfl

theorem runOpeningReport_trunkAlike (s : State) : TrunkAlike s (runOpeningReport s) := by
  unfold runOpeningReport
  split
  · exact (settleSpanClosed_trunkAlike _).last (.of_eq rfl)
  · exact .of_eq rfl

theorem scanFinishedReport_trunkAlike (s : State) : TrunkAlike s (scanFinishedReport s) := by
  unfold scanFinishedReport
  split
  · exact (settleSpanClosed_trunkAlike _).last ((TrunkAlike.of_changes (finishScan_changes _ _)).last (.of_eq rfl))
  · exact .of_eq rfl

theorem stopListArrival_trunkAlike (s : State) : TrunkAlike s (stopListArrival s) := by
  unfold stopListArrival
  split
  · exact (settleSpanClosed_trunkAlike _).last ((TrunkAlike.of_changes (State.onPaths_changes _ _)).last
      ((TrunkAlike.of_changes (spanClosing_changes _ _)).last (.of_eq rfl)))
  · exact .of_eq rfl

/-- Whether a row closes or stores a frame at the trunk receiver, or resets it. -/
def reachesTrunk : Instr → Bool
  | .frameFailed _ _ => true
  | .reset _ _ _ => true
  | .unknownCommand _ _ _ _ => true
  | .hardReset => true
  | .hardResetEnd _ _ _ _ => true
  | c => (commandRow c).isSome

theorem meaning_trunkAlike {c : Instr} (h : reachesTrunk c = false) (s : State) : TrunkAlike s (meaning c s) := by
  by_cases hc : Part.cmd ∈ footprint c
  · cases c <;> simp only [footprint, List.mem_cons, List.not_mem_nil, reduceCtorEq, or_false, or_self] at hc <;>
      simp only [reachesTrunk, commandRow, Option.isSome_some, reduceCtorEq] at h
    case profileFrame p a b => exact (profileFrame_drainOnly s p a b).trunkAlike
    case lineChange oda odb late => exact (lineChange_drainOnly s oda odb late).trunkAlike
    case silenceTimerExpiry p => exact (silenceTimerExpiry_drainOnly s p).trunkAlike
    case deadlineReached scan => exact (deadlineReached_drainOnly s scan).trunkAlike
    case clusterListArrival => exact (clusterListArrival_drainOnly s).trunkAlike
    case triggerArrival => exact triggerArrival_trunkAlike s
    case runOpeningReport => exact runOpeningReport_trunkAlike s
    case scanFinishedReport => exact scanFinishedReport_trunkAlike s
    case stopListArrival => exact stopListArrival_trunkAlike s
  · exact .of_changes (meaning_changes c s) hc

end Sys2Proof.Machine
end

section
/-! SUPPORT. The frame stores, the contexts, the zone entries, the track slots and the wire types: what keeps each of them
within its size (R2, R48, R68, R112, R122), and the whole of Law 8. -/

namespace Sys2Proof.Machine

set_option Elab.async false

/-! ### Frame stores, row by row (R2) -/

theorem setRunParams_trunkAlike (args : List Byte) (s : State) : TrunkAlike s (setRunParams args s).1 := by
  unfold setRunParams
  split
  · exact .of_eq rfl
  · exact ⟨rfl, rfl, rfl⟩

theorem startRun_trunkAlike (s : State) : TrunkAlike s (startRun s).1 := by
  unfold startRun
  split
  · exact .of_eq rfl
  · exact (TrunkAlike.of_changes (offerStatus_changes _ _)).last ⟨rfl, rfl, rfl⟩

theorem stopRun_trunkAlike (s : State) : TrunkAlike s (stopRun s).1 := by
  have told : TrunkAlike s (offerStatus (s.onCmd fun c => { c with op := .draining, drain := .waitingAssembly })
      .operatingState) := (TrunkAlike.of_changes (offerStatus_changes _ _)).last ⟨rfl, rfl, rfl⟩
  unfold stopRun
  split
  · show TrunkAlike s (beginDrain s)
    unfold beginDrain assemblyDrained
    dsimp only
    split
    · split
      · exact (testTally_drainOnly _).trunkAlike.last (TrunkAlike.last (t := offerStatus _ _) ⟨rfl, rfl, rfl⟩ told)
      · exact told
    · exact told
  · exact .of_eq rfl
  · exact .of_eq rfl

/-- A command's body leaves the trunk receiver and the command counters, CLEAR_COUNTERS's apart. -/
theorem body_trunkAlike {c : Instr} {row : CommandRow} (h : commandRow c = some row) (clear : clearsCounters c = false)
    (s : State) : TrunkAlike s (row.body s).1 := by
  cases c <;> cases h <;> dsimp only
  case clearCounters => cases clear
  case identify => exact .of_eq rfl
  case getState => exact .of_eq rfl
  case getCounters => exact .of_eq rfl
  case setHeads args => exact .of_changes (setHeads_changes args s)
  case loadHeadCal args => exact .of_changes (loadHeadCal_changes args s)
  case loadWireType args => exact .of_changes (loadWireType_changes args s)
  case setRunParams args => exact setRunParams_trunkAlike args s
  case setScanSpacing args => exact .of_changes (setScanSpacing_changes args s)
  case setStrobe args => exact .of_changes (setStrobe_changes args s)
  case setDistance args => exact .of_changes (setDistance_changes args s)
  case zoneAppend args => exact .of_changes (zoneAppend_changes args s)
  case zoneFlush => exact .of_changes (zoneFlush_changes s)
  case headPass args => exact .of_changes (headPass_changes args s)
  case start => exact startRun_trunkAlike s
  case stop => exact stopRun_trunkAlike s

theorem Opened.frame {s u : State} (h : Opened s u) : u.cmd.frame = none := by
  obtain ⟨r, rfl, -⟩ := h
  rfl

theorem TurnedAway.frame {s t : State} (h : TurnedAway s t) : t.cmd.frame = none := by
  obtain ⟨r, k, rfl, -⟩ := h
  rfl

theorem queueReply_frame (s : State) (code tag : Byte) (r : Reply) : (queueReply s code tag r).cmd.frame = s.cmd.frame := rfl

/-- A command row leaves no frame open in the trunk receiver (R2). -/
theorem command_frame {c : Instr} {row : CommandRow} (h : commandRow c = some row) (s : State) :
    (meaning c s).cmd.frame = none := by
  rw [meaning_command h]
  have ends := row.ends s
  generalize row.run s = t at ends
  cases ends with
  | turned away => exact away.frame
  | refused opened r => exact opened.frame
  | @done u opened _ =>
    rw [queueReply_frame]
    cases clear : clearsCounters c with
    | false => exact (body_trunkAlike h clear u).frame.trans opened.frame
    | true =>
      cases c <;> cases clear <;> cases h
      exact opened.frame

theorem meaning_trunkFrame {c : Instr} (hc : ∀ r rx, c ≠ .frameFailed r rx) (s : State) :
    (meaning c s).cmd.frame = s.cmd.frame ∨ (meaning c s).cmd.frame = none := by
  cases reach : reachesTrunk c with
  | false => exact .inl (meaning_trunkAlike reach s).frame
  | true =>
    cases row : commandRow c with
    | some row => exact .inr (command_frame row s)
    | none =>
      cases c <;> simp only [reachesTrunk, row, Option.isSome_none, reduceCtorEq] at reach
      case frameFailed r rx => exact absurd rfl (hc r rx)
      case reset a tag args =>
        show (resetRow a tag args s).cmd.frame = _ ∨ (resetRow a tag args s).cmd.frame = none
        rcases resetRow_cases s a tag args with away | ⟨u, opened, ran | ran⟩
        · exact .inr away.frame
        · rw [ran]
          unfold resetCommand
          dsimp only
          split
          · exact .inr rfl
          · rw [offerStatus_cmd]
            exact .inr rfl
        · rw [ran]
          exact .inr opened.frame
      case unknownCommand a code tag args =>
        show (unknownRow a code tag args s).cmd.frame = _ ∨ (unknownRow a code tag args s).cmd.frame = none
        rcases unknownRow_cases s a code tag args with same | away | ⟨u, opened, ran⟩
        · exact .inl (by rw [same])
        · exact .inr away.frame
        · rw [ran]
          exact .inr opened.frame
      case hardReset => exact .inr rfl
      case hardResetEnd a m x y => exact .inr (congrArg CommandUnit.frame (offerStatus_cmd (hardValues s a m x y) .operatingState))

/-- A part's frame store as a row finds it, or gone. -/
theorem meaning_motionFrame {c : Instr} (hc : ∀ r rx, c ≠ .frameFailed r rx) (s : State) :
    (meaning c s).motion.frame = s.motion.frame ∨ (meaning c s).motion.frame = none := by
  have quiet : ∀ {t u : State}, Quiet t u → (t.motion.frame = s.motion.frame ∨ t.motion.frame = none) →
      (u.motion.frame = s.motion.frame ∨ u.motion.frame = none) := fun k h => by
    rwa [k.changes.1 .motion (by decide)]
  cases reach : reachesMotion c with
  | false => exact .inl (meaning_motionAlike reach s).frame
  | true =>
    cases c <;> simp only [reachesMotion, clearsCounters, reduceCtorEq] at reach
    case motionFrame a b => exact motionFrame_frame s a b
    case frameFailed r rx => exact absurd rfl (hc r rx)
    case clearCounters a tag args =>
      exact command_keeps (c := .clearCounters a tag args) quiet rfl (fun _ _ h => h) (.inl rfl)
    case reset a tag args => exact reset_keeps quiet (fun _ => .inr rfl) (.inl rfl)
    case hardReset => exact .inr rfl
    case hardResetEnd a m x y => exact quiet (hardResetEnd_quiet s a m x y) (.inr rfl)

theorem meaning_roofFrame {c : Instr} (hc : ∀ r rx, c ≠ .frameFailed r rx) (s : State) (p : Port) :
    ((meaning c s).port p).frame = (s.port p).frame ∨ ((meaning c s).port p).frame = none := by
  have quiet : ∀ {t u : State}, Quiet t u → ((t.port p).frame = (s.port p).frame ∨ (t.port p).frame = none) →
      ((u.port p).frame = (s.port p).frame ∨ (u.port p).frame = none) := fun k h => by
    rwa [State.port, k.changes.1 .roof (by decide)]
  cases reach : reachesPorts c with
  | false => exact .inl (meaning_alike reach s p).frame
  | true =>
    cases c <;> simp only [reachesPorts, clearsCounters, reduceCtorEq] at reach
    case profileFrame q a b => exact profileFrame_frame s q a b p
    case headReplyFrame q a b => exact headReplyFrame_frame s q a b p
    case frameFailed r rx => exact absurd rfl (hc r rx)
    case clearCounters a tag args =>
      exact command_keeps (c := .clearCounters a tag args) quiet rfl (fun u _ h => by rwa [clearAll_frame]) (.inl rfl)
    case reset a tag args => exact reset_keeps quiet (fun _ => .inr (softReset_frame _ p)) (.inl rfl)
    case hardReset => exact .inr (hardValues_frame s s.cmd.station s.cmd.present s.odo.oda s.odo.odb p)
    case hardResetEnd a m x y => exact quiet (hardResetEnd_quiet s a m x y) (.inr (hardValues_frame s a m x y p))

theorem meaning_framesFit (c : Instr) (s : State) (h : FramesFit s) : FramesFit (meaning c s) := by
  by_cases hc : ∃ r rx, c = .frameFailed r rx
  · obtain ⟨r, rx, rfl⟩ := hc
    exact h.frameFailed r rx
  · have other : ∀ r rx, c ≠ .frameFailed r rx := fun r rx k => hc ⟨r, rx, k⟩
    exact h.close (.of_parts (meaning_roofFrame other s) (meaning_motionFrame other s) (meaning_trunkFrame other s))

/-! ### Contexts (R48) -/

/-- At most four contexts are in use. -/
structure ContextsFit (s : State) : Prop where
  le : s.asm.contexts.length ≤ 4

theorem ContextsFit.of_changes {parts : List Part} {s t : State} (k : OnlyChanges parts s t) (h : ContextsFit s)
    (hp : .asm ∉ parts := by decide) : ContextsFit t := by
  have asm : t.asm = s.asm := k.1 .asm hp
  exact ⟨asm ▸ h.le⟩

theorem ContextsFit.quiet {s t : State} (k : Quiet s t) (h : ContextsFit s) : ContextsFit t := h.of_changes k.changes

theorem completeWhere_length (sel : ScanContext → Bool) (a : Assembler) :
    (completeWhere sel a).contexts.length = a.contexts.length := by simp [completeWhere]

theorem acceptProfile_length (p : Profile) (a : Assembler) : (acceptProfile p a).contexts.length = a.contexts.length := by
  rw [acceptProfile, completeWhere_length, List.length_map]

theorem prunePort_length (p : Port) (a : Assembler) : (prunePort p a).contexts.length = a.contexts.length := by
  rw [prunePort, completeWhere_length, List.length_map]

theorem ContextsFit.release {s : State} (h : ContextsFit s) : ContextsFit (release s) := by
  by_cases hg : s.asm.contexts.takeWhile (·.complete) = []
  · rwa [show Machine.release s = s by simp [Machine.release, hg]]
  · rw [release_eq s _ _ rfl rfl hg]
    exact ⟨((List.dropWhile_sublist _).length_le).trans h.le⟩

theorem ContextsFit.onAsm {s : State} (h : ContextsFit s) {f : Assembler → Assembler}
    (hf : (f s.asm).contexts.length = s.asm.contexts.length) : ContextsFit (s.onAsm f) := ⟨hf.trans_le h.le⟩

theorem ContextsFit.assemble {s : State} (h : ContextsFit s) (v : Verdict) (prof : Profile) :
    ContextsFit (assemble s v prof) := by
  cases v with
  | accepted => exact (h.onAsm (acceptProfile_length prof _)).release
  | _ => exact h

theorem ContextsFit.profileFrame {s : State} (h : ContextsFit s) (p : Port) (address : Byte) (payload : List Byte) :
    ContextsFit (profileFrame s p address payload) := by
  have taken : ∀ {u : State} f, ContextsFit u → ContextsFit (takeProfile u p f) := fun {u} f hu => by
    have judged : ∀ t k v prof k', t.asm = u.asm →
        ContextsFit ((Machine.assemble (State.countPort t p k) v prof).countPort p k') := fun t k v prof k' ht =>
      ⟨(ContextsFit.assemble (s := t.countPort p k) ⟨by rw [State.countPort_asm, ht]; exact hu.le⟩ v prof).le⟩
    unfold takeProfile handProfile
    dsimp only
    split
    · exact ⟨hu.le⟩
    · exact ⟨hu.le⟩
    · split
      · exact .of_changes (forward_changes _ p f) (judged _ _ _ _ _ rfl)
      · exact judged _ _ _ _ _ rfl
  unfold Machine.profileFrame
  dsimp only
  split
  · exact h.of_changes (closeRoof_changes s p _ _)
  · exact taken _ (.of_changes (goodFrame_changes _ p) (h.of_changes (closeRoof_changes s p _ _)))

theorem ContextsFit.handleTrigger {s : State} (h : ContextsFit s) : ContextsFit (handleTrigger s) := by
  unfold Machine.handleTrigger
  split
  · exact ⟨h.le⟩
  · split
    · exact ⟨h.le⟩
    · next free =>
      have started : ∀ f g, ContextsFit (((s.onMotion f).onSeq g).onAsm fun a =>
          { a with contexts := a.contexts ++ [newContext s] }) := fun f g => by
        simp only [Config.contextCount] at free
        refine ⟨?_⟩
        simp
        omega
      unfold startScan
      dsimp only
      split
      · exact ((started _ _).onAsm (completeWhere_length _ _)).release
      · exact started _ _

theorem ContextsFit.lineChange {s : State} (h : ContextsFit s) (oda odb late : Bool) :
    ContextsFit (lineChange s oda odb late) := by
  have moved : ∀ f k, ContextsFit (countStep (accumulate (s.onOdo f) k)) := fun f k =>
    .of_changes (countStep_changes _) (.of_changes (accumulate_changes _ k) (h.of_changes (s.onOdo_changes f)))
  unfold Machine.lineChange sendTrigger
  dsimp only
  split
  · exact h
  · split
    · exact ⟨h.le⟩
    · split
      · split
        · exact .of_changes (State.onSeq_changes _ _) (moved _ _)
        · exact (moved _ _).handleTrigger
      · exact moved _ _

theorem ContextsFit.triggerArrival {s : State} (h : ContextsFit s) : ContextsFit (triggerArrival s) := by
  unfold Machine.triggerArrival
  split
  · exact .of_changes (settleSpanClosed_changes _) (ContextsFit.handleTrigger ⟨h.le⟩)
  · exact h

theorem ContextsFit.silenceTimerExpiry {s : State} (h : ContextsFit s) (p : Port) : ContextsFit (silenceTimerExpiry s p) := by
  unfold Machine.silenceTimerExpiry
  split
  · have told : ∀ f, ContextsFit (offerStatus (s.onPort p f) .portState) := fun f =>
      .of_changes (offerStatus_changes _ _) (h.of_changes (s.onPort_changes p f))
    exact ((told _).onAsm (prunePort_length p _)).release
  · exact h

theorem ContextsFit.deadlineReached {s : State} (h : ContextsFit s) (scan : Word16) : ContextsFit (deadlineReached s scan) := by
  unfold Machine.deadlineReached
  split
  · exact (h.onAsm (f := fun a => completeWhere (fun c => c.scan == scan) { a with deadlines := bump a.deadlines })
      (completeWhere_length _ _)).release
  · exact h

theorem meaning_contextsFit (c : Instr) (s : State) (h : ContextsFit s) : ContextsFit (meaning c s) := by
  by_cases hc : Part.asm ∈ footprint c
  · cases c <;> simp only [footprint, List.mem_cons, List.not_mem_nil, reduceCtorEq, or_false, or_self] at hc
    case profileFrame p a b => exact h.profileFrame p a b
    case frameFailed r rx => exact h.of_changes (frameFailed_changes s r rx) (by cases r <;> simp [receiverPart])
    case lineChange oda odb late => exact h.lineChange oda odb late
    case silenceTimerExpiry p => exact h.silenceTimerExpiry p
    case deadlineReached scan => exact h.deadlineReached scan
    case triggerArrival => exact h.triggerArrival
    case clearCounters a tag args =>
      exact command_keeps (c := .clearCounters a tag args) ContextsFit.quiet rfl (fun _ _ hu => ⟨hu.le⟩) h
    case reset a tag args => exact reset_keeps ContextsFit.quiet (fun _ => ⟨Nat.zero_le _⟩) h
    case hardReset => exact ⟨Nat.zero_le _⟩
    case hardResetEnd a m x y => exact .quiet (hardResetEnd_quiet s a m x y) ⟨Nat.zero_le _⟩
  · exact h.of_changes (meaning_changes c s) hc

/-! ### Zone entries (R68) -/

/-- At most 64 zone entries are held. -/
structure ZonesFit (s : State) : Prop where
  le : s.zones.entries.length ≤ 64

theorem ZonesFit.of_changes {parts : List Part} {s t : State} (k : OnlyChanges parts s t) (h : ZonesFit s)
    (hp : .zones ∉ parts := by decide) : ZonesFit t := by
  have zones : t.zones = s.zones := k.1 .zones hp
  exact ⟨zones ▸ h.le⟩

theorem ZonesFit.quiet {s t : State} (k : Quiet s t) (h : ZonesFit s) : ZonesFit t := h.of_changes k.changes

theorem ZonesFit.onZones {s : State} (h : ZonesFit s) {f : ZoneQueue → ZoneQueue}
    (hf : (f s.zones).entries.length ≤ s.zones.entries.length) : ZonesFit (s.onZones f) := ⟨hf.trans h.le⟩

theorem ZoneQueue.resolve_length (z : ZoneQueue) (d : Int) : (z.resolve d).entries.length = z.entries.length := by
  unfold ZoneQueue.resolve
  split
  · split <;> simp [*]
  · simp [*]

theorem ZonesFit.exhaust {s : State} (h : ZonesFit s) : ZonesFit (exhaust s) := by
  unfold Machine.exhaust
  split
  · exact .of_changes (offerStatus_changes _ _) (h.onZones le_rfl)
  · exact h

theorem ZonesFit.scanResolution {s : State} (h : ZonesFit s) : ZonesFit (scanResolution s) := by
  unfold Machine.scanResolution
  split
  · next scan rest _ =>
    have retired : ∀ d k, ZonesFit ((s.onPaths fun p => { p with toZone := rest }).onZones fun z => z.retire d scan.scan k) :=
      fun d k => ZonesFit.onZones (s := s.onPaths _) ⟨h.le⟩ (List.dropWhile_sublist _).length_le
    have resolved : ∀ {t : State} d f k, ZonesFit t →
        ZonesFit (((t.onZones fun z => z.resolve d).onPaths f).onZones fun z => z.handOn k) := fun d f k ht =>
      ⟨(ht.onZones (f := fun z => z.resolve d) (ZoneQueue.resolve_length _ d).le).le⟩
    unfold resolveScan
    dsimp only
    split
    · exact resolved _ _ _ (retired _ _).exhaust
    · exact resolved _ _ _ (retired _ _)
  · exact h

theorem ZonesFit.settleSpanClosed {s : State} (h : ZonesFit s) : ZonesFit (settleSpanClosed s) :=
  h.of_changes (settleSpanClosed_changes s)

theorem ZonesFit.runOpeningReport {s : State} (h : ZonesFit s) : ZonesFit (runOpeningReport s) := by
  unfold Machine.runOpeningReport
  split
  · next number rest _ =>
    exact ZonesFit.settleSpanClosed (ZonesFit.onZones (s := s.onPaths fun p => { p with reports := rest }) ⟨h.le⟩
      (by simp [ZoneQueue.countRun]))
  · exact h

theorem ZonesFit.scanFinishedReport {s : State} (h : ZonesFit s) : ZonesFit (scanFinishedReport s) := by
  unfold Machine.scanFinishedReport
  split
  · next scan rest _ =>
    exact ZonesFit.settleSpanClosed (.of_changes (offerZones_changes _ _)
      (ZonesFit.onZones (s := s.onPaths fun p => { p with reports := rest }) ⟨h.le⟩ le_rfl))
  · exact h

theorem ZonesFit.zoneAppend {s : State} (h : ZonesFit s) (args : List Byte) : ZonesFit (zoneAppend args s).1 := by
  unfold Machine.zoneAppend
  dsimp only
  split
  · exact h
  · next room =>
    split
    · exact h
    · simp only [Config.zoneCapacity] at room
      refine ⟨?_⟩
      simp [ZoneQueue.append, numberEntries]
      omega

theorem ZonesFit.zoneFlush {s : State} (h : ZonesFit s) : ZonesFit (zoneFlush s).1 := by
  have flushed : ZonesFit (s.onZones ZoneQueue.flush) := ⟨Nat.zero_le _⟩
  unfold Machine.zoneFlush
  dsimp only
  split
  · exact h
  · split
    · exact flushed
    · split
      · exact ZonesFit.exhaust (.of_changes (offerZones_changes _ _) flushed)
      · exact ZonesFit.exhaust (flushed.onZones le_rfl)

theorem ZonesFit.startRun {s : State} (h : ZonesFit s) : ZonesFit (startRun s).1 := by
  unfold Machine.startRun
  split
  · exact h
  · exact .of_changes (offerStatus_changes _ _) ⟨h.le⟩

theorem meaning_zonesFit (c : Instr) (s : State) (h : ZonesFit s) : ZonesFit (meaning c s) := by
  by_cases hc : Part.zones ∈ footprint c
  · cases c <;> simp only [footprint, List.mem_cons, List.not_mem_nil, reduceCtorEq, or_false, or_self] at hc
    case frameFailed r rx => exact h.of_changes (frameFailed_changes s r rx) (by cases r <;> simp [receiverPart])
    case scanResolution => exact h.scanResolution
    case runOpeningReport => exact h.runOpeningReport
    case scanFinishedReport => exact h.scanFinishedReport
    case clearCounters a tag args =>
      exact command_keeps (c := .clearCounters a tag args) ZonesFit.quiet rfl (fun _ _ hu => ⟨hu.le⟩) h
    case zoneAppend a tag args =>
      exact command_keeps (c := .zoneAppend a tag args) ZonesFit.quiet rfl (fun _ _ hu => hu.zoneAppend args) h
    case zoneFlush a tag args =>
      exact command_keeps (c := .zoneFlush a tag args) ZonesFit.quiet rfl (fun _ _ hu => hu.zoneFlush) h
    case start a tag args =>
      exact command_keeps (c := .start a tag args) ZonesFit.quiet rfl (fun _ _ hu => hu.startRun) h
    case reset a tag args => exact reset_keeps ZonesFit.quiet (fun _ => ⟨Nat.zero_le _⟩) h
    case hardReset => exact ⟨Nat.zero_le _⟩
    case hardResetEnd a m x y => exact .quiet (hardResetEnd_quiet s a m x y) ⟨Nat.zero_le _⟩
  · exact h.of_changes (meaning_changes c s) hc

/-! ### Track slots and wire types (R112, R122) -/

/-- There are six track slots and eight wire type slots. -/
structure SlotsFit (s : State) : Prop where
  tracks : s.tracks.slots.length = 6
  wires : s.merge.slots.length = 8

theorem SlotsFit.of_changes {parts : List Part} {s t : State} (k : OnlyChanges parts s t) (h : SlotsFit s)
    (ht : .tracks ∉ parts := by decide) (hm : .merge ∉ parts := by decide) : SlotsFit t := by
  have tracks : t.tracks = s.tracks := k.1 .tracks ht
  have merge : t.merge = s.merge := k.1 .merge hm
  exact ⟨tracks ▸ h.tracks, merge ▸ h.wires⟩

theorem SlotsFit.quiet {s t : State} (k : Quiet s t) (h : SlotsFit s) : SlotsFit t := h.of_changes k.changes

theorem placeTrack_length {t : Track} {m : Merged} {ws xs : List SlotWork} (h : placeTrack t m ws = some xs) :
    xs.length = ws.length := by
  induction ws generalizing xs with
  | nil => cases h
  | cons w ws ih =>
    unfold placeTrack at h
    split at h
    · cases h
      rfl
    · obtain ⟨ys, hy, rfl⟩ := Option.map_eq_some_iff.1 h
      simp [ih hy]

theorem bear_length (h : ScanHeader) (confirmHits : Nat) (b : BirthWork) (m : Merged) :
    (bear h confirmHits b m).slots.length = b.slots.length := by
  unfold bear
  dsimp only
  split
  · next placed => exact placeTrack_length placed
  · rfl

theorem bearAll_length (h : ScanHeader) (confirmHits : Nat) (ms : List Merged) (b : BirthWork) :
    (ms.foldl (bear h confirmHits) b).slots.length = b.slots.length := by
  induction ms generalizing b with
  | nil => rfl
  | cons m ms ih => rw [List.foldl_cons, ih, bear_length]

theorem trackWork_length (t : TrackTable) (params : RunParams) (l : ClusterList) :
    (trackWork t params l).slots.length = t.slots.length := by
  simp [trackWork, bearAll_length]

theorem SlotsFit.clusterListArrival {s : State} (h : SlotsFit s) : SlotsFit (clusterListArrival s) := by
  unfold Machine.clusterListArrival
  split
  · next l rest _ =>
    refine .of_changes (testTally_changes _) ⟨?_, h.wires⟩
    show ((trackWork s.tracks s.cmd.params l).slots.map (·.track)).length = 6
    rw [List.length_map, trackWork_length]
    exact h.tracks
  · exact h

theorem meaning_slotsFit (c : Instr) (s : State) (h : SlotsFit s) : SlotsFit (meaning c s) := by
  by_cases hc : Part.tracks ∈ footprint c ∨ Part.merge ∈ footprint c
  · cases c <;> simp only [footprint, List.mem_cons, List.not_mem_nil, reduceCtorEq, or_false, or_self] at hc
    case frameFailed r rx =>
      exact h.of_changes (frameFailed_changes s r rx) (by cases r <;> simp [receiverPart]) (by cases r <;> simp [receiverPart])
    case rawListArrival =>
      show SlotsFit (rawListArrival s)
      unfold rawListArrival
      split
      · exact ⟨h.tracks, h.wires⟩
      · exact h
    case clusterListArrival => exact h.clusterListArrival
    case drainCloseRequest =>
      show SlotsFit (if _ then _ else s)
      split
      · exact ⟨by simpa [TrackTable.closeDrain] using h.tracks, h.wires⟩
      · exact h
    case clearCounters a tag args =>
      exact command_keeps (c := .clearCounters a tag args) SlotsFit.quiet rfl (fun _ _ hu => ⟨hu.tracks, hu.wires⟩) h
    case loadWireType a tag args =>
      refine command_keeps (c := .loadWireType a tag args) SlotsFit.quiet rfl (fun u _ hu => ?_) h
      show SlotsFit (loadWireType args u).1
      unfold loadWireType
      dsimp only
      split
      · exact hu
      · exact ⟨hu.tracks, by simpa using hu.wires⟩
    case reset a tag args => exact reset_keeps SlotsFit.quiet (fun hu => ⟨rfl, hu.wires⟩) h
    case hardReset => exact ⟨rfl, rfl⟩
    case hardResetEnd a m x y => exact .quiet (hardResetEnd_quiet s a m x y) ⟨rfl, rfl⟩
  · exact h.of_changes (meaning_changes c s) (fun k => hc (.inl k)) (fun k => hc (.inr k))

/-! ### All sizes together -/

theorem capacity_iff (s : State) :
    Capacity s ↔ s.out.Fits false ∧ FramesFit s ∧ ContextsFit s ∧ ZonesFit s ∧ SlotsFit s := by
  constructor
  · intro h
    exact ⟨⟨⟨h.record, h.rawHead⟩, h.closed, by simpa [Output.occupancy, h.closed] using h.records, h.raw⟩, h.frames,
      ⟨h.contexts⟩, ⟨h.zones⟩, ⟨h.slots, h.wires⟩⟩
  · rintro ⟨out, frames, contexts, zones, slots⟩
    exact ⟨frames, out.head.1, out.head.2, out.records, out.reserved, out.raw, contexts.le, zones.le, slots.tracks, slots.wires⟩

theorem meaning_capacity (c : Instr) (s : State) (h : Capacity s) : Capacity (meaning c s) := by
  obtain ⟨out, frames, contexts, zones, slots⟩ := (capacity_iff s).1 h
  exact (capacity_iff _).2 ⟨meaning_outputFits c s out, meaning_framesFit c s frames, meaning_contextsFit c s contexts,
    meaning_zonesFit c s zones, meaning_slotsFit c s slots⟩

/-- Settles O55: each store keeps to its size under every row's meaning, and the clock reads none of them. -/
theorem capacityKept : Obligations.CapacityKept :=
  kept_of_exec
    (fun _ _ ⟨frames, record, rawHead, records, closed, raw, contexts, zones, slots, wires⟩ =>
      ⟨frames, record, rawHead, records, closed, raw, contexts, zones, slots, wires⟩)
    (fun _ _ ⟨frames, record, rawHead, records, closed, raw, contexts, zones, slots, wires⟩ =>
      ⟨frames, record, rawHead, records, closed, raw, contexts, zones, slots, wires⟩) meaning_capacity

end Sys2Proof.Machine
end

section
/-! SUPPORT. The balances of the roof ports, of the motion port, of geometry and of merging (R13, R34, R103, R121): what keeps
them. -/

namespace Sys2Proof.Machine

set_option Elab.async false

/-! ### Counters -/

theorem toNat_bumpBy_eq (c : Counter) (k : Nat) : (bumpBy c k).toNat = min (c.toNat + k) 4294967295 := by
  simp only [bumpBy, BitVec.toNat_ofNat, Config.counterMax]
  omega

theorem toNat_bump_eq (c : Counter) : (bump c).toNat = min (c.toNat + 1) 4294967295 := toNat_bumpBy_eq c 1

/-! ### The roof ports (R13) -/

/-- The good PROFILE frames of a port, short of saturation, are its dispositions and those whose disposition is still owed. -/
def PortCounters.Balanced (owed : Nat) (c : PortCounters) : Prop :=
  c.goodProfiles.toNat < 4294967295 →
    c.goodProfiles.toNat =
      c.accepted.toNat + c.duplicate.toNat + c.late.toNat + c.stray.toNat + c.idleDiscards.toNat + c.disabledDiscards.toNat + owed

/-- Each port balances but for what it owes. -/
def PortsBalanced (owed : Port → Nat) (s : State) : Prop := ∀ p, ((s.port p).counters).Balanced (owed p)

theorem portBalance_iff (s : State) : PortBalance s ↔ PortsBalanced (fun _ => 0) s := Iff.rfl

theorem PortCounters.Balanced.congr {owed : Nat} {c k : PortCounters} (h : c.Balanced owed)
    (e : k.dispositions = c.dispositions) : k.Balanced owed := by
  simp only [PortCounters.dispositions, List.cons.injEq, and_true] at e
  obtain ⟨good, accepted, duplicate, late, stray, idle, disabled⟩ := e
  unfold PortCounters.Balanced at h ⊢
  rwa [good, accepted, duplicate, late, stray, idle, disabled]

theorem PortCounters.balanced_zero : PortCounters.Balanced 0 {} := fun _ => rfl

/-- One good frame more is one disposition more owed. -/
theorem PortCounters.Balanced.goodProfile {owed : Nat} {c : PortCounters} (h : c.Balanced owed) :
    PortCounters.Balanced (owed + 1) { c with goodProfiles := bump c.goodProfiles } := by
  unfold PortCounters.Balanced at h ⊢
  simp only [toNat_bump_eq]
  omega

theorem PortCounters.Balanced.idleDiscard {owed : Nat} {c : PortCounters} (h : c.Balanced (owed + 1)) :
    PortCounters.Balanced owed { c with idleDiscards := bump c.idleDiscards } := by
  unfold PortCounters.Balanced at h ⊢
  simp only [toNat_bump_eq]
  omega

theorem PortCounters.Balanced.disabledDiscard {owed : Nat} {c : PortCounters} (h : c.Balanced (owed + 1)) :
    PortCounters.Balanced owed { c with disabledDiscards := bump c.disabledDiscards } := by
  unfold PortCounters.Balanced at h ⊢
  simp only [toNat_bump_eq]
  omega

theorem PortCounters.Balanced.verdict {owed : Nat} {c : PortCounters} (h : c.Balanced (owed + 1)) (v : Verdict) :
    PortCounters.Balanced owed (c.countVerdict v) := by
  unfold PortCounters.Balanced at h ⊢
  cases v <;> simp only [PortCounters.countVerdict, toNat_bump_eq] <;> omega

theorem PortsBalanced.alike {owed : Port → Nat} {s t : State} (k : PortsAlike s t) (h : PortsBalanced owed s) :
    PortsBalanced owed t := fun p => (h p).congr (k p).counts

theorem PortsBalanced.of_changes {owed : Port → Nat} {parts : List Part} {s t : State} (k : OnlyChanges parts s t)
    (h : PortsBalanced owed s) (hp : .roof ∉ parts := by decide) : PortsBalanced owed t := .alike (.of_changes k hp) h

theorem PortsBalanced.countPort {owed more : Port → Nat} {s : State} (h : PortsBalanced owed s) (p : Port)
    {f : PortCounters → PortCounters} (hf : ∀ c : PortCounters, c.Balanced (owed p) → (f c).Balanced (more p))
    (others : ∀ q, q ≠ p → more q = owed q) : PortsBalanced more (s.countPort p f) := fun q => by
  rw [State.countPort_port]
  split
  · next e => exact e ▸ hf _ (h p)
  · next e => exact others q e ▸ h q

theorem PortsBalanced.countRx {s : State} (h : PortsBalanced (fun _ => 0) s) (r : Receiver) (x : RxResult) :
    PortsBalanced (fun _ => 0) (s.countRx r x) := by
  cases r with
  | roof p => exact .alike (.countPort s p fun _ => rfl) h
  | motion => exact h
  | trunk => exact h

theorem PortsBalanced.withOpenFrame {s : State} (h : PortsBalanced (fun _ => 0) s) (r : Receiver) (w : Option OpenFrame) :
    PortsBalanced (fun _ => 0) (s.withOpenFrame r w) := by
  cases r with
  | roof p =>
    intro q
    show PortCounters.Balanced 0 ((s.onPort p fun c => { c with frame := w }).port q).counters
    rw [State.onPort_port]
    split
    · exact h p
    · exact h q
  | motion => exact h
  | trunk => exact h

theorem PortsBalanced.settle {s : State} (h : PortsBalanced (fun _ => 0) s) (r : Receiver) (f : Frame) :
    PortsBalanced (fun _ => 0) (settle s r f) := by
  unfold Machine.settle
  split
  · exact h
  · split
    · exact h.withOpenFrame r none
    · exact (h.withOpenFrame r none).countRx r _

theorem PortsBalanced.frameFailed {s : State} (h : PortsBalanced (fun _ => 0) s) (r : Receiver) (rx : Reception) :
    PortsBalanced (fun _ => 0) (frameFailed s r rx) := by
  unfold Machine.frameFailed
  dsimp only
  split
  · exact h.withOpenFrame r _
  · exact (h.withOpenFrame r _).countRx r _
  · split
    · exact h
    · exact (h.withOpenFrame r none).countRx r _

/-- One disposition owed at a port. -/
def owedAt (p : Port) (q : Port) : Nat := if q = p then 1 else 0

theorem PortsBalanced.handProfile {s : State} {p : Port} (h : PortsBalanced (owedAt p) s) (f : Frame) :
    PortsBalanced (fun _ => 0) (handProfile s p f) := by
  have judged : ∀ k v prof k', (∀ c : PortCounters, (k c).dispositions = c.dispositions) →
      (∀ c : PortCounters, c.Balanced 1 → (k' c).Balanced 0) →
      PortsBalanced (fun _ => 0) ((assemble (s.countPort p k) v prof).countPort p k') := fun k v prof k' hk hk' =>
    (PortsBalanced.of_changes (assemble_changes _ v prof) (.alike (.countPort s p hk) h)).countPort p
      (by simpa [owedAt] using hk') (fun q hq => by simp [owedAt, hq])
  unfold Machine.handProfile
  dsimp only
  split
  · exact .alike (forward_alike _ p f) (judged _ _ _ _ (fun _ => rfl) fun c hc => hc.verdict _)
  · exact judged _ _ _ _ (fun _ => rfl) fun c hc => hc.verdict _

theorem PortsBalanced.takeProfile {s : State} (h : PortsBalanced (fun _ => 0) s) (p : Port) (f : Frame) :
    PortsBalanced (fun _ => 0) (takeProfile s p f) := by
  have counted : PortsBalanced (owedAt p) (s.countPort p fun c => { c with goodProfiles := bump c.goodProfiles }) :=
    h.countPort p (fun c hc => by simpa [owedAt] using hc.goodProfile) (fun q hq => by simp [owedAt, hq])
  unfold Machine.takeProfile
  dsimp only
  split
  · exact counted.countPort p (fun c hc => PortCounters.Balanced.disabledDiscard (by simpa [owedAt] using hc))
      (fun q hq => by simp [owedAt, hq])
  · exact counted.countPort p (fun c hc => PortCounters.Balanced.idleDiscard (by simpa [owedAt] using hc))
      (fun q hq => by simp [owedAt, hq])
  · exact counted.handProfile f

theorem PortsBalanced.profileFrame {s : State} (h : PortsBalanced (fun _ => 0) s) (p : Port) (address : Byte)
    (payload : List Byte) : PortsBalanced (fun _ => 0) (profileFrame s p address payload) := by
  have closed : ∀ f x, PortsBalanced (fun _ => 0) ((Machine.settle s (.roof p) f).countRx (.roof p) x) := fun f x =>
    (h.settle (.roof p) f).countRx (.roof p) x
  unfold Machine.profileFrame
  dsimp only
  split
  · exact closed _ _
  · exact PortsBalanced.takeProfile (.alike (goodFrame_alike _ p) (closed _ _)) p _

theorem PortsBalanced.headReplyFrame {s : State} (h : PortsBalanced (fun _ => 0) s) (p : Port) (address : Byte)
    (payload : List Byte) : PortsBalanced (fun _ => 0) (headReplyFrame s p address payload) := by
  have closed : ∀ f x, PortsBalanced (fun _ => 0) ((Machine.settle s (.roof p) f).countRx (.roof p) x) := fun f x =>
    (h.settle (.roof p) f).countRx (.roof p) x
  unfold Machine.headReplyFrame
  dsimp only
  split
  · exact closed _ _
  · exact .alike (relayReply_alike _ p _) (.alike (goodFrame_alike _ p) (closed _ _))

theorem portsBalanced_fresh {s : State} {f : Port → RoofPort} (hs : s.roof.ports = Quad.ofFn f)
    (hf : ∀ p, (f p).counters = {}) : PortsBalanced (fun _ => 0) s := fun p => by
  rw [State.port, hs, Quad.get_ofFn, hf]
  exact PortCounters.balanced_zero

theorem meaning_portBalance (c : Instr) (s : State) (h : PortsBalanced (fun _ => 0) s) :
    PortsBalanced (fun _ => 0) (meaning c s) := by
  have quiet : ∀ {t u : State}, Quiet t u → PortsBalanced (fun _ => 0) t → PortsBalanced (fun _ => 0) u :=
    fun k => .of_changes k.changes
  cases reach : reachesPorts c with
  | false => exact .alike (meaning_alike reach s) h
  | true =>
    cases c <;> simp only [reachesPorts, clearsCounters, reduceCtorEq] at reach
    case profileFrame p a b => exact h.profileFrame p a b
    case headReplyFrame p a b => exact h.headReplyFrame p a b
    case frameFailed r rx => exact h.frameFailed r rx
    case clearCounters a tag args =>
      exact command_keeps (c := .clearCounters a tag args) quiet rfl (fun u _ _ =>
        portsBalanced_fresh (f := fun p => { u.roof.ports.get p with counters := {} }) rfl fun _ => rfl) h
    case reset a tag args => 
      exact reset_keeps quiet
        (fun {u} _ => portsBalanced_fresh (f := fun p => softPort u.roof.enabled p (u.port p)) rfl fun _ => rfl) h
    case hardReset => exact portsBalanced_fresh (f := hardPort s.cmd.present) rfl fun _ => rfl
    case hardResetEnd a m x y =>
      exact quiet (hardResetEnd_quiet s a m x y) (portsBalanced_fresh (f := hardPort m) rfl fun _ => rfl)

theorem portBalance_kept : Kept PortBalance :=
  kept_of_exec (fun _ _ h => h) (fun _ _ h => h) meaning_portBalance

/-! ### The motion port (R34) -/

theorem motionBalance_alike {s t : State} (k : MotionAlike s t) (h : MotionBalance s) : MotionBalance t := by
  unfold MotionBalance at h ⊢
  rwa [k.rx, k.taken, k.invalid]

theorem MotionBalance.closeFailed {s : State} (h : MotionBalance s) (r : Receiver) (w : Option OpenFrame) (x : RxFailure) :
    MotionBalance ((s.withOpenFrame r w).countRx r (.failed x)) := by
  cases r with
  | roof p => exact h
  | trunk => exact h
  | motion => cases x <;> exact h

theorem MotionBalance.withOpenFrame {s : State} (h : MotionBalance s) (r : Receiver) (w : Option OpenFrame) :
    MotionBalance (s.withOpenFrame r w) := by
  cases r <;> exact h

theorem MotionBalance.settle {s : State} (h : MotionBalance s) (r : Receiver) (f : Frame) : MotionBalance (settle s r f) := by
  unfold Machine.settle
  split
  · exact h
  · split
    · exact h.withOpenFrame r none
    · exact h.closeFailed r none _

/-- A frame that a start delimiter closes is a framing failure (R2, R3). -/
theorem checkClosed_byStart (rule : PortRule) (w : OpenFrame) : checkClosed rule w true = .failed .framing := by
  simp [checkClosed]

theorem MotionBalance.frameFailed {s : State} (h : MotionBalance s) (r : Receiver) (rx : Reception) :
    MotionBalance (frameFailed s r rx) := by
  unfold Machine.frameFailed
  dsimp only
  split
  · exact h.withOpenFrame r _
  · rw [checkClosed_byStart]
    exact h.closeFailed r _ _
  · split
    · exact h
    · exact h.closeFailed r _ _

theorem MotionBalance.motionFrame {s : State} (h : MotionBalance s) (address : Byte) (payload : List Byte) :
    MotionBalance (motionFrame s address payload) := by
  have settled := h.settle .motion ⟨kindMotion, address, payload⟩
  unfold Machine.motionFrame
  dsimp only
  generalize Machine.settle s .motion _ = u at settled ⊢
  split
  · next c hx =>
    rw [hx]
    cases c <;> exact settled
  · next f hx =>
    rw [hx]
    unfold MotionBalance at settled ⊢
    simp only [State.onMotion_motion, State.countRx, RxCounters.count, MotionPort.take, Config.counterMax] at settled ⊢
    split <;> simp only [toNat_bump_eq] <;> omega

theorem meaning_motionBalance (c : Instr) (s : State) (h : MotionBalance s) : MotionBalance (meaning c s) := by
  have quiet : ∀ {t u : State}, Quiet t u → MotionBalance t → MotionBalance u := fun k =>
    motionBalance_alike (.of_changes k.changes)
  cases reach : reachesMotion c with
  | false => exact motionBalance_alike (meaning_motionAlike reach s) h
  | true =>
    cases c <;> simp only [reachesMotion, clearsCounters, reduceCtorEq] at reach
    case motionFrame a b => exact h.motionFrame a b
    case frameFailed r rx => exact h.frameFailed r rx
    case clearCounters a tag args =>
      exact command_keeps (c := .clearCounters a tag args) quiet rfl (fun _ _ _ _ => rfl) h
    case reset a tag args => exact reset_keeps quiet (fun _ _ => rfl) h
    case hardReset => exact fun _ => rfl
    case hardResetEnd a m x y => exact quiet (hardResetEnd_quiet s a m x y) fun _ => rfl

theorem motionBalance_kept : Kept MotionBalance :=
  kept_of_exec (fun _ _ h => h) (fun _ _ h => h) meaning_motionBalance

/-! ### Geometry (R103) -/

/-- The geometry counters of a port balance short of saturation. -/
def GeoCounters.Balanced (k : GeoCounters) : Prop :=
  k.examined.toNat < 4294967295 →
    k.examined.toNat = k.noise.toNat + k.window.toNat + k.detections.toNat ∧ k.clipped.toNat ≤ k.detections.toNat

/-- Every segment is dropped as noise, dropped as out of window, or kept (R89 to R91). -/
theorem filtered_countP (outcomes : List Filtered) :
    outcomes.length =
      outcomes.countP (· == .noise) + outcomes.countP (· == .window) + outcomes.countP Filtered.isKept ∧
    outcomes.countP Filtered.clippedMark ≤ outcomes.countP Filtered.isKept := by
  induction outcomes with
  | nil => exact ⟨rfl, le_rfl⟩
  | cons o os ih =>
    obtain ⟨total, clipped⟩ := ih
    simp only [List.countP_cons, List.length_cons]
    cases o with
    | noise => simp [Filtered.clippedMark, Filtered.isKept]; omega
    | window => simp [Filtered.clippedMark, Filtered.isKept]; omega
    | kept a b c => cases c <;> simp [Filtered.clippedMark, Filtered.isKept] <;> omega

theorem GeoCounters.Balanced.count {k : GeoCounters} (h : k.Balanced) (outcomes : List Filtered) :
    (k.count outcomes).Balanced := by
  have counts := filtered_countP outcomes
  unfold GeoCounters.Balanced at h ⊢
  simp only [GeoCounters.count, toNat_bumpBy_eq]
  omega

theorem countScan_balanced {cal : Quad CalSlot} (ds : List PortDelivery) {q : Quad GeoCounters}
    (h : ∀ p, (q.get p).Balanced) (p : Port) :
    ((ds.foldl (fun q d => q.modify d.port fun k => k.count (d.segments.map (filterSegment (cal.get d.port).cal))) q).get
      p).Balanced := by
  induction ds generalizing q with
  | nil => exact h p
  | cons d ds ih =>
    refine ih fun r => ?_
    rw [Quad.get_modify]
    split
    · exact (h d.port).count _
    · exact h r

theorem geometryBalance_of_ports {s t : State} (k : t.geo.ports = s.geo.ports) (h : GeometryBalance s) :
    GeometryBalance t := by
  unfold GeometryBalance
  rwa [k]

theorem geometryBalance_zero {s : State} (h : s.geo.ports = Quad.replicate {}) : GeometryBalance s := fun p => by
  rw [h, Quad.get_replicate]
  exact fun _ => ⟨rfl, le_rfl⟩

theorem meaning_geometryBalance (c : Instr) (s : State) (h : GeometryBalance s) : GeometryBalance (meaning c s) := by
  have quiet : ∀ {t u : State}, Quiet t u → GeometryBalance t → GeometryBalance u := fun k =>
    geometryBalance_of_ports (congrArg Geometry.ports (k.changes.1 .geo (by decide)))
  by_cases hc : Part.geo ∈ footprint c
  · cases c <;> simp only [footprint, List.mem_cons, List.not_mem_nil, reduceCtorEq, or_false, or_self] at hc
    case frameFailed r rx =>
      exact geometryBalance_of_ports (congrArg Geometry.ports
        ((frameFailed_changes s r rx).1 .geo (by cases r <;> simp [receiverPart]))) h
    case geometryScan =>
      show GeometryBalance (geometryScan s)
      unfold geometryScan
      split
      · exact countScan_balanced _ h
      · exact h
    case clearCounters a tag args =>
      exact command_keeps (c := .clearCounters a tag args) quiet rfl (fun _ _ _ => geometryBalance_zero rfl) h
    case loadHeadCal a tag args =>
      refine command_keeps (c := .loadHeadCal a tag args) quiet rfl (fun u _ hu => ?_) h
      show GeometryBalance (loadHeadCal args u).1
      unfold loadHeadCal
      dsimp only
      split
      · exact hu
      · split <;> exact hu
    case reset a tag args => exact reset_keeps quiet (fun _ => geometryBalance_zero rfl) h
    case hardReset => exact geometryBalance_zero rfl
    case hardResetEnd a m x y => exact quiet (hardResetEnd_quiet s a m x y) (geometryBalance_zero rfl)
  · exact geometryBalance_of_ports (congrArg Geometry.ports ((meaning_changes c s).1 .geo hc)) h

theorem geometryBalance_kept : Kept GeometryBalance :=
  kept_of_exec (fun _ _ h => h) (fun _ _ h => h) meaning_geometryBalance

/-! ### Merging (R121) -/

theorem betterSource_width {cal : Quad CalSlot} {best : Option Detection} {d : Detection}
    (hb : ∀ b, best = some b → b.width.isSome = true) (hd : d.width.isSome = true) :
    ∀ b, betterSource cal best d = some b → b.width.isSome = true := by
  intro b h
  unfold betterSource at h
  split at h
  · cases h
    exact hd
  · split at h
    · cases h
      exact hd
    · exact hb b h

/-- A wear source carries a width (R110). -/
theorem wearSource_width {cal : Quad CalSlot} {members : List Detection} {d : Detection}
    (h : wearSource cal members = some d) : d.width.isSome = true := by
  have fold : ∀ (ds : List Detection) (best : Option Detection), (∀ d ∈ ds, d.width.isSome = true) →
      (∀ b, best = some b → b.width.isSome = true) →
      ∀ b, ds.foldl (betterSource cal) best = some b → b.width.isSome = true := by
    intro ds
    induction ds with
    | nil => exact fun best _ hb => hb
    | cons d ds ih =>
      intro best hds hb
      exact ih _ (fun k hk => hds k (List.mem_cons_of_mem _ hk)) (betterSource_width hb (hds d List.mem_cons_self))
  unfold wearSource at h
  refine fold _ none (fun k hk => ?_) (fun b hb => ?_) d h
  · simpa using (List.mem_filter.1 hk).2
  · cases hb

/-- A cluster has a thickness exactly where it has a wear source (R110, R116). -/
theorem finishCluster_thickness {w : WireSlot} {index : Nat} {c : MergedCluster}
    (h : ∀ d, c.source = some d → d.width.isSome = true) :
    (finishCluster w index c).thickness.isSome = (finishCluster w index c).source.isSome := by
  simp only [finishCluster, Option.isSome_map]
  cases hs : c.source with
  | none => rfl
  | some d => simpa using h d hs

theorem limitClusters_length (cs : List MergedCluster) : (limitClusters cs).length ≤ cs.length := by
  simp only [limitClusters, List.length_map]
  exact (List.length_filter_le _ _).trans (by simp)

theorem limitClusters_mem {cs : List MergedCluster} {c : MergedCluster} (h : c ∈ limitClusters cs) : c ∈ cs := by
  obtain ⟨⟨k, i⟩, hk, rfl⟩ := List.mem_map.1 h
  exact (List.mem_zipIdx' (List.mem_of_mem_filter hk)).2 ▸ List.getElem_mem _

theorem mergeDetections_items_le (cal : Quad CalSlot) (params : RunParams) (w : WireSlot) (raw : List Detection) :
    (mergeDetections cal params w raw).items.length ≤ (mergeDetections cal params w raw).formed.length := by
  simp only [mergeDetections, List.length_map, List.length_zipIdx]
  exact (limitClusters_length _).trans (by simp)

theorem mergeDetections_thickness {cal : Quad CalSlot} {params : RunParams} {w : WireSlot} {raw : List Detection}
    {m : Merged} (h : m ∈ (mergeDetections cal params w raw).items) : m.thickness.isSome = m.source.isSome := by
  obtain ⟨⟨c, i⟩, hc, rfl⟩ := List.mem_map.1 h
  refine finishCluster_thickness fun d hd => ?_
  have kept : c ∈ limitClusters _ := (List.mem_zipIdx' hc).2 ▸ List.getElem_mem _
  obtain ⟨members, -, rfl⟩ := List.mem_map.1 (limitClusters_mem kept)
  exact wearSource_width hd

/-- Each source is one of the four ports. -/
theorem sources_countP (items : List Merged) :
    items.countP (fun i => i.source.isSome) =
      items.countP (fun i => i.source == some .h0) + items.countP (fun i => i.source == some .h1) +
        items.countP (fun i => i.source == some .h2) + items.countP (fun i => i.source == some .h3) := by
  induction items with
  | nil => rfl
  | cons m ms ih =>
    simp only [List.countP_cons, ih]
    cases m.source with
    | none => simp
    | some p => cases p <;> simp <;> omega

/-- A list is what meets a test and what does not. -/
theorem length_eq_countP_add_not {α : Type} (p : α → Bool) (l : List α) : l.length = l.countP p + l.countP fun a => !p a := by
  rw [List.length_eq_countP_add_countP (p := p) (l := l)]
  exact congrArg _ (List.countP_congr fun i _ => by simp)

/-- The merge counters balance short of saturation. -/
def MergeWear.Balanced (m : MergeWear) : Prop :=
  m.counters.formed.toNat < 4294967295 →
    m.counters.formed.toNat = m.counters.handedOn.toNat + m.counters.dropped.toNat ∧
    m.counters.handedOn.toNat = m.counters.wearSamples.toNat + m.counters.withoutWear.toNat ∧
    m.counters.wearSamples.toNat =
      m.sources.h0.toNat + m.sources.h1.toNat + m.sources.h2.toNat + m.sources.h3.toNat

theorem mergeBalance_iff (s : State) : MergeBalance s ↔ s.merge.Balanced := Iff.rfl

theorem MergeWear.Balanced.countScan {m : MergeWear} (h : m.Balanced) {r : MergeResult}
    (fits : r.items.length ≤ r.formed.length) (wear : ∀ i ∈ r.items, i.thickness.isSome = i.source.isSome) :
    (m.countScan r).Balanced := by
  have parts := length_eq_countP_add_not (fun i : Merged => i.thickness.isSome) r.items
  have sourced := sources_countP r.items
  have same : r.items.countP (fun i => i.thickness.isSome) = r.items.countP fun i => i.source.isSome :=
    List.countP_congr fun i hi => by rw [wear i hi]
  unfold MergeWear.Balanced at h ⊢
  simp only [MergeWear.countScan, Quad.ofFn, Quad.get, toNat_bumpBy_eq]
  omega

theorem mergeBalance_of_merge {s t : State} (hc : t.merge.counters = s.merge.counters := by rfl)
    (hs : t.merge.sources = s.merge.sources := by rfl) (h : MergeBalance s) : MergeBalance t := by
  unfold MergeBalance
  rwa [hc, hs]

theorem mergeBalance_zero {s : State} (hc : s.merge.counters = {} := by rfl)
    (hs : s.merge.sources = Quad.replicate 0 := by rfl) : MergeBalance s := by
  unfold MergeBalance
  rw [hc, hs]
  exact fun _ => ⟨rfl, rfl, rfl⟩

theorem meaning_mergeBalance (c : Instr) (s : State) (h : MergeBalance s) : MergeBalance (meaning c s) := by
  have quiet : ∀ {t u : State}, Quiet t u → MergeBalance t → MergeBalance u := fun k =>
    mergeBalance_of_merge (congrArg MergeWear.counters (k.changes.1 .merge (by decide)))
      (congrArg MergeWear.sources (k.changes.1 .merge (by decide)))
  by_cases hc : Part.merge ∈ footprint c
  · cases c <;> simp only [footprint, List.mem_cons, List.not_mem_nil, reduceCtorEq, or_false, or_self] at hc
    case frameFailed r rx =>
      have same : (meaning (.frameFailed r rx) s).merge = s.merge :=
        (frameFailed_changes s r rx).1 .merge (by cases r <;> simp [receiverPart])
      exact mergeBalance_of_merge (by rw [same]) (by rw [same]) h
    case rawListArrival =>
      show MergeBalance (rawListArrival s)
      unfold rawListArrival
      split
      · exact MergeWear.Balanced.countScan h (mergeDetections_items_le _ _ _ _) fun i hi => mergeDetections_thickness hi
      · exact h
    case clearCounters a tag args =>
      exact command_keeps (c := .clearCounters a tag args) quiet rfl (fun _ _ _ => mergeBalance_zero) h
    case loadWireType a tag args =>
      refine command_keeps (c := .loadWireType a tag args) quiet rfl (fun u _ hu => ?_) h
      show MergeBalance (loadWireType args u).1
      unfold loadWireType
      dsimp only
      split <;> exact hu
    case reset a tag args => exact reset_keeps quiet (fun _ => mergeBalance_zero) h
    case hardReset => exact mergeBalance_zero
    case hardResetEnd a m x y => exact quiet (hardResetEnd_quiet s a m x y) mergeBalance_zero
  · exact mergeBalance_of_merge (congrArg MergeWear.counters ((meaning_changes c s).1 .merge hc))
      (congrArg MergeWear.sources ((meaning_changes c s).1 .merge hc)) h

theorem mergeBalance_kept : Kept MergeBalance :=
  kept_of_exec (fun _ _ h => h) (fun _ _ h => h) meaning_mergeBalance

end Sys2Proof.Machine
end

section
/-! SUPPORT. The balances counted from a point (R83, R160, R170, R184): what carries them on. -/

namespace Sys2Proof.Machine

set_option Elab.async false

/-! ### Carrying a balance on -/

/-- From s to t both sides of a balance move by the same amount, if no counter of it has saturated in t; and none has in s
then. -/
def CarriesOn (counters : State → List Counter) (left right : State → Nat) (s t : State) : Prop :=
  (∀ c ∈ counters t, c.toNat < Config.counterMax) →
    (∀ c ∈ counters s, c.toNat < Config.counterMax) ∧ left t + right s = left s + right t

section
variable {counters : State → List Counter} {left right : State → Nat}

theorem CarriesOn.last {s t u : State} (k : CarriesOn counters left right t u) (h : CarriesOn counters left right s t) :
    CarriesOn counters left right s u := fun hu => by
  obtain ⟨ht, ku⟩ := k hu
  obtain ⟨hs, kt⟩ := h ht
  exact ⟨hs, by omega⟩

theorem CarriesOn.of_eq {s t : State} (hc : counters t = counters s) (hl : left t = left s) (hr : right t = right s) :
    CarriesOn counters left right s t := fun ht => ⟨hc ▸ ht, by rw [hl, hr]⟩

/-- A balance is carried on by every step that clears no counter where every such row's meaning carries it on, and neither the
waiting commands nor the timebase enter it. -/
theorem carried_of_meaning {meets : State → Prop} (pending : ∀ s q, meets s → meets { s with pending := q })
    (row : ∀ c s, meets s → clearsCounters c = false → CarriesOn counters left right s (meaning c s))
    (hc : ∀ s : State, ∀ n q, counters { s with timebase := n, pending := q } = counters s)
    (hl : ∀ s : State, ∀ n q, left { s with timebase := n, pending := q } = left s)
    (hr : ∀ s : State, ∀ n q, right { s with timebase := n, pending := q } = right s) :
    Carried meets counters left right := by
  intro s t meet clear h fresh
  have still : ∀ n q, CarriesOn counters left right s { s with timebase := n, pending := q } := fun n q =>
    .of_eq (hc s n q) (hl s n q) (hr s n q)
  suffices carries : CarriesOn counters left right s t from (carries fresh).2
  unfold step at h
  split at h
  · next c rest front =>
    have run := row c _ (pending s rest meet) (clear c (by rw [front]; rfl))
    exact exec_keeps h (still s.timebase rest) (run.last (still s.timebase rest))
  · cases h
    unfold idle
    generalize (if s.held = true then [] else dueEvents s) = due
    dsimp only
    split
    · exact still _ _
    · exact still _ _

end

/-- Short of saturation a counter has been counted up exactly. -/
theorem toNat_bump_lt {c : Counter} (h : (bump c).toNat < Config.counterMax) :
    c.toNat < Config.counterMax ∧ (bump c).toNat = c.toNat + 1 := by
  rw [toNat_bump_eq] at h ⊢
  simp only [Config.counterMax] at *
  omega

theorem toNat_bumpBy_lt {c : Counter} {k : Nat} (h : (bumpBy c k).toNat < Config.counterMax) :
    c.toNat < Config.counterMax ∧ (bumpBy c k).toNat = c.toNat + k := by
  rw [toNat_bumpBy_eq] at h ⊢
  simp only [Config.counterMax] at *
  omega

/-! ### Zone entries (R83) -/

/-- R83's balance of entries is carried on. -/
def ZonesCarry : State → State → Prop :=
  CarriesOn
    (fun s => [s.zones.counters.appended, s.zones.counters.passed, s.zones.counters.skipped, s.zones.counters.flushed])
    (fun s => s.zones.counters.appended.toNat) zonesAccounted

theorem ZonesCarry.last {s t u : State} (k : ZonesCarry t u) (h : ZonesCarry s t) : ZonesCarry s u := CarriesOn.last k h

/-- What leaves the four counters and the number of entries carries the balance on. -/
theorem ZonesCarry.alike {s t : State} (ha : t.zones.counters.appended = s.zones.counters.appended := by rfl)
    (hp : t.zones.counters.passed = s.zones.counters.passed := by rfl)
    (hs : t.zones.counters.skipped = s.zones.counters.skipped := by rfl)
    (hf : t.zones.counters.flushed = s.zones.counters.flushed := by rfl)
    (he : t.zones.entries.length = s.zones.entries.length := by rfl) : ZonesCarry s t :=
  .of_eq (by rw [ha, hp, hs, hf]) (by rw [ha]) (by rw [zonesAccounted, zonesAccounted, hp, hs, hf, he])

theorem ZonesCarry.of_changes {parts : List Part} {s t : State} (h : OnlyChanges parts s t)
    (hp : .zones ∉ parts := by decide) : ZonesCarry s t := by
  have same : t.zones = s.zones := h.1 .zones hp
  exact .alike (by rw [same]) (by rw [same]) (by rw [same]) (by rw [same]) (by rw [same])

theorem retire_carry (s : State) (dir : Sense) (scan : Word16) (d : Int) :
    ZonesCarry s (s.onZones fun z => z.retire dir scan d) := by
  have cut := congrArg List.length (List.takeWhile_append_dropWhile (p := fun e : ZoneEntry => e.passed dir d) (l := s.zones.entries))
  have split := length_eq_countP_add_not (fun e : ZoneEntry => e.entered.isSome)
    (s.zones.entries.takeWhile fun e => e.passed dir d)
  simp only [List.length_append] at cut
  intro fresh
  simp only [State.onZones_zones, ZoneQueue.retire, zonesAccounted, List.mem_cons, List.not_mem_nil, or_false, forall_eq_or_imp, forall_eq] at fresh ⊢
  obtain ⟨appended, passed, skipped, flushed⟩ := fresh
  obtain ⟨passed, ep⟩ := toNat_bumpBy_lt passed
  obtain ⟨skipped, es⟩ := toNat_bumpBy_lt skipped
  refine ⟨⟨appended, passed, skipped, flushed⟩, ?_⟩
  rw [ep, es]
  omega

theorem exhaust_carry (s : State) : ZonesCarry s (exhaust s) := by
  unfold exhaust
  split
  · exact (ZonesCarry.of_changes (offerStatus_changes _ _)).last .alike
  · exact .alike

theorem resolve_carry (s : State) (d : Int) : ZonesCarry s (s.onZones fun z => z.resolve d) := by
  have counters : (s.zones.resolve d).counters.appended = s.zones.counters.appended ∧
      (s.zones.resolve d).counters.passed = s.zones.counters.passed ∧
      (s.zones.resolve d).counters.skipped = s.zones.counters.skipped ∧
      (s.zones.resolve d).counters.flushed = s.zones.counters.flushed := by
    unfold ZoneQueue.resolve
    split
    · split <;> exact ⟨rfl, rfl, rfl, rfl⟩
    · exact ⟨rfl, rfl, rfl, rfl⟩
  obtain ⟨ha, hp, hs, hf⟩ := counters
  exact .alike ha hp hs hf (ZoneQueue.resolve_length _ d)

theorem scanResolution_carry (s : State) : ZonesCarry s (scanResolution s) := by
  have resolved : ∀ {t : State} d f k, ZonesCarry s t →
      ZonesCarry s (((t.onZones fun z => z.resolve d).onPaths f).onZones fun z => z.handOn k) := fun {t} d f k ht =>
    (ZonesCarry.alike (s := (t.onZones fun z => z.resolve d).onPaths f)).last
      ((ZonesCarry.of_changes (State.onPaths_changes _ _)).last ((resolve_carry _ _).last ht))
  have retired : ∀ f dir scan d, ZonesCarry s ((s.onPaths f).onZones fun z => z.retire dir scan d) := fun f dir scan d =>
    (retire_carry _ dir scan d).last (.of_changes (s.onPaths_changes f))
  unfold scanResolution
  split
  · unfold resolveScan
    dsimp only
    split
    · exact resolved _ _ _ ((exhaust_carry _).last (retired _ _ _ _))
    · exact resolved _ _ _ (retired _ _ _ _)
  · exact .alike

theorem runOpeningReport_carry (s : State) : ZonesCarry s (runOpeningReport s) := by
  unfold runOpeningReport
  split
  · refine (ZonesCarry.of_changes (settleSpanClosed_changes _)).last (.alike (he := ?_))
    simp [ZoneQueue.countRun]
  · exact .alike

theorem scanFinishedReport_carry (s : State) : ZonesCarry s (scanFinishedReport s) := by
  unfold scanFinishedReport
  split
  · exact (ZonesCarry.of_changes (settleSpanClosed_changes _)).last
      ((ZonesCarry.of_changes (offerZones_changes _ _)).last .alike)
  · exact .alike

theorem zoneAppend_carry (args : List Byte) (s : State) : ZonesCarry s (zoneAppend args s).1 := by
  unfold zoneAppend
  dsimp only
  split
  · exact .alike
  · split
    · exact .alike
    · intro fresh
      simp only [State.onZones_zones, ZoneQueue.append, numberEntries, zonesAccounted, List.length_append, List.length_map,
        List.length_zipIdx, List.mem_cons, List.not_mem_nil, or_false, forall_eq_or_imp, forall_eq] at fresh ⊢
      obtain ⟨appended, passed, skipped, flushed⟩ := fresh
      obtain ⟨appended, ea⟩ := toNat_bumpBy_lt appended
      exact ⟨⟨appended, passed, skipped, flushed⟩, by rw [ea]; omega⟩

theorem zoneFlush_carry (s : State) : ZonesCarry s (zoneFlush s).1 := by
  have flushed : ZonesCarry s (s.onZones ZoneQueue.flush) := by
    intro fresh
    simp only [State.onZones_zones, ZoneQueue.flush, zonesAccounted, List.length_nil, List.mem_cons, List.not_mem_nil, or_false,
      forall_eq_or_imp, forall_eq] at fresh ⊢
    obtain ⟨appended, passed, skipped, flushed⟩ := fresh
    obtain ⟨flushed, ef⟩ := toNat_bumpBy_lt flushed
    exact ⟨⟨appended, passed, skipped, flushed⟩, by rw [ef]; omega⟩
  unfold zoneFlush
  dsimp only
  split
  · exact .alike
  · split
    · exact flushed
    · split
      · exact (exhaust_carry _).last ((ZonesCarry.of_changes (offerZones_changes _ _)).last flushed)
      · exact (exhaust_carry _).last ((ZonesCarry.alike (s := s.onZones ZoneQueue.flush)).last flushed)

theorem startRun_carry (s : State) : ZonesCarry s (startRun s).1 := by
  unfold startRun
  split
  · exact .alike
  · exact (ZonesCarry.of_changes (offerStatus_changes _ _)).last .alike

/-- A relation that the bookkeeping of a command cannot break, and its body keeps, holds over the whole row. -/
theorem command_relates {R : State → State → Prop} (last : ∀ {s t u}, R t u → R s t → R s u)
    (quiet : ∀ {s t}, Quiet s t → R s t) {c : Instr} {row : CommandRow} (hc : commandRow c = some row)
    (body : ∀ u, R u (row.body u).1) (s : State) : R s (meaning c s) := by
  rw [meaning_command hc]
  have ends := row.ends s
  generalize row.run s = t at ends
  cases ends with
  | turned away => exact quiet away.quiet
  | refused opened r => exact last (quiet (queueReply_quiet _ _ _ r)) (quiet opened.quiet)
  | done opened _ => exact last (quiet (queueReply_quiet _ _ _ _)) (last (body _) (quiet opened.quiet))

theorem meaning_zonesCarry (c : Instr) (s : State) (clear : clearsCounters c = false) : ZonesCarry s (meaning c s) := by
  have quiet : ∀ {t u : State}, Quiet t u → ZonesCarry t u := fun k => .of_changes k.changes
  by_cases hc : Part.zones ∈ footprint c
  · cases c <;> simp only [footprint, List.mem_cons, List.not_mem_nil, reduceCtorEq, or_false, or_self] at hc <;>
      simp only [clearsCounters, reduceCtorEq] at clear
    case frameFailed r rx => exact .of_changes (frameFailed_changes s r rx) (by cases r <;> simp [receiverPart])
    case scanResolution => exact scanResolution_carry s
    case runOpeningReport => exact runOpeningReport_carry s
    case scanFinishedReport => exact scanFinishedReport_carry s
    case zoneAppend a tag args =>
      exact command_relates (R := ZonesCarry) (c := .zoneAppend a tag args) ZonesCarry.last quiet rfl (zoneAppend_carry args) s
    case zoneFlush a tag args =>
      exact command_relates (R := ZonesCarry) (c := .zoneFlush a tag args) ZonesCarry.last quiet rfl zoneFlush_carry s
    case start a tag args => exact command_relates (R := ZonesCarry) (c := .start a tag args) ZonesCarry.last quiet rfl startRun_carry s
  · exact .of_changes (meaning_changes c s) hc

/-! ### Bins (R160) -/

/-- R160's balance of bins is carried on. -/
def BinsCarry : State → State → Prop :=
  CarriesOn (fun s => [s.span.counters.binsOpened, s.span.counters.binsClosed])
    (fun s => s.span.counters.binsOpened.toNat) binsAccounted

theorem BinsCarry.last {s t u : State} (k : BinsCarry t u) (h : BinsCarry s t) : BinsCarry s u := CarriesOn.last k h

theorem BinsCarry.alike {s t : State} (ho : t.span.counters.binsOpened = s.span.counters.binsOpened := by rfl)
    (hc : t.span.counters.binsClosed = s.span.counters.binsClosed := by rfl)
    (hb : t.span.bins.length = s.span.bins.length := by rfl) : BinsCarry s t :=
  .of_eq (by rw [ho, hc]) (by rw [ho]) (by rw [binsAccounted, binsAccounted, hc, hb])

theorem BinsCarry.of_changes {parts : List Part} {s t : State} (h : OnlyChanges parts s t)
    (hp : .span ∉ parts := by decide) : BinsCarry s t := by
  have same : t.span = s.span := h.1 .span hp
  exact .alike (by rw [same]) (by rw [same]) (by rw [same])

theorem closeBin_binsOpened (s : State) (id : Nat) (cause : CloseCause) :
    (closeBin s id cause).span.counters.binsOpened = s.span.counters.binsOpened := by
  unfold closeBin
  split
  · simp
  · rfl

theorem closeBin_carry (s : State) (id : Nat) (cause : CloseCause) : BinsCarry s (closeBin s id cause) := by
  have fewer : (closeBin s id cause).span.bins.length ≤ s.span.bins.length := by
    rw [closeBin_bins]
    exact List.length_eraseP_le
  intro fresh
  simp only [closeBin_binsOpened, closeBin_binsClosed, binsAccounted, List.mem_cons, List.not_mem_nil, or_false, forall_eq_or_imp,
    forall_eq] at fresh ⊢
  obtain ⟨opened, closed⟩ := fresh
  obtain ⟨closed, ec⟩ := toNat_bumpBy_lt closed
  exact ⟨⟨opened, closed⟩, by rw [ec]; omega⟩

theorem openBin_carry (s : State) (h : ScanHeader) (full : Bool) (id : Nat) (hit : Option Merged) :
    BinsCarry s (openBin s h full id hit) := by
  intro fresh
  simp only [openBin, State.onSpan_span, binsAccounted, List.length_append, List.length_singleton, List.mem_cons, List.not_mem_nil,
    or_false, forall_eq_or_imp, forall_eq] at fresh ⊢
  obtain ⟨opened, closed⟩ := fresh
  obtain ⟨opened, eo⟩ := toNat_bump_lt opened
  exact ⟨⟨opened, closed⟩, by rw [eo]; omega⟩

theorem reportRun_span (s : State) (r : Run) (cause : CloseCause) :
    (reportRun s r cause).span = { s.span with counters := s.span.counters.countClose cause } := by
  simp [reportRun, countSpan]

theorem SpanCounters.countClose_bins (c : SpanCounters) (cause : CloseCause) :
    (c.countClose cause).binsOpened = c.binsOpened ∧ (c.countClose cause).binsClosed = c.binsClosed := by
  unfold SpanCounters.countClose
  split <;> exact ⟨rfl, rfl⟩

/-- What leaves the bins, as a closing run does, carries the balance of bins on. -/
theorem reportRun_binsCarry (s : State) (r : Run) (cause : CloseCause) (f : SpanUnit → SpanUnit)
    (hf : ∀ u, (f u).bins = u.bins ∧ (f u).counters = u.counters) : BinsCarry s ((reportRun s r cause).onSpan f) := by
  have bins := s.span.counters.countClose_bins cause
  refine .alike ?_ ?_ ?_ <;> rw [State.onSpan_span, reportRun_span]
  · rw [(hf _).2]
    exact bins.1
  · rw [(hf _).2]
    exact bins.2
  · rw [(hf _).1]

theorem SpanMove.binsCarry {s t : State} (h : SpanMove s t) : BinsCarry s t := by
  cases h with
  | closeBin id cause => exact closeBin_carry s id cause
  | closeRun id cause kind =>
    unfold Machine.closeRun
    split
    · exact reportRun_binsCarry s _ cause _ fun _ => ⟨rfl, rfl⟩
    · exact .alike
  | closeCount cause =>
    unfold Machine.closeCount
    split
    · exact reportRun_binsCarry s _ cause _ fun _ => ⟨rfl, rfl⟩
    · exact .alike
  | recordEnd e => exact .alike (by simp [Machine.recordEnd, countSpan]) (by simp [Machine.recordEnd, countSpan]) (by simp [Machine.recordEnd, countSpan])
  | openBin h full id hit => exact openBin_carry s h full id hit
  | extendBin h full id hit => exact .alike (hb := by simp [Machine.extendBin])
  | changeRun id kind f keyed => exact .alike
  | openRun z id kind d v free => exact .alike
  | openCount z d v free => exact .alike
  | changeCount r k running => exact .alike

theorem SpanMoves.binsCarry {s t : State} (h : SpanMoves s t) : BinsCarry s t := by
  induction h with
  | refl => exact .alike
  | tail _ m ih => exact m.binsCarry.last ih

/-! ### Runs (R160) -/

/-- At most one open run for a track and kind. -/
def RunsKeyed (s : State) : Prop := s.span.runs.Pairwise fun a b => ¬(a.track = b.track ∧ a.kind = b.kind)

/-- R160's balance of runs is carried on where the runs are keyed, and they stay so. -/
def RunsCarry (s t : State) : Prop :=
  RunsKeyed s → RunsKeyed t ∧
    CarriesOn (fun s => [s.span.counters.runsOpened, s.span.counters.runsReleased, s.span.counters.runsByEvent])
      (fun s => s.span.counters.runsOpened.toNat) runsAccounted s t

theorem RunsCarry.last {s t u : State} (k : RunsCarry t u) (h : RunsCarry s t) : RunsCarry s u := fun keyed => by
  obtain ⟨kt, ht⟩ := h keyed
  obtain ⟨ku, hu⟩ := k kt
  exact ⟨ku, hu.last ht⟩

theorem RunsCarry.alike {s t : State} (ho : t.span.counters.runsOpened = s.span.counters.runsOpened := by rfl)
    (hr : t.span.counters.runsReleased = s.span.counters.runsReleased := by rfl)
    (he : t.span.counters.runsByEvent = s.span.counters.runsByEvent := by rfl)
    (hs : t.span.runs = s.span.runs := by rfl)
    (hc : t.span.count.toList.length = s.span.count.toList.length := by rfl) : RunsCarry s t := fun keyed =>
  ⟨by rwa [RunsKeyed, hs],
    .of_eq (by rw [ho, hr, he]) (by rw [ho]) (by rw [runsAccounted, runsAccounted, hr, he, hs, hc])⟩

theorem RunsCarry.of_changes {parts : List Part} {s t : State} (h : OnlyChanges parts s t)
    (hp : .span ∉ parts := by decide) : RunsCarry s t := by
  have same : t.span = s.span := h.1 .span hp
  exact .alike (by rw [same]) (by rw [same]) (by rw [same]) (by rw [same]) (by rw [same])

/-- With keyed runs, the runs but for those of one key are one fewer, if there is one of it. -/
theorem filter_key_length {runs : List Run} (keyed : runs.Pairwise fun a b => ¬(a.track = b.track ∧ a.kind = b.kind))
    {id : Nat} {kind : RunKind} {r : Run} (h : runs.find? (fun r => r.track == id && r.kind == kind) = some r) :
    (runs.filter fun k => !(k.track == id && k.kind == kind)).length + 1 = runs.length := by
  have split := length_eq_countP_add_not (fun r : Run => r.track == id && r.kind == kind) runs
  have some_ : 0 < runs.countP fun r => r.track == id && r.kind == kind :=
    List.countP_pos_iff.2 ⟨r, List.mem_of_find?_eq_some h, List.find?_some (p := fun r : Run => r.track == id && r.kind == kind) h⟩
  have one : (runs.countP fun r => r.track == id && r.kind == kind) ≤ 1 := by
    rw [List.countP_eq_length_filter]
    have apart := keyed.filter fun r => r.track == id && r.kind == kind
    have same : ∀ k ∈ runs.filter fun r => r.track == id && r.kind == kind, k.track = id ∧ k.kind = kind :=
      fun k hk => by simpa using (List.mem_filter.1 hk).2
    cases hl : runs.filter fun r => r.track == id && r.kind == kind with
    | nil => simp
    | cons a l =>
      cases l with
      | nil => simp
      | cons b l =>
        rw [hl] at apart same
        obtain ⟨at_, ak⟩ := same a (by simp)
        obtain ⟨bt, bk⟩ := same b (by simp)
        exact absurd ⟨at_.trans bt.symm, ak.trans bk.symm⟩ ((List.pairwise_cons.1 apart).1 b (by simp))
  rw [← List.countP_eq_length_filter]
  omega

/-- A closing is counted once, as released or as by event (R156). -/
theorem SpanCounters.countClose_runs (c : SpanCounters) (cause : CloseCause) :
    (c.countClose cause).runsOpened = c.runsOpened ∧
      ((c.countClose cause).runsReleased.toNat < Config.counterMax →
        (c.countClose cause).runsByEvent.toNat < Config.counterMax →
        c.runsReleased.toNat < Config.counterMax ∧ c.runsByEvent.toNat < Config.counterMax ∧
          (c.countClose cause).runsReleased.toNat + (c.countClose cause).runsByEvent.toNat =
            c.runsReleased.toNat + c.runsByEvent.toNat + 1) := by
  unfold SpanCounters.countClose
  split
  · refine ⟨rfl, fun hr he => ?_⟩
    obtain ⟨lt, e⟩ := toNat_bump_lt hr
    exact ⟨lt, he, by dsimp only; omega⟩
  · refine ⟨rfl, fun hr he => ?_⟩
    obtain ⟨lt, e⟩ := toNat_bump_lt he
    exact ⟨hr, lt, by dsimp only; omega⟩

theorem reportRun_runsCarry (s : State) (r : Run) (cause : CloseCause) {f : SpanUnit → SpanUnit}
    (counters : ∀ u, (f u).counters = u.counters) (keyed : RunsKeyed s → RunsKeyed ((reportRun s r cause).onSpan f))
    (one : RunsKeyed s → ((reportRun s r cause).onSpan f).span.runs.length +
      ((reportRun s r cause).onSpan f).span.count.toList.length + 1 = s.span.runs.length + s.span.count.toList.length) :
    RunsCarry s ((reportRun s r cause).onSpan f) := fun hs => by
  refine ⟨keyed hs, fun fresh => ?_⟩
  have fewer := one hs
  obtain ⟨opened, closing⟩ := s.span.counters.countClose_runs cause
  have after : ((reportRun s r cause).onSpan f).span.counters = s.span.counters.countClose cause := by
    rw [State.onSpan_span, counters, reportRun_span]
  simp only [runsAccounted, after, opened, List.mem_cons, List.not_mem_nil, or_false, forall_eq_or_imp, forall_eq] at fresh ⊢
  obtain ⟨ho, hr, he⟩ := fresh
  obtain ⟨hr, he, e⟩ := closing hr he
  exact ⟨⟨ho, hr, he⟩, by omega⟩

theorem closeRun_runsCarry (s : State) (id : Nat) (cause : CloseCause) (kind : RunKind) :
    RunsCarry s (closeRun s id cause kind) := by
  unfold closeRun
  split
  · next r found =>
    refine reportRun_runsCarry s r cause (fun _ => rfl) (fun keyed => ?_) fun keyed => ?_
    · rw [RunsKeyed, State.onSpan_span, reportRun_span]
      exact keyed.filter _
    · rw [State.onSpan_span, reportRun_span]
      have one := filter_key_length keyed found
      dsimp only
      omega
  · exact .alike

theorem closeCount_runsCarry (s : State) (cause : CloseCause) : RunsCarry s (closeCount s cause) := by
  unfold closeCount
  split
  · next r running =>
    refine reportRun_runsCarry s r cause (fun _ => rfl) (fun keyed => ?_) fun keyed => ?_
    · rw [RunsKeyed, State.onSpan_span, reportRun_span]
      exact keyed
    · rw [State.onSpan_span, reportRun_span, running]
      rfl
  · exact .alike

theorem changeRun_runsCarry (s : State) (id : Nat) (kind : RunKind) {f : Run → Run}
    (keyed : ∀ r, (f r).track = r.track ∧ (f r).kind = r.kind) : RunsCarry s (changeRun s id kind f) := fun hs => by
  have key : ∀ r : Run, (if (r.track == id && r.kind == kind) = true then f r else r).track = r.track ∧
      (if (r.track == id && r.kind == kind) = true then f r else r).kind = r.kind := fun r => by
    split
    · exact keyed r
    · exact ⟨rfl, rfl⟩
  refine ⟨List.pairwise_map.2 (hs.imp fun {a b} apart => ?_), .of_eq rfl rfl (by simp [runsAccounted, changeRun])⟩
  rw [(key a).1, (key b).1, (key a).2, (key b).2]
  exact apart

/-- Opening a run counts it (R151, R154). -/
theorem opening_carry {s t : State} (ho : t.span.counters.runsOpened = bump s.span.counters.runsOpened)
    (hr : t.span.counters.runsReleased = s.span.counters.runsReleased)
    (he : t.span.counters.runsByEvent = s.span.counters.runsByEvent)
    (one : t.span.runs.length + t.span.count.toList.length = s.span.runs.length + s.span.count.toList.length + 1) :
    CarriesOn (fun s => [s.span.counters.runsOpened, s.span.counters.runsReleased, s.span.counters.runsByEvent])
      (fun s => s.span.counters.runsOpened.toNat) runsAccounted s t := by
  intro fresh
  simp only [ho, hr, he, runsAccounted, List.mem_cons, List.not_mem_nil, or_false, forall_eq_or_imp, forall_eq] at fresh ⊢
  obtain ⟨ho, hr, he⟩ := fresh
  obtain ⟨ho, e⟩ := toNat_bump_lt ho
  exact ⟨⟨ho, hr, he⟩, by omega⟩

theorem SpanMove.runsCarry {s t : State} (h : SpanMove s t) : RunsCarry s t := by
  cases h with
  | closeBin id cause =>
    unfold Machine.closeBin
    split
    · exact .alike (by simp) (by simp) (by simp) (by simp) (by simp)
    · exact .alike
  | closeRun id cause kind => exact closeRun_runsCarry s id cause kind
  | closeCount cause => exact closeCount_runsCarry s cause
  | recordEnd e =>
    exact .alike (by simp [Machine.recordEnd, countSpan]) (by simp [Machine.recordEnd, countSpan]) (by simp [Machine.recordEnd, countSpan])
      (by simp [Machine.recordEnd, countSpan]) (by simp [Machine.recordEnd, countSpan])
  | openBin h full id hit => exact .alike
  | extendBin h full id hit => exact .alike
  | changeRun id kind f keyed => exact changeRun_runsCarry s id kind keyed
  | openRun z id kind d v free =>
    refine fun hs => ⟨List.pairwise_append.2 ⟨hs, List.pairwise_singleton _ _, fun a ha b hb => ?_⟩,
      opening_carry rfl rfl rfl ?_⟩
    · obtain rfl := List.mem_singleton.1 hb
      have apart := List.find?_eq_none.1 free a ha
      simpa [newRun] using apart
    · simp [reportOpening, countSpan]
      omega
  | openCount z d v free =>
    refine fun hs => ⟨hs, opening_carry rfl rfl rfl ?_⟩
    simp [reportOpening, countSpan, free]
  | changeCount r k running => exact .alike (hc := by simp [running])

theorem SpanMoves.runsCarry {s t : State} (h : SpanMoves s t) : RunsCarry s t := by
  induction h with
  | refl => exact .alike
  | tail _ m ih => exact m.runsCarry.last ih

/-! ### The span unit's rows -/

/-- What the moves of the span unit carry on, and what leaves the span unit's bins, runs and their counters carries on, every row
carries on that clears no counter. -/
theorem meaning_spanRelates {R : State → State → Prop} (last : ∀ {s t u}, R t u → R s t → R s u)
    (moves : ∀ {s t}, SpanMoves s t → R s t) (apart : ∀ {s t : State}, t.span = s.span → R s t)
    (register : ∀ {s t : State}, (∃ sense epoch finished, t.span = { s.span with
      prevSense := sense, prevEpoch := epoch, counters := { s.span.counters with finished := finished } }) → R s t)
    (c : Instr) (s : State) (clear : clearsCounters c = false) : R s (meaning c s) := by
  by_cases hc : Part.span ∈ footprint c
  · cases c <;> simp only [footprint, List.mem_cons, List.not_mem_nil, reduceCtorEq, or_false, or_self] at hc <;>
      simp only [clearsCounters, reduceCtorEq] at clear
    case frameFailed r rx => exact apart ((frameFailed_changes s r rx).1 .span (by cases r <;> simp [receiverPart]))
    case trackListArrival =>
      show R s (trackListArrival s)
      unfold trackListArrival
      split
      · exact last (register (t := finishSpan _ _) ⟨_, _, _, rfl⟩) (last (moves (spanEntries_moves _ _)) (apart rfl))
      · exact apart rfl
    case stopListArrival =>
      show R s (stopListArrival s)
      unfold stopListArrival
      split
      · rw [spanStop_eq]
        exact last (apart ((settleSpanClosed_changes _).1 .span (by decide))) (last (apart (State.onPaths_span (spanClosing _ _) _))
          (last (moves (spanClosing_moves _ _)) (apart rfl)))
      · exact apart rfl
    case start a tag args =>
      refine command_relates (R := R) (c := .start a tag args) last (fun k => apart (k.changes.1 .span (by decide))) rfl (fun u => ?_) s
      show R u (startRun u).1
      unfold startRun
      split
      · exact apart rfl
      · exact last (apart (offerStatus_span _ _)) (register ⟨_, _, u.span.counters.finished, rfl⟩)
  · exact apart ((meaning_changes c s).1 .span hc)

theorem meaning_binsCarry (c : Instr) (s : State) (clear : clearsCounters c = false) : BinsCarry s (meaning c s) :=
  meaning_spanRelates (R := BinsCarry) BinsCarry.last SpanMoves.binsCarry
    (fun {s t} h => .alike (s := s) (t := t) (by rw [h]) (by rw [h]) (by rw [h]))
    (fun {s t} ⟨_, _, _, h⟩ => .alike (s := s) (t := t) (by rw [h]) (by rw [h]) (by rw [h])) c s clear

theorem meaning_runsCarry (c : Instr) (s : State) (clear : clearsCounters c = false) : RunsCarry s (meaning c s) :=
  meaning_spanRelates (R := RunsCarry) RunsCarry.last SpanMoves.runsCarry
    (fun {s t} h => .alike (s := s) (t := t) (by rw [h]) (by rw [h]) (by rw [h]) (by rw [h]) (by rw [h]))
    (fun {s t} ⟨_, _, _, h⟩ => .alike (s := s) (t := t) (by rw [h]) (by rw [h]) (by rw [h]) (by rw [h]) (by rw [h]))
    c s clear

end Sys2Proof.Machine
end

section
/-! SUPPORT. The balances of the output unit and of the trunk receiver (R170, R184): what carries them on, and from where they
start anew. -/

namespace Sys2Proof.Machine

set_option Elab.async false

/-! ### The output unit (R170) -/

/-- R170's balances of records and of raw frames are carried on. -/
def OutCarry (s t : State) : Prop :=
  CarriesOn (fun s => [s.out.counters.admitted, s.out.counters.sent]) (fun s => s.out.counters.admitted.toNat)
      recordsAccounted s t ∧
    CarriesOn (fun s => [s.out.counters.rawAdmitted, s.out.counters.rawSent]) (fun s => s.out.counters.rawAdmitted.toNat)
      rawAccounted s t

theorem OutCarry.last {s t u : State} (k : OutCarry t u) (h : OutCarry s t) : OutCarry s u := ⟨k.1.last h.1, k.2.last h.2⟩

theorem recordsCarry_join {s t : State} (n : Nat) (ha : t.out.counters.admitted = bumpBy s.out.counters.admitted n)
    (hs : t.out.counters.sent = s.out.counters.sent) (hr : t.out.records.length = s.out.records.length + n) :
    CarriesOn (fun s => [s.out.counters.admitted, s.out.counters.sent]) (fun s => s.out.counters.admitted.toNat)
      recordsAccounted s t := by
  intro fresh
  simp only [ha, hs, hr, recordsAccounted, List.mem_cons, List.not_mem_nil, or_false, forall_eq_or_imp, forall_eq] at fresh ⊢
  obtain ⟨admitted, sent⟩ := fresh
  obtain ⟨admitted, e⟩ := toNat_bumpBy_lt admitted
  exact ⟨⟨admitted, sent⟩, by omega⟩

theorem rawCarry_join {s t : State} (n : Nat) (ha : t.out.counters.rawAdmitted = bumpBy s.out.counters.rawAdmitted n)
    (hs : t.out.counters.rawSent = s.out.counters.rawSent) (hr : t.out.raw.length = s.out.raw.length + n) :
    CarriesOn (fun s => [s.out.counters.rawAdmitted, s.out.counters.rawSent]) (fun s => s.out.counters.rawAdmitted.toNat)
      rawAccounted s t := by
  intro fresh
  simp only [ha, hs, hr, rawAccounted, List.mem_cons, List.not_mem_nil, or_false, forall_eq_or_imp, forall_eq] at fresh ⊢
  obtain ⟨admitted, sent⟩ := fresh
  obtain ⟨admitted, e⟩ := toNat_bumpBy_lt admitted
  exact ⟨⟨admitted, sent⟩, by omega⟩

theorem recordsCarry_alike {s t : State} (hc : t.out.counters.admitted = s.out.counters.admitted)
    (hs : t.out.counters.sent = s.out.counters.sent) (hr : t.out.records = s.out.records) :
    CarriesOn (fun s => [s.out.counters.admitted, s.out.counters.sent]) (fun s => s.out.counters.admitted.toNat)
      recordsAccounted s t :=
  .of_eq (by rw [hc, hs]) (by rw [hc]) (by rw [recordsAccounted, recordsAccounted, hs, hr])

theorem rawCarry_alike {s t : State} (hc : t.out.counters.rawAdmitted = s.out.counters.rawAdmitted)
    (hs : t.out.counters.rawSent = s.out.counters.rawSent) (hr : t.out.raw = s.out.raw) :
    CarriesOn (fun s => [s.out.counters.rawAdmitted, s.out.counters.rawSent]) (fun s => s.out.counters.rawAdmitted.toNat)
      rawAccounted s t :=
  .of_eq (by rw [hc, hs]) (by rw [hc]) (by rw [rawAccounted, rawAccounted, hs, hr])

theorem OutGrows.carry {s t : State} (h : OutGrows s t) : OutCarry s t := by
  obtain ⟨fs, hf, ha⟩ := h.records
  obtain ⟨ws, hw, hr⟩ := h.raw
  exact ⟨recordsCarry_join fs.length ha h.sent (by rw [hf, List.length_append]),
    rawCarry_join ws.length hr h.rawSent (by rw [hw, List.length_append])⟩

/-- A frame that has been sent leaves its queue (R161, R165). -/
theorem endFrame_carry {s : State} (head : s.out.HeadHeld) : OutCarry s (s.onOut Output.endFrame) := by
  cases tx : s.out.tx with
  | free =>
    have same : s.out.endFrame = s.out := by simp [Output.endFrame, tx]
    exact OutGrows.carry (.of_eq same)
  | record =>
    have fewer := List.length_tail (l := s.out.records)
    have some_ := List.length_pos_iff.2 (head.1 tx)
    refine ⟨fun fresh => ?_, rawCarry_alike (by simp [Output.endFrame, tx]) (by simp [Output.endFrame, tx])
      (by simp [Output.endFrame, tx])⟩
    simp only [State.onOut_out, Output.endFrame, tx, Output.kick_counters, Output.kick_records, recordsAccounted, List.mem_cons,
      List.not_mem_nil, or_false, forall_eq_or_imp, forall_eq] at fresh ⊢
    obtain ⟨admitted, sent⟩ := fresh
    obtain ⟨sent, e⟩ := toNat_bump_lt sent
    exact ⟨⟨admitted, sent⟩, by omega⟩
  | raw =>
    have fewer := List.length_tail (l := s.out.raw)
    have some_ := List.length_pos_iff.2 (head.2 tx)
    refine ⟨recordsCarry_alike (by simp [Output.endFrame, tx]) (by simp [Output.endFrame, tx])
      (by simp [Output.endFrame, tx]), fun fresh => ?_⟩
    simp only [State.onOut_out, Output.endFrame, tx, Output.kick_counters, Output.kick_raw, rawAccounted, List.mem_cons,
      List.not_mem_nil, or_false, forall_eq_or_imp, forall_eq] at fresh ⊢
    obtain ⟨admitted, sent⟩ := fresh
    obtain ⟨sent, e⟩ := toNat_bump_lt sent
    exact ⟨⟨admitted, sent⟩, by omega⟩

/-- What leaves the queues and the four counters. -/
theorem OutCarry.alike {s t : State} (ha : t.out.counters.admitted = s.out.counters.admitted := by rfl)
    (hs : t.out.counters.sent = s.out.counters.sent := by rfl) (hr : t.out.records = s.out.records := by rfl)
    (wa : t.out.counters.rawAdmitted = s.out.counters.rawAdmitted := by rfl)
    (ws : t.out.counters.rawSent = s.out.counters.rawSent := by rfl) (wr : t.out.raw = s.out.raw := by rfl) :
    OutCarry s t := ⟨recordsCarry_alike ha hs hr, rawCarry_alike wa ws wr⟩

theorem Opened.outCarry {s u : State} (h : Opened s u) : OutCarry s u := by
  obtain ⟨r, rfl, -⟩ := h
  exact .alike

theorem TurnedAway.outCarry {s t : State} (h : TurnedAway s t) : OutCarry s t := OutGrows.carry (.of_eq h.out)

theorem queueReply_outCarry (s : State) (code tag : Byte) (r : Reply) : OutCarry s (queueReply s code tag r) := by
  rw [queueReply_eq]
  exact ⟨recordsCarry_join 1 rfl rfl (by simp [replied, withRecord]), rawCarry_alike rfl rfl rfl⟩

theorem up_carry (s : State) : OutCarry s (s.onOut Output.up) := by
  by_cases h : s.out.linkUp = true
  · exact OutGrows.carry (.of_eq (by simp [Output.up, h]))
  · exact .alike (by simp [Output.up, h]) (by simp [Output.up, h]) (by simp [Output.up, h]) (by simp [Output.up, h])
      (by simp [Output.up, h]) (by simp [Output.up, h])

theorem down_carry (s : State) : OutCarry s (s.onOut Output.down) := by
  by_cases h : s.out.linkUp = true
  · exact .alike (by simp [Output.down, h]) (by simp [Output.down, h]) (by simp [Output.down, h]) (by simp [Output.down, h])
      (by simp [Output.down, h]) (by simp [Output.down, h])
  · exact OutGrows.carry (.of_eq (by simp [Output.down, h]))

theorem meaning_outCarry (c : Instr) (s : State) (head : s.out.HeadHeld) (clear : clearsCounters c = false) :
    OutCarry s (meaning c s) := by
  cases offers : onlyOffers c with
  | true => exact (meaning_grows offers s).carry
  | false =>
    cases hr : commandRow c with
    | some row =>
      rw [meaning_command hr]
      have ends := row.ends s
      generalize row.run s = t at ends
      cases ends with
      | turned away => exact away.outCarry
      | refused opened r => exact (queueReply_outCarry _ _ _ r).last opened.outCarry
      | done opened _ =>
        exact (queueReply_outCarry _ _ _ _).last ((body_grows hr clear _).carry.last opened.outCarry)
    | none =>
      cases c <;> simp only [onlyOffers, hr, Option.isNone_none, reduceCtorEq] at offers <;>
        simp only [clearsCounters, reduceCtorEq] at clear
      case trunkEndDelimiter => exact endFrame_carry head
      case linkUp =>
        show OutCarry s (s.onOut fun o => if s.held then { o with linkUp := true } else o.up)
        split
        · exact .alike
        · exact up_carry s
      case linkDown =>
        show OutCarry s (s.onOut fun o => if s.held then { o with linkUp := false } else o.down)
        split
        · exact .alike
        · exact down_carry s
      case unknownCommand a code tag args =>
        show OutCarry s (unknownRow a code tag args s)
        rcases unknownRow_cases s a code tag args with same | away | ⟨u, opened, ran⟩
        · rw [same]
          exact .alike
        · exact away.outCarry
        · rw [ran]
          exact (queueReply_outCarry _ _ _ _).last opened.outCarry

/-! ### The trunk receiver (R184) -/

/-- R184's balance of commands is carried on. -/
def CommandsCarry : State → State → Prop :=
  CarriesOn (fun s => [s.cmd.rx.good, s.cmd.counters.taken, s.cmd.counters.dropped, s.cmd.counters.misaddressed])
    (fun s => s.cmd.rx.good.toNat) commandsAccounted

theorem CommandsCarry.alike {s t : State} (good : t.cmd.rx.good = s.cmd.rx.good := by rfl)
    (counters : t.cmd.counters = s.cmd.counters := by rfl) : CommandsCarry s t :=
  .of_eq (by rw [good, counters]) (by rw [good]) (by rw [commandsAccounted, commandsAccounted, counters])

/-- A good frame counted once as taken, dropped or misaddressed carries the balance on. -/
theorem CommandsCarry.one {s t : State} (good : t.cmd.rx.good = bump s.cmd.rx.good)
    (counts : t.cmd.counters = { s.cmd.counters with misaddressed := bump s.cmd.counters.misaddressed } ∨
      t.cmd.counters = { s.cmd.counters with dropped := bump s.cmd.counters.dropped } ∨
      ∃ refused, t.cmd.counters = { s.cmd.counters with taken := bump s.cmd.counters.taken, refused := refused }) :
    CommandsCarry s t := by
  intro fresh
  rcases counts with k | k | ⟨r, k⟩ <;>
    simp only [good, k, commandsAccounted, List.mem_cons, List.not_mem_nil, or_false, forall_eq_or_imp, forall_eq] at fresh ⊢ <;>
    obtain ⟨hg, ht, hd, hm⟩ := fresh <;> obtain ⟨hg, eg⟩ := toNat_bump_lt hg
  · obtain ⟨hm, em⟩ := toNat_bump_lt hm
    exact ⟨⟨hg, ht, hd, hm⟩, by omega⟩
  · obtain ⟨hd, ed⟩ := toNat_bump_lt hd
    exact ⟨⟨hg, ht, hd, hm⟩, by omega⟩
  · obtain ⟨ht, et⟩ := toNat_bump_lt ht
    exact ⟨⟨hg, ht, hd, hm⟩, by omega⟩

theorem TrunkAlike.carry {s t : State} (h : TrunkAlike s t) : CommandsCarry s t := .alike (by rw [h.rx]) h.counters

theorem TurnedAway.commandsCarry {s t : State} (h : TurnedAway s t) : CommandsCarry s t := by
  obtain ⟨r, k, rfl, ⟨good, rfl⟩ | ⟨good, rfl | rfl⟩⟩ := h
  · exact .alike good rfl
  · exact .one good (.inl rfl)
  · exact .one good (.inr (.inl rfl))

/-- A command that has been taken and answered. -/
theorem Opened.answered_carry {s u v : State} (h : Opened s u) (body : TrunkAlike u v) (code tag : Byte) (r : Reply) :
    CommandsCarry s (queueReply v code tag r) := by
  obtain ⟨rx, rfl, good, -⟩ := h
  rw [queueReply_eq]
  refine .one ?_ (.inr (.inr ⟨if r.result = .done ∨ r.result = .clamped then s.cmd.counters.refused
    else bump s.cmd.counters.refused, ?_⟩))
  · show v.cmd.rx.good = _
    rw [body.rx]
    exact good
  · dsimp only
    rw [body.counters]

theorem frameFailed_commandsCarry (s : State) (r : Receiver) (rx : Reception) : CommandsCarry s (frameFailed s r rx) := by
  have closed : ∀ w x, CommandsCarry s ((s.withOpenFrame r w).countRx r (.failed x)) := fun w x => by
    cases r with
    | roof p => exact .alike
    | motion => exact .alike
    | trunk => exact .alike (RxCounters.count_failed_good _ x) rfl
  unfold frameFailed
  dsimp only
  split
  · cases r <;> exact .alike
  · rw [checkClosed_byStart]
    exact closed _ _
  · split
    · exact .alike
    · exact closed _ _

theorem meaning_commandsCarry (c : Instr) (s : State) (clear : clearsCounters c = false) : CommandsCarry s (meaning c s) := by
  cases reach : reachesTrunk c with
  | false => exact (meaning_trunkAlike reach s).carry
  | true =>
    cases hr : commandRow c with
    | some row =>
      rw [meaning_command hr]
      have ends := row.ends s
      generalize row.run s = t at ends
      cases ends with
      | turned away => exact away.commandsCarry
      | refused opened r => exact opened.answered_carry (.of_eq rfl) _ _ r
      | done opened _ => exact opened.answered_carry (body_trunkAlike hr clear _) _ _ _
    | none =>
      cases c <;> simp only [reachesTrunk, hr, Option.isSome_none, reduceCtorEq] at reach <;>
        simp only [clearsCounters, reduceCtorEq] at clear
      case frameFailed r rx => exact frameFailed_commandsCarry s r rx
      case unknownCommand a code tag args =>
        show CommandsCarry s (unknownRow a code tag args s)
        rcases unknownRow_cases s a code tag args with same | away | ⟨u, opened, ran⟩
        · rw [same]
          exact .alike
        · exact away.commandsCarry
        · rw [ran]
          exact opened.answered_carry (.of_eq rfl) _ _ _

/-! ### The balances carried on by every step -/

theorem zones_carried : Carried (fun _ => True)
    (fun s => [s.zones.counters.appended, s.zones.counters.passed, s.zones.counters.skipped, s.zones.counters.flushed])
    (fun s => s.zones.counters.appended.toNat) zonesAccounted :=
  carried_of_meaning (fun _ _ h => h) (fun c s _ clear => meaning_zonesCarry c s clear) (fun _ _ _ => rfl) (fun _ _ _ => rfl)
    fun _ _ _ => rfl

theorem bins_carried : Carried (fun _ => True) (fun s => [s.span.counters.binsOpened, s.span.counters.binsClosed])
    (fun s => s.span.counters.binsOpened.toNat) binsAccounted :=
  carried_of_meaning (fun _ _ h => h) (fun c s _ clear => meaning_binsCarry c s clear) (fun _ _ _ => rfl) (fun _ _ _ => rfl)
    fun _ _ _ => rfl

theorem runs_carried : Carried RunsLegal
    (fun s => [s.span.counters.runsOpened, s.span.counters.runsReleased, s.span.counters.runsByEvent])
    (fun s => s.span.counters.runsOpened.toNat) runsAccounted :=
  carried_of_meaning (fun _ _ ⟨keys, kinds, count⟩ => ⟨keys, kinds, count⟩)
    (fun c s legal clear => (meaning_runsCarry c s clear legal.keys).2) (fun _ _ _ => rfl) (fun _ _ _ => rfl) fun _ _ _ => rfl

theorem Capacity.pending {s : State} (h : Capacity s) (q : List Instr) : Capacity { s with pending := q } := by
  obtain ⟨frames, record, rawHead, records, closed, raw, contexts, zones, slots, wires⟩ := h
  exact ⟨frames, record, rawHead, records, closed, raw, contexts, zones, slots, wires⟩

theorem records_carried : Carried Capacity (fun s => [s.out.counters.admitted, s.out.counters.sent])
    (fun s => s.out.counters.admitted.toNat) recordsAccounted :=
  carried_of_meaning (fun _ q h => h.pending q)
    (fun c s fits clear => (meaning_outCarry c s ⟨fits.record, fits.rawHead⟩ clear).1) (fun _ _ _ => rfl) (fun _ _ _ => rfl)
    fun _ _ _ => rfl

theorem raw_carried : Carried Capacity (fun s => [s.out.counters.rawAdmitted, s.out.counters.rawSent])
    (fun s => s.out.counters.rawAdmitted.toNat) rawAccounted :=
  carried_of_meaning (fun _ q h => h.pending q)
    (fun c s fits clear => (meaning_outCarry c s ⟨fits.record, fits.rawHead⟩ clear).2) (fun _ _ _ => rfl) (fun _ _ _ => rfl)
    fun _ _ _ => rfl

theorem commands_carried : Carried (fun _ => True)
    (fun s => [s.cmd.rx.good, s.cmd.counters.taken, s.cmd.counters.dropped, s.cmd.counters.misaddressed])
    (fun s => s.cmd.rx.good.toNat) commandsAccounted :=
  carried_of_meaning (fun _ _ h => h) (fun c s _ clear => meaning_commandsCarry c s clear) (fun _ _ _ => rfl) (fun _ _ _ => rfl)
    fun _ _ _ => rfl

/-! ### A command that is taken -/

/-- The state in which a command that is taken runs: its frame is counted good and the reply reservation is open (R163, R173). -/
def takenState (s : State) : State :=
  { s with
    cmd := { s.cmd with rx := { s.cmd.rx with good := bump s.cmd.rx.good } }
    out := { s.out with reserved := true } }

/-- A command that is taken, of the right length and allowed, is carried out by its body and answered (R173, R174). -/
theorem exec_taken {c : Instr} {row : CommandRow} (hc : commandRow c = some row) {s : State}
    (h : Taken s row.address row.args) (length : row.lengthOk = true) (allowed : row.allowed s.cmd.op = true) :
    exec c s = .next (queueReply (row.body (takenState s)).1 row.code row.tag (row.body (takenState s)).2) := by
  have run : row.run s = queueReply (row.body (takenState s)).1 row.code row.tag (row.body (takenState s)).2 := by
    rw [CommandRow.run, command, takeCommand_taken h]
    have open_ : row.allowed (takenState s).cmd.op = true := allowed
    show runCommand (takenState s) row.code row.tag row.lengthOk row.allowed row.body = _
    simp only [runCommand, length, open_, Bool.not_true, Bool.false_eq_true, if_false]
  rw [exec_eq, h.live, Bool.and_false, if_neg Bool.false_ne_true, meaning_command hc, run]

theorem exec_reset_taken {s : State} {address : Byte} (h : Taken s address []) (tag : Byte) :
    exec (.reset address tag []) s = .next (resetCommand (takenState s) tag) := by
  rw [exec_eq, h.live, Bool.and_false, if_neg Bool.false_ne_true]
  show Host.Outcome.next (resetRow address tag [] s) = _
  rw [resetRow, takeCommand_taken h]
  rfl

/-! ### The balances counted anew (R170, R176, R182, R183, R184) -/

/-- The output unit's balances are counted from nothing. -/
structure Output.Anew (o : Output) : Prop where
  sent : o.counters.sent = 0
  rawSent : o.counters.rawSent = 0
  records : o.counters.admitted.toNat = o.records.length
  raw : o.counters.rawAdmitted.toNat = o.raw.length
  room : o.occupancy ≤ 64
  rawRoom : o.raw.length ≤ 16

theorem Output.anew_empty (up : Bool) : Output.Anew { linkUp := up } :=
  ⟨rfl, rfl, rfl, rfl, Nat.zero_le _, Nat.zero_le _⟩

theorem Output.Grows.anew {o u : Output} (k : o.Grows u) (h : o.Anew) : u.Anew := by
  obtain ⟨fs, hf, ha⟩ := k.records
  obtain ⟨ws, hw, hr⟩ := k.raw
  have room := k.room
  have rawRoom := k.rawRoom
  obtain ⟨sent, rawSent, records, raw, full, rawFull⟩ := h
  have size : u.records.length ≤ u.occupancy := Nat.le_add_right _ _
  have sum := congrArg List.length hf
  have rawSum := congrArg List.length hw
  rw [List.length_append] at sum rawSum
  refine ⟨k.sent.trans sent, k.rawSent.trans rawSent, ?_, ?_, by omega, by omega⟩
  · rw [ha, toNat_bumpBy_eq]
    omega
  · rw [hr, toNat_bumpBy_eq]
    omega

/-- A reply that is the first record. -/
theorem Output.anew_replied (up : Bool) (f : Frame) : (replied { linkUp := up } f).Anew :=
  ⟨rfl, rfl, rfl, rfl, by simp [Output.occupancy, replied, withRecord], Nat.zero_le _⟩

theorem Output.Anew.accounted {s : State} (h : s.out.Anew) :
    s.out.counters.admitted.toNat = recordsAccounted s ∧ s.out.counters.rawAdmitted.toNat = rawAccounted s := by
  constructor
  · rw [recordsAccounted, h.sent, h.records]
    exact (Nat.zero_add _).symm
  · rw [rawAccounted, h.rawSent, h.raw]
    exact (Nat.zero_add _).symm

theorem clearCounters_anew {s t : State} {address tag : Byte} (h : Taken s address []) (op : s.cmd.op = .standby)
    (run : exec (.clearCounters address tag []) s = .next t) :
    t.out.counters.admitted.toNat + s.out.records.length = recordsAccounted t ∧
      t.out.counters.rawAdmitted.toNat + s.out.raw.length = rawAccounted t ∧
      t.cmd.rx.good.toNat + 1 = commandsAccounted t := by
  rw [exec_taken (c := .clearCounters address tag []) rfl h rfl (standbyOnly_iff.2 op)] at run
  cases run
  rw [queueReply_eq]
  refine ⟨?_, show 0 + s.out.raw.length = 0 + s.out.raw.length from rfl, rfl⟩
  show (bump 0).toNat + s.out.records.length = (0 : Counter).toNat + (s.out.records ++ [_]).length
  rw [List.length_append, show (bump 0).toNat = 1 from rfl, show (0 : Counter).toNat = 0 from rfl, List.length_singleton]
  omega

theorem reset_anew {s t : State} {address tag : Byte} (h : Taken s address [])
    (run : exec (.reset address tag []) s = .next t) :
    t.out.counters.admitted.toNat = recordsAccounted t ∧ t.out.counters.rawAdmitted.toNat = rawAccounted t ∧
      t.cmd.rx.good.toNat + 1 = commandsAccounted t := by
  rw [exec_reset_taken h] at run
  cases run
  have answered : ∀ r, (queueReply (softReset (takenState s)) 0x4F tag r).out.Anew := fun r => by
    rw [queueReply_eq]
    exact Output.anew_replied _ _
  have counted : ∀ u r, u.cmd = (queueReply (softReset (takenState s)) 0x4F tag r).cmd →
      u.cmd.rx.good.toNat + 1 = commandsAccounted u := fun u r hu => by
    rw [commandsAccounted, hu]
    rfl
  unfold resetCommand
  dsimp only
  split
  · obtain ⟨records, raw⟩ := (answered _).accounted
    exact ⟨records, raw, counted _ _ rfl⟩
  · obtain ⟨records, raw⟩ := ((offerStatus_grows _ _).anew (answered _)).accounted
    exact ⟨records, raw, counted _ _ (offerStatus_cmd _ _)⟩

theorem hardReset_anew {s t : State} {c : Instr} (hc : c = .hardReset ∨ ∃ a m x y, c = .hardResetEnd a m x y)
    (run : exec c s = .next t) :
    t.out.counters.admitted.toNat = recordsAccounted t ∧ t.out.counters.rawAdmitted.toNat = rawAccounted t ∧
      t.cmd.rx.good.toNat = commandsAccounted t := by
  rcases hc with rfl | ⟨a, m, x, y, rfl⟩
  · cases run
    exact ⟨rfl, rfl, rfl⟩
  · cases run
    obtain ⟨records, raw⟩ :=
      ((offerStatus_grows (hardValues s a m x y) .operatingState).anew (Output.anew_empty _)).accounted
    refine ⟨records, raw, ?_⟩
    rw [commandsAccounted, offerStatus_cmd]
    rfl

end Sys2Proof.Machine
end

section
/-! SUPPORT. What is under way between START and the end of the drain: what keeps it as DrainLegal says (R47, R63, R67, R78,
R172, R180, R181). -/

namespace Sys2Proof.Machine

set_option Elab.async false

/-! ### What DrainLegal reads -/

/-- What of a state DrainLegal reads. -/
def drainView (s : State) :=
  ((s.cmd.op, s.cmd.drain, s.cmd.lateMark, s.cmd.tally), s.paths, (s.zones.inFlight, s.zones.lastScan, s.zones.closing),
    s.tracks.live, s.asm.contexts, s.seq.onWay)

theorem DrainLegal.congr {s t : State} (h : DrainLegal s) (hv : drainView t = drainView s := by rfl) : DrainLegal t := by
  simp only [drainView, Prod.mk.injEq] at hv
  obtain ⟨⟨op, drain, late, tally⟩, paths, ⟨flight, last, closing⟩, live, contexts, onWay⟩ := hv
  constructor
  · rw [drain, op]; exact h.progress
  · rw [tally, paths]; exact h.tally
  · rw [flight, paths]; exact h.flight
  · rw [last, paths]; exact h.last
  · rw [closing, paths]; exact h.closing
  · rw [drain, paths]; exact h.token
  · rw [drain, late, tally, paths, live]; exact h.after
  · rw [op, tally, paths, live, contexts, onWay]; exact h.standby

theorem DrainLegal.quiet {s t : State} (k : Quiet s t) (h : DrainLegal s) : DrainLegal t := by
  obtain ⟨o, f, r, k, rfl⟩ := k
  exact h.congr

theorem drainView_of_changes {parts : List Part} {s t : State} (k : OnlyChanges parts s t)
    (hs : .seq ∉ parts := by decide) (ha : .asm ∉ parts := by decide) (hp : .paths ∉ parts := by decide)
    (hz : .zones ∉ parts := by decide) (ht : .tracks ∉ parts := by decide) (hc : .cmd ∉ parts := by decide) :
    drainView t = drainView s := by
  have seq : t.seq = s.seq := k.1 .seq hs
  have asm : t.asm = s.asm := k.1 .asm ha
  have paths : t.paths = s.paths := k.1 .paths hp
  have zones : t.zones = s.zones := k.1 .zones hz
  have tracks : t.tracks = s.tracks := k.1 .tracks ht
  have cmd : t.cmd = s.cmd := k.1 .cmd hc
  simp only [drainView, seq, asm, paths, zones, tracks, cmd]

theorem DrainLegal.of_changes {parts : List Part} {s t : State} (k : OnlyChanges parts s t) (h : DrainLegal s)
    (hs : .seq ∉ parts := by decide) (ha : .asm ∉ parts := by decide) (hp : .paths ∉ parts := by decide)
    (hz : .zones ∉ parts := by decide) (ht : .tracks ∉ parts := by decide) (hc : .cmd ∉ parts := by decide) :
    DrainLegal t :=
  h.congr (drainView_of_changes k hs ha hp hz ht hc)

theorem drainView_onPaths {s t : State} (h : drainView t = drainView s) (f : Paths → Paths) :
    drainView (t.onPaths f) = drainView (s.onPaths f) := by
  simp only [drainView, Prod.mk.injEq] at h
  obtain ⟨⟨op, drain, late, tally⟩, paths, ⟨flight, last, closing⟩, live, contexts, onWay⟩ := h
  simp only [drainView, State.onPaths, op, drain, late, tally, paths, flight, last, closing, live, contexts, onWay]

/-! ### What follows where -/

/-- Outside DRAINING the drain waits for nothing. -/
theorem DrainLegal.none_of_op {s : State} (h : DrainLegal s) (op : s.cmd.op ≠ .draining) : s.cmd.drain = .none :=
  h.progress.2 op

theorem DrainLegal.op_of_drain {s : State} (h : DrainLegal s) (drain : s.cmd.drain ≠ .none) : s.cmd.op = .draining :=
  by_contra fun op => drain (h.progress.2 op)

/-- A close request, stop list or span closed report is under way only while the drain waits for the span unit. -/
theorem DrainLegal.waiting {s : State} (h : DrainLegal s)
    (token : 0 < s.paths.drainRequest.toNat + s.paths.toSpan.countP SpanArrival.isStop + s.paths.spanClosed.toNat) :
    s.cmd.drain = .waitingSpan :=
  by_contra fun drain => by
    rw [h.token, if_neg drain] at token
    exact Nat.lt_irrefl 0 token

/-- Where the drain does not wait for the span unit, nothing that closes it is under way. -/
theorem DrainLegal.idle {s : State} (h : DrainLegal s) (drain : s.cmd.drain ≠ .waitingSpan) :
    s.paths.drainRequest = false ∧ s.paths.toSpan.countP SpanArrival.isStop = 0 ∧ s.paths.spanClosed = false := by
  have token := h.token
  rw [if_neg drain] at token
  cases hd : s.paths.drainRequest <;> cases hc : s.paths.spanClosed <;> simp_all

theorem DrainLegal.standby_pipeline {s : State} (h : DrainLegal s) (op : s.cmd.op = .standby) :
    s.paths.toZone = [] ∧ s.paths.toGeo = [] ∧ s.paths.toMerge = [] ∧ s.paths.toTrack = [] := by
  obtain ⟨-, tally, -⟩ := h.standby op
  rw [h.tally] at tally
  simpa [Nat.add_eq_zero_iff, and_assoc] using tally

theorem waitingPipeline_token {s : State} (h : DrainLegal s) (drain : s.cmd.drain = .waitingPipeline) :
    s.paths.drainRequest = false ∧ s.paths.toSpan.countP SpanArrival.isStop = 0 ∧ s.paths.spanClosed = false :=
  h.idle (by simp [drain])

/-- A list without a stop list has none anywhere. -/
theorem no_stop {arrivals : List SpanArrival} (h : arrivals.countP SpanArrival.isStop = 0) {before rest : List SpanArrival}
    {l : SpanArrival} (split : arrivals = before ++ l :: rest) : l.isStop = false := by
  have none_ := List.countP_eq_zero.1 h l (by simp [split])
  simpa using none_

/-! ### Drain control -/

theorem DrainLegal.testTally {s : State} (h : DrainLegal s) : DrainLegal (testTally s) := by
  rw [testTally_eq]
  split
  · next due =>
    obtain ⟨drain, done⟩ := due
    have op := h.op_of_drain (by simp [drain])
    obtain ⟨-, stops, closed⟩ := waitingPipeline_token h drain
    exact {
      progress := by simp [op]
      tally := h.tally
      flight := h.flight
      last := h.last
      closing := h.closing
      token := by simp [stops, closed]
      after := fun _ _ => ⟨done, nofun, fun k => absurd k (by simp [closed]), fun _ _ _ split stop => by
        rw [no_stop stops split] at stop
        cases stop⟩
      standby := fun k => absurd k (by simp [op]) }
  · exact h

theorem DrainLegal.release {s : State} (h : DrainLegal s) : DrainLegal (release s) := by
  by_cases hg : s.asm.contexts.takeWhile (·.complete) = []
  · rwa [show Machine.release s = s by simp [Machine.release, hg]]
  · have op : s.cmd.op ≠ .standby := fun op => hg (by rw [(h.standby op).1]; rfl)
    have some_ : (s.asm.contexts.takeWhile (·.complete)).length ≠ 0 := by simpa using hg
    rw [release_eq s _ _ rfl rfl hg]
    generalize s.asm.contexts.takeWhile (·.complete) = gone at some_ ⊢
    generalize s.asm.contexts.dropWhile (·.complete) = rest
    simp only [CommandUnit.released, if_neg some_]
    have moved : ∀ drain, (drain = s.cmd.drain ∨ s.cmd.op = .draining ∧ s.cmd.drain = .waitingAssembly ∧
        drain = .waitingPipeline) → DrainLegal { s with
          asm := { s.asm with contexts := rest, released := bumpBy s.asm.released gone.length }
          paths := { s.paths with toZone := s.paths.toZone ++ gone.map ScanContext.toReleased }
          cmd := { s.cmd with
            tally := s.cmd.tally + gone.length
            lateMark := s.cmd.lateMark || decide (s.cmd.drain = .waitingSpan)
            drain := drain } } := fun drain hd => {
      progress := by
        rcases hd with rfl | ⟨draining, -, rfl⟩
        · exact h.progress
        · simp [draining]
      tally := by
        have tally := h.tally
        simp only [List.length_append, List.length_map]
        omega
      flight := h.flight
      last := h.last
      closing := h.closing
      token := by
        rcases hd with rfl | ⟨-, waiting, rfl⟩
        · exact h.token
        · have token := h.token
          rw [if_neg (by simp [waiting])] at token
          simpa using token
      after := fun waiting late => by
        rcases hd with rfl | ⟨-, -, rfl⟩
        · simp only [Bool.or_eq_false_iff, decide_eq_false_iff_not] at late
          exact absurd waiting late.2
        · cases waiting
      standby := fun standby => absurd standby op }
    refine moved _ ?_
    split
    · next k => exact .inr ⟨k.2.1, k.2.2, rfl⟩
    · exact .inl rfl

/-- A span closed report that has waited reaches drain control (R181, log entry 21). -/
theorem DrainLegal.settleSpanClosed {s : State} (h : DrainLegal s) : DrainLegal (settleSpanClosed s) := by
  rcases settleSpanClosed_cases s with same | ⟨report, reports, onWay, closed⟩
  · rwa [same]
  · have drain := h.waiting (by rw [report]; simp)
    have op := h.op_of_drain (by simp [drain])
    have token := h.token
    rw [if_pos drain, report] at token
    have stops : s.paths.toSpan.countP SpanArrival.isStop = 0 := by
      rw [Bool.toNat_true] at token
      omega
    have request : s.paths.drainRequest = false := by
      cases hr : s.paths.drainRequest
      · rfl
      · simp [hr] at token
    generalize Machine.settleSpanClosed s = t at closed
    cases closed with
    | other other => exact absurd drain other
    | assembly _ used =>
      exact {
        progress := by simp [op]
        tally := h.tally
        flight := h.flight
        last := h.last
        closing := h.closing
        token := by simp [stops, request]
        after := nofun
        standby := fun k => absurd k (by simp [op]) }
    | pipeline _ free late busy =>
      exact {
        progress := by simp [op]
        tally := h.tally
        flight := h.flight
        last := h.last
        closing := h.closing
        token := by simp [stops, request]
        after := nofun
        standby := fun k => absurd k (by simp [op]) }
    | again _ free late done =>
      exact {
        progress := by simp [op, drain]
        tally := h.tally
        flight := h.flight
        last := h.last
        closing := h.closing
        token := by simp [stops, drain]
        after := fun _ _ => ⟨done, nofun, nofun, fun _ _ _ split stop => by
          rw [no_stop stops split] at stop
          cases stop⟩
        standby := fun k => absurd k (by simp [op]) }
    | standby _ free early =>
      obtain ⟨tally, live, empty, -⟩ := h.after drain early
      refine DrainLegal.quiet (enterStandby_quiet _) {
        progress := by simp [standbyState]
        tally := h.tally
        flight := h.flight
        last := h.last
        closing := h.closing
        token := by simp [standbyState, stops, request]
        after := nofun
        standby := fun _ => ⟨free, tally, empty report, reports, onWay, live request⟩ }

/-! ### The assembler and the triggers -/

/-- Contexts may change in any way but for one: in STANDBY none begins. -/
theorem DrainLegal.onAsm {s : State} (h : DrainLegal s) {f : Assembler → Assembler}
    (hf : s.asm.contexts = [] → (f s.asm).contexts = []) : DrainLegal (s.onAsm f) where
  progress := h.progress
  tally := h.tally
  flight := h.flight
  last := h.last
  closing := h.closing
  token := h.token
  after := h.after
  standby op := by
    obtain ⟨free, rest⟩ := h.standby op
    exact ⟨hf free, rest⟩

theorem completeWhere_nil {sel : ScanContext → Bool} {a : Assembler} (h : a.contexts = []) :
    (completeWhere sel a).contexts = [] := by simp [completeWhere, h]

theorem acceptProfile_nil {p : Profile} {a : Assembler} (h : a.contexts = []) : (acceptProfile p a).contexts = [] :=
  completeWhere_nil (by simp [h])

theorem prunePort_nil {p : Port} {a : Assembler} (h : a.contexts = []) : (prunePort p a).contexts = [] :=
  completeWhere_nil (by simp [h])

theorem DrainLegal.assemble {s : State} (h : DrainLegal s) (v : Verdict) (prof : Profile) :
    DrainLegal (assemble s v prof) := by
  cases v with
  | accepted => exact (h.onAsm acceptProfile_nil).release
  | _ => exact h

theorem DrainLegal.takeProfile {s : State} (h : DrainLegal s) (p : Port) (f : Frame) : DrainLegal (takeProfile s p f) := by
  have judged : ∀ k l v prof k', DrainLegal ((Machine.assemble ((s.countPort p k).countPort p l) v prof).countPort p k') :=
    fun k l v prof k' =>
      .of_changes (State.countPort_changes _ p k') (DrainLegal.assemble
        (.of_changes (State.countPort_changes _ p l) (h.of_changes (s.countPort_changes p k))) v prof)
  unfold Machine.takeProfile handProfile
  dsimp only
  split
  · exact h.congr
  · exact h.congr
  · split
    · exact .of_changes (forward_changes _ p f) (judged _ _ _ _ _)
    · exact judged _ _ _ _ _

theorem DrainLegal.profileFrame {s : State} (h : DrainLegal s) (p : Port) (address : Byte) (payload : List Byte) :
    DrainLegal (profileFrame s p address payload) := by
  have closed : ∀ f x, DrainLegal ((settle s (.roof p) f).countRx (.roof p) x) := fun f x =>
    h.of_changes (closeRoof_changes s p f x)
  unfold Machine.profileFrame
  dsimp only
  split
  · exact closed _ _
  · exact DrainLegal.takeProfile (.of_changes (goodFrame_changes _ p) (closed _ _)) p _

theorem DrainLegal.silenceTimerExpiry {s : State} (h : DrainLegal s) (p : Port) : DrainLegal (silenceTimerExpiry s p) := by
  unfold Machine.silenceTimerExpiry
  split
  · have told : ∀ f, DrainLegal (offerStatus (s.onPort p f) .portState) := fun f =>
      .of_changes (offerStatus_changes _ _) (h.of_changes (s.onPort_changes p f))
    exact ((told _).onAsm prunePort_nil).release
  · exact h

theorem DrainLegal.deadlineReached {s : State} (h : DrainLegal s) (scan : Word16) : DrainLegal (deadlineReached s scan) := by
  unfold Machine.deadlineReached
  split
  · exact (h.onAsm (f := fun a => completeWhere (fun c => c.scan == scan) { a with deadlines := bump a.deadlines })
      fun free => completeWhere_nil free).release
  · exact h

/-- Outside STANDBY contexts and triggers on their way are free. -/
theorem DrainLegal.busy {s t : State} (h : DrainLegal s) (op : s.cmd.op ≠ .standby) (hc : t.cmd = s.cmd := by rfl)
    (hp : t.paths = s.paths := by rfl) (hz : t.zones = s.zones := by rfl) (ht : t.tracks = s.tracks := by rfl) :
    DrainLegal t := by
  constructor
  · rw [hc]; exact h.progress
  · rw [hc, hp]; exact h.tally
  · rw [hz, hp]; exact h.flight
  · rw [hz, hp]; exact h.last
  · rw [hz, hp]; exact h.closing
  · rw [hc, hp]; exact h.token
  · rw [hc, hp, ht]; exact h.after
  · exact fun standby => absurd (hc ▸ standby) op

theorem DrainLegal.handleTrigger {s : State} (h : DrainLegal s) (op : s.cmd.op ≠ .standby) : DrainLegal (handleTrigger s) := by
  unfold Machine.handleTrigger startScan
  dsimp only
  split
  · exact h.congr
  · split
    · exact h.congr
    · split
      · exact DrainLegal.release (h.busy op)
      · exact h.busy op

theorem DrainLegal.lineChange {s : State} (h : DrainLegal s) (oda odb late : Bool) : DrainLegal (lineChange s oda odb late) := by
  have moved : ∀ f k, DrainLegal (countStep (accumulate (s.onOdo f) k)) := fun f k =>
    .of_changes (countStep_changes _) (.of_changes (accumulate_changes _ k) (h.of_changes (s.onOdo_changes f)))
  have op : ∀ {f k}, raisesTrigger (accumulate (s.onOdo f) k) = true →
      (countStep (accumulate (s.onOdo f) k)).cmd.op ≠ .standby := fun {f k} raises => by
    have running : (accumulate (s.onOdo f) k).cmd.op = .running := by
      simp only [raisesTrigger, Bool.and_eq_true, beq_iff_eq] at raises
      exact raises.1
    rw [show (countStep (accumulate (s.onOdo f) k)).cmd = _ from (countStep_changes _).1 .cmd (by decide), running]
    simp
  unfold Machine.lineChange sendTrigger
  dsimp only
  split
  · exact h
  · split
    · exact h.congr
    · split
      · next raises =>
        split
        · exact (moved _ _).busy (op raises)
        · exact (moved _ _).handleTrigger (op raises)
      · exact moved _ _

theorem DrainLegal.triggerArrival {s : State} (h : DrainLegal s) : DrainLegal (triggerArrival s) := by
  unfold Machine.triggerArrival
  split
  · next some_ =>
    have op : s.cmd.op ≠ .standby := fun op => by
      obtain ⟨-, -, -, -, onWay, -⟩ := h.standby op
      omega
    exact DrainLegal.settleSpanClosed (DrainLegal.handleTrigger (h.busy op) op)
  · exact h

end Sys2Proof.Machine
end

section
/-! SUPPORT. What is under way between START and the end of the drain, kept by the pipeline's rows and by the commands (R47,
R63, R72, R75, R78, R138, R172, R180, R181). -/

namespace Sys2Proof.Machine

set_option Elab.async false

/-! ### The zone queue unit takes a scan -/

theorem drainView_quiet {s t : State} (k : Quiet s t) : drainView t = drainView s := by
  obtain ⟨o, f, r, k, rfl⟩ := k
  rfl

theorem exhaust_drainView (s : State) : drainView (exhaust s) = drainView s := by
  unfold exhaust
  split
  · exact drainView_quiet (s := s.onZones _) (.of_out (offerStatus_changes _ _))
  · rfl

theorem resolve_drainView (s : State) (d : Int) : drainView (s.onZones fun z => z.resolve d) = drainView s := by
  have same : (s.zones.resolve d).inFlight = s.zones.inFlight ∧ (s.zones.resolve d).lastScan = s.zones.lastScan ∧
      (s.zones.resolve d).closing = s.zones.closing := by
    unfold ZoneQueue.resolve
    split
    · split
      · exact ⟨rfl, rfl, rfl⟩
      · exact ⟨rfl, rfl, rfl⟩
    · exact ⟨rfl, rfl, rfl⟩
  obtain ⟨flight, last, closing⟩ := same
  simp only [drainView, State.onZones, flight, last, closing]

/-- A scan is handed on to the geometry unit and counts as in flight (R75). -/
def handScan (s : State) (r : ResolvedScan) : State :=
  (s.onPaths fun p => { p with toGeo := p.toGeo ++ [r] }).onZones fun z => z.handOn r.scan.scan

theorem handScan_drainView {s t : State} (h : drainView t = drainView s) (r : ResolvedScan) :
    drainView (handScan t r) = drainView (handScan s r) := by
  simp only [drainView, Prod.mk.injEq] at h
  obtain ⟨⟨op, drain, late, tally⟩, paths, ⟨flight, last, closing⟩, live, contexts, onWay⟩ := h
  simp only [drainView, handScan, State.onPaths, State.onZones, ZoneQueue.handOn, op, drain, late, tally, paths, flight,
    closing, live, contexts, onWay]

/-- What DrainLegal reads after a resolved scan: retirement and hand-on alone (R73, R75). -/
theorem resolveScan_drainView (s : State) (scan : ReleasedScan) :
    ∃ context, drainView (resolveScan s scan) =
      drainView (handScan (s.onZones fun z => z.retire s.cmd.params.direction scan.scan scan.snapshot.distance)
        ⟨scan, context⟩) := by
  unfold resolveScan
  dsimp only
  refine ⟨_, handScan_drainView ?_ _⟩
  rw [resolve_drainView]
  split
  · exact exhaust_drainView _
  · rfl

theorem DrainLegal.scanResolution {s : State} (h : DrainLegal s) : DrainLegal (scanResolution s) := by
  unfold Machine.scanResolution
  split
  · next scan rest waiting =>
    have op : s.cmd.op ≠ .standby := fun op => by
      rw [(h.standby_pipeline op).1] at waiting
      cases waiting
    obtain ⟨context, view⟩ := resolveScan_drainView (s.onPaths fun p => { p with toZone := rest }) scan
    refine DrainLegal.congr ?_ view
    have pushed : inPipeline { s.paths with toZone := rest, toGeo := s.paths.toGeo ++ [⟨scan, context⟩] } =
        inPipeline s.paths ++ [scan.scan] := by simp [inPipeline]
    have tally := h.tally
    simp only [waiting, List.length_cons] at tally
    exact {
      progress := h.progress
      tally := by
        simp only [handScan, State.onPaths, State.onZones, List.length_append, List.length_cons, List.length_nil]
        omega
      flight := by
        refine Eq.trans ?_ (congrArg List.length pushed.symm)
        rw [List.length_append]
        exact congrArg (· + 1) h.flight
      last := fun k hk => by
        replace hk := (congrArg List.getLast? pushed).symm.trans hk
        rw [List.getLast?_concat, Option.some.injEq] at hk
        exact hk.symm
      closing := fun c hc => by
        refine (congrArg (c.tag ∈ ·) pushed).mpr ?_
        rcases List.mem_append.1 hc with old | new
        · exact List.mem_append_left _ (h.closing c old)
        · obtain ⟨e, -, rfl⟩ := List.mem_map.1 new
          simp [retired]
      token := h.token
      after := h.after
      standby := fun k => absurd k op }
  · exact h

/-! ### The geometry unit, the merge unit and the track table -/

/-- Scans that go on from unit to unit before the track table stay in the pipeline. -/
theorem DrainLegal.flows {s t : State} (h : DrainLegal s) (op : s.cmd.op ≠ .standby) {geo : List ResolvedScan}
    {merge : List RawList} {track : List ClusterList}
    (count : geo.length + merge.length + track.length =
      s.paths.toGeo.length + s.paths.toMerge.length + s.paths.toTrack.length)
    (pipe : inPipeline { s.paths with toGeo := geo, toMerge := merge, toTrack := track } = inPipeline s.paths)
    (view : drainView t = drainView { s with paths := { s.paths with toGeo := geo, toMerge := merge, toTrack := track } } := by
      rfl) : DrainLegal t := by
  have moved : DrainLegal { s with paths := { s.paths with toGeo := geo, toMerge := merge, toTrack := track } } := {
    progress := h.progress
    tally := by
      have tally := h.tally
      dsimp only
      omega
    flight := h.flight.trans (congrArg List.length pipe.symm)
    last := fun k hk => h.last k ((congrArg List.getLast? pipe.symm).trans hk)
    closing := fun c hc => (congrArg (c.tag ∈ ·) pipe).mpr (h.closing c hc)
    token := h.token
    after := h.after
    standby := fun k => absurd k op }
  exact moved.congr view

theorem DrainLegal.geometryScan {s : State} (h : DrainLegal s) : DrainLegal (geometryScan s) := by
  unfold Machine.geometryScan
  split
  · next r rest waiting =>
    have op : s.cmd.op ≠ .standby := fun op => by
      rw [(h.standby_pipeline op).2.1] at waiting
      cases waiting
    exact h.flows op (geo := rest) (merge := s.paths.toMerge ++ [⟨r.header, rawDetections s.geo.cal r.scan⟩])
      (track := s.paths.toTrack) (by simp [waiting]; omega) (by simp [inPipeline, waiting, ResolvedScan.header])
  · exact h

theorem DrainLegal.rawListArrival {s : State} (h : DrainLegal s) : DrainLegal (rawListArrival s) := by
  unfold Machine.rawListArrival
  split
  · next l rest waiting =>
    have op : s.cmd.op ≠ .standby := fun op => by
      rw [(h.standby_pipeline op).2.2.1] at waiting
      cases waiting
    exact h.flows op (geo := s.paths.toGeo) (merge := rest)
      (track := s.paths.toTrack ++ [⟨l.header, (mergeDetections s.geo.cal s.cmd.params
        (s.merge.slot l.header.context.wireType) l.detections).items⟩])
      (by simp [waiting]; omega) (by simp [inPipeline, waiting])
  · exact h

theorem DrainLegal.clusterListArrival {s : State} (h : DrainLegal s) : DrainLegal (clusterListArrival s) := by
  unfold Machine.clusterListArrival
  split
  · next l rest waiting =>
    have tally := h.tally
    simp only [waiting, List.length_cons] at tally
    have op : s.cmd.op ≠ .standby := fun op => by
      rw [(h.standby_pipeline op).2.2.2] at waiting
      cases waiting
    have pipe : inPipeline { s.paths with
        toTrack := rest, toSpan := s.paths.toSpan ++ [.tracks (trackListOf l (trackWork s.tracks s.cmd.params l))] } =
        inPipeline s.paths := by simp [inPipeline, waiting, trackListOf]
    exact DrainLegal.testTally {
      progress := h.progress
      tally := by
        show s.cmd.tally - 1 = s.paths.toZone.length + s.paths.toGeo.length + s.paths.toMerge.length + rest.length
        omega
      flight := h.flight.trans (congrArg List.length pipe.symm)
      last := fun k hk => h.last k ((congrArg List.getLast? pipe.symm).trans hk)
      closing := fun c hc => (congrArg (c.tag ∈ ·) pipe).mpr (h.closing c hc)
      token := by
        refine Eq.trans ?_ h.token
        show s.paths.drainRequest.toNat + (s.paths.toSpan ++ [_]).countP SpanArrival.isStop + _ = _
        simp [List.countP_append, SpanArrival.isStop, State.onTracks, State.onPaths]
      after := fun drain late => by
        obtain ⟨done, -⟩ := h.after drain late
        omega
      standby := fun k => absurd k op }
  · exact h

/-- A stop list that joins a way without one is its last list. -/
theorem stop_last {arrivals before rest : List SpanArrival} {l a : SpanArrival}
    (h : arrivals.countP SpanArrival.isStop = 0) (split : arrivals ++ [l] = before ++ a :: rest)
    (stop : a.isStop = true) : rest = [] := by
  rcases List.append_eq_append_iff.1 split with ⟨front, -, new⟩ | ⟨front, old, new⟩
  · cases front with
    | nil => exact (List.cons.inj new).2.symm
    | cons _ front => simp at new
  · cases front with
    | nil => exact (List.cons.inj new).2
    | cons b front =>
      obtain ⟨rfl, -⟩ := List.cons.inj new
      rw [no_stop h old] at stop
      cases stop

/-- The drain close request ends every live track and sends the stop list, the last list to the span unit (R138). -/
theorem DrainLegal.drainCloseRequest {s : State} (h : DrainLegal s) : DrainLegal (drainCloseRequest s) := by
  unfold Machine.drainCloseRequest
  split
  · next request =>
    have drain := h.waiting (by simp [request])
    have token := h.token
    rw [if_pos drain, request] at token
    have op := h.op_of_drain (by simp [drain])
    have stops : s.paths.toSpan.countP SpanArrival.isStop = 0 := by rw [Bool.toNat_true] at token; omega
    have closed : s.paths.spanClosed = false := by
      cases hc : s.paths.spanClosed
      · rfl
      · simp [hc] at token
    have pipe : ∀ l, inPipeline { s.paths with drainRequest := false, toSpan := s.paths.toSpan ++ [.stop l] } =
        inPipeline s.paths := fun l => by simp [inPipeline]
    exact {
      progress := h.progress
      tally := h.tally
      flight := h.flight.trans (congrArg List.length (pipe _).symm)
      last := fun k hk => h.last k ((congrArg List.getLast? (pipe _).symm).trans hk)
      closing := fun c hc => (congrArg (c.tag ∈ ·) (pipe _)).mpr (h.closing c hc)
      token := by
        show (false : Bool).toNat + (s.paths.toSpan ++ [_]).countP SpanArrival.isStop + s.paths.spanClosed.toNat =
          if s.cmd.drain = .waitingSpan then 1 else 0
        simp [List.countP_append, stops, closed, drain, SpanArrival.isStop]
      after := fun _ late => by
        obtain ⟨done, -⟩ := h.after drain late
        refine ⟨done, fun _ => by simp [State.onTracks, TrackTable.closeDrain, TrackTable.live], fun k => ?_,
          fun before a rest split stop => ?_⟩
        · exact absurd (show s.paths.spanClosed = true from k) (by simp [closed])
        · exact stop_last stops split stop
      standby := fun k => absurd k (by show s.cmd.op ≠ _; simp [op]) }
  · exact h

/-! ### The span unit and its reports -/

/-- A track list leaves its way and its scan joins the reports, behind the runs that it opened (R142, R77, R78). -/
theorem DrainLegal.trackListArrival {s : State} (h : DrainLegal s) : DrainLegal (trackListArrival s) := by
  unfold Machine.trackListArrival
  split
  · next l rest waiting =>
    rw [spanScan_eq]
    have moves := spanEntries_moves (s.onPaths fun p => { p with toSpan := rest }) l
    obtain ⟨opened, paths⟩ := moves.reports
    have changes := moves.changes
    generalize spanEntries (s.onPaths fun p => { p with toSpan := rest }) l = t at paths changes
    have cmd : t.cmd = s.cmd := changes.1 .cmd (by decide)
    have zones : t.zones = s.zones := changes.1 .zones (by decide)
    have tracks : t.tracks = s.tracks := changes.1 .tracks (by decide)
    have op : s.cmd.op ≠ .standby := fun op => by
      obtain ⟨-, -, none_, -⟩ := h.standby op
      rw [waiting] at none_
      cases none_
    have after : (finishSpan t l.header).paths = { s.paths with
        toSpan := rest, reports := s.paths.reports ++ opened.map SpanReport.runOpened ++ [SpanReport.scanFinished l.header.scan] } := by
      show { t.paths with reports := t.paths.reports ++ [SpanReport.scanFinished l.header.scan] } = _
      rw [paths]
      rfl
    have pipe : inPipeline (finishSpan t l.header).paths = inPipeline s.paths := by
      rw [after]
      simp [inPipeline, waiting, List.filterMap_append, List.filterMap_map]
    constructor
    · rw [show (finishSpan t l.header).cmd = s.cmd from cmd]
      exact h.progress
    · rw [show (finishSpan t l.header).cmd = s.cmd from cmd, after]
      exact h.tally
    · rw [show (finishSpan t l.header).zones = s.zones from zones, pipe]
      exact h.flight
    · rw [show (finishSpan t l.header).zones = s.zones from zones, pipe]
      exact h.last
    · rw [show (finishSpan t l.header).zones = s.zones from zones, pipe]
      exact h.closing
    · rw [show (finishSpan t l.header).cmd = s.cmd from cmd, after]
      have token := h.token
      rw [waiting, List.countP_cons_of_neg (by simp [SpanArrival.isStop])] at token
      exact token
    · rw [show (finishSpan t l.header).cmd = s.cmd from cmd, show (finishSpan t l.header).tracks = s.tracks from tracks,
        after]
      intro drain late
      obtain ⟨done, live, closed, stops⟩ := h.after drain late
      refine ⟨done, live, fun k => ?_, fun before a last split stop => stops (.tracks l :: before) a last ?_ stop⟩
      · have none_ := closed k
        rw [waiting] at none_
        cases none_
      · rw [waiting, List.cons_append]
        exact congrArg _ split
    · rw [show (finishSpan t l.header).cmd = s.cmd from cmd]
      exact fun k => absurd k op
  · exact h

/-- A report that leaves its way was sent outside STANDBY. -/
theorem DrainLegal.op_of_report {s : State} (h : DrainLegal s) {r : SpanReport} {rest : List SpanReport}
    (waiting : s.paths.reports = r :: rest) : s.cmd.op ≠ .standby := fun op => by
  obtain ⟨-, -, -, none_, -⟩ := h.standby op
  rw [waiting] at none_
  cases none_

theorem DrainLegal.runOpeningReport {s : State} (h : DrainLegal s) : DrainLegal (runOpeningReport s) := by
  unfold Machine.runOpeningReport
  split
  · next number rest waiting =>
    have op := h.op_of_report waiting
    have pipe : inPipeline { s.paths with reports := rest } = inPipeline s.paths := by simp [inPipeline, waiting]
    exact DrainLegal.settleSpanClosed {
      progress := h.progress
      tally := h.tally
      flight := h.flight.trans (congrArg List.length pipe.symm)
      last := fun k hk => h.last k ((congrArg List.getLast? pipe.symm).trans hk)
      closing := fun c hc => by
        obtain ⟨old, member, rfl⟩ := List.mem_map.1 hc
        exact (congrArg (old.tag ∈ ·) pipe).mpr (h.closing old member)
      token := h.token
      after := h.after
      standby := fun k => absurd k op }
  · exact h

theorem offerZones_quiet (l : List ClosingEntry) (s : State) : Quiet s (l.foldl offerZone s) :=
  .of_out (.foldl (fun s _ => offerB_changes s _) l s)

theorem DrainLegal.scanFinishedReport {s : State} (h : DrainLegal s) : DrainLegal (scanFinishedReport s) := by
  unfold Machine.scanFinishedReport finishScan
  split
  · next scan rest waiting =>
    have op := h.op_of_report waiting
    have pipe : inPipeline s.paths = scan :: inPipeline { s.paths with reports := rest } := by simp [inPipeline, waiting]
    refine DrainLegal.settleSpanClosed (.quiet (offerZones_quiet _ _) {
      progress := h.progress
      tally := h.tally
      flight := ?_
      last := fun k hk => ?_
      closing := fun c hc => ?_
      token := h.token
      after := h.after
      standby := fun k => absurd k op })
    · show s.zones.inFlight - 1 = (inPipeline { s.paths with reports := rest }).length
      rw [h.flight, pipe]
      rfl
    · replace hk : (inPipeline { s.paths with reports := rest }).getLast? = some k := hk
      exact h.last k (by rw [pipe, List.getLast?_cons, hk, Option.getD_some])
    · obtain ⟨old, other⟩ := List.mem_filter.1 hc
      have member := h.closing c old
      rw [pipe] at member
      exact (List.mem_cons.1 member).resolve_left (by simpa using other)
  · exact h

/-- The stop list leaves its way and the span closed report takes its place (R158, R181). -/
theorem DrainLegal.stopListArrival {s : State} (h : DrainLegal s) : DrainLegal (stopListArrival s) := by
  unfold Machine.stopListArrival
  split
  · next l rest waiting =>
    rw [spanStop_eq]
    have drain := h.waiting (by simp [waiting, List.countP_cons, SpanArrival.isStop])
    have op := h.op_of_drain (by simp [drain])
    have token := h.token
    rw [if_pos drain, waiting, List.countP_cons_of_pos rfl] at token
    have stops : rest.countP SpanArrival.isStop = 0 := by omega
    have request : s.paths.drainRequest = false := by
      cases hr : s.paths.drainRequest
      · rfl
      · rw [hr, Bool.toNat_true] at token
        omega
    have pipe : inPipeline { s.paths with toSpan := rest, spanClosed := true } = inPipeline s.paths := by
      simp [inPipeline, waiting]
    refine DrainLegal.settleSpanClosed (DrainLegal.congr (s := { s with
      paths := { s.paths with toSpan := rest, spanClosed := true } }) ?_
      (drainView_onPaths (drainView_of_changes (spanClosing_changes _ _)) _))
    exact {
      progress := h.progress
      tally := h.tally
      flight := h.flight.trans (congrArg List.length pipe.symm)
      last := fun k hk => h.last k ((congrArg List.getLast? pipe.symm).trans hk)
      closing := fun c hc => (congrArg (c.tag ∈ ·) pipe).mpr (h.closing c hc)
      token := by simp [request, stops, drain]
      after := fun _ late => by
        obtain ⟨done, live, -, last⟩ := h.after drain late
        refine ⟨done, fun _ => live request, fun _ => last [] (.stop l) rest waiting rfl, fun _ _ _ split stop => ?_⟩
        rw [no_stop stops split] at stop
        cases stop
      standby := fun k => absurd k (by simp [op]) }
  · exact h

/-! ### The commands -/

/-- START in STANDBY, where nothing is under way (R179). -/
theorem DrainLegal.startRun {s : State} (h : DrainLegal s) (op : s.cmd.op = .standby) : DrainLegal (startRun s).1 := by
  have drain := h.none_of_op (by simp [op])
  unfold Machine.startRun beginRun
  split
  · exact h
  · refine .of_changes (offerStatus_changes _ _) ?_
    exact {
      progress := by simp [State.onCmd, State.onSpan, State.onZones, State.onOdo, State.onMotion, State.onRoof, drain]
      tally := h.tally
      flight := h.flight
      last := h.last
      closing := h.closing
      token := h.token
      after := h.after
      standby := nofun }

/-- A drain begins with the assembler's contexts, and where none is in use with the pipeline (R180, R63). -/
theorem DrainLegal.beginDrain {s : State} (h : DrainLegal s) (op : s.cmd.op = .running) : DrainLegal (beginDrain s) := by
  have token := h.token
  rw [h.none_of_op (by simp [op])] at token
  have begun : ∀ drain, drain ≠ .none → drain ≠ .waitingSpan →
      DrainLegal { s with cmd := { s.cmd with op := .draining, drain := drain } } := fun drain some_ other => {
    progress := by simp [some_]
    tally := h.tally
    flight := h.flight
    last := h.last
    closing := h.closing
    token := by simpa [other] using token
    after := fun k => absurd k other
    standby := nofun }
  have told : DrainLegal (offerStatus (s.onCmd fun c => { c with op := .draining, drain := .waitingAssembly })
      .operatingState) := .of_changes (offerStatus_changes _ _) (begun .waitingAssembly nofun nofun)
  unfold Machine.beginDrain assemblyDrained
  dsimp only
  split
  · split
    · refine DrainLegal.testTally ((begun .waitingPipeline nofun nofun).congr ?_)
      obtain ⟨o, f, r, k, told⟩ := Quiet.of_out (offerStatus_changes
        (s.onCmd fun c => { c with op := .draining, drain := .waitingAssembly }) .operatingState)
      rw [told]
      rfl
    · exact told
  · exact told

theorem DrainLegal.stopRun {s : State} (h : DrainLegal s) : DrainLegal (stopRun s).1 := by
  unfold Machine.stopRun
  split
  · next op => exact h.beginDrain op
  · exact h
  · exact h

/-- The newest scan in flight is the one handed on last (R75). -/
theorem DrainLegal.lastScan_mem {s : State} (h : DrainLegal s) (flying : s.zones.inFlight ≠ 0) :
    s.zones.lastScan ∈ inPipeline s.paths := by
  cases hk : (inPipeline s.paths).getLast? with
  | none =>
    rw [h.flight, List.getLast?_eq_none_iff.1 hk] at flying
    exact absurd rfl flying
  | some k => exact h.last k hk ▸ List.mem_of_getLast? hk

/-- Flushed entries that do not leave at once wait for the scan in flight (R72). -/
theorem DrainLegal.zoneFlush {s : State} (h : DrainLegal s) : DrainLegal (zoneFlush s).1 := by
  unfold Machine.zoneFlush
  dsimp only
  split
  · exact h
  · split
    · exact h.congr
    · split
      · refine .congr (s := (flushedEntries s).foldl offerZone (s.onZones ZoneQueue.flush)) ?_ (exhaust_drainView _)
        exact .quiet (offerZones_quiet _ _) h.congr
      · next flying =>
        refine .congr (s := (s.onZones ZoneQueue.flush).onZones fun z => { z with closing := z.closing ++ flushedEntries s })
          ?_ (exhaust_drainView _)
        exact {
          progress := h.progress
          tally := h.tally
          flight := h.flight
          last := h.last
          closing := fun c hc => by
            rcases List.mem_append.1 hc with old | new
            · exact h.closing c old
            · obtain ⟨e, -, rfl⟩ := List.mem_map.1 new
              exact h.lastScan_mem flying
          token := h.token
          after := h.after
          standby := h.standby }

theorem DrainLegal.setStrobe {s : State} (h : DrainLegal s) (args : List Byte) : DrainLegal (setStrobe args s).1 := by
  unfold Machine.setStrobe
  dsimp only
  split
  · exact h
  · split
    · exact h
    · unfold Sequencer.accept
      split
      · exact h.congr
      · exact h.congr

theorem clearAll_drainView (s : State) : drainView (clearAll s) = drainView s := by
  simp only [drainView, clearAll, State.onRoof, State.onMotion, State.onOdo, State.onSeq, State.onAsm, State.onZones,
    State.onGeo, State.onMerge, State.onTracks, State.onSpan, State.onOut, State.onCmd, TrackTable.live]

theorem DrainLegal.body {c : Instr} {row : CommandRow} (hc : commandRow c = some row) {s : State} (h : DrainLegal s)
    (allowed : row.allowed s.cmd.op = true) : DrainLegal (row.body s).1 := by
  cases c <;> cases hc <;> dsimp only
  case identify => exact h
  case getState => exact h
  case getCounters => exact h
  case clearCounters => exact h.congr (clearAll_drainView s)
  case setHeads args => exact h.of_changes (setHeads_changes args s)
  case loadHeadCal args => exact h.of_changes (loadHeadCal_changes args s)
  case loadWireType args => exact h.of_changes (loadWireType_changes args s)
  case setRunParams args =>
    unfold setRunParams
    split
    · exact h
    · exact h.congr
  case setScanSpacing args => exact h.of_changes (setScanSpacing_changes args s)
  case setStrobe args => exact h.setStrobe args
  case setDistance args => exact h.of_changes (setDistance_changes args s)
  case zoneAppend args =>
    unfold zoneAppend
    dsimp only
    split
    · exact h
    · split
      · exact h
      · exact h.congr
  case zoneFlush => exact h.zoneFlush
  case headPass args => exact h.of_changes (headPass_changes args s)
  case start => exact h.startRun (standbyOnly_iff.1 allowed)
  case stop => exact h.stopRun

/-- A reset leaves nothing under way (R182, R183). -/
theorem drainLegal_reset {s : State} (op : s.cmd.op = .standby := by rfl) (drain : s.cmd.drain = .none := by rfl)
    (tally : s.cmd.tally = 0 := by rfl) (paths : s.paths = {} := by rfl) (flight : s.zones.inFlight = 0 := by rfl)
    (closing : s.zones.closing = [] := by rfl) (contexts : s.asm.contexts = [] := by rfl)
    (onWay : s.seq.onWay = 0 := by rfl) (live : s.tracks.live = [] := by rfl) : DrainLegal s where
  progress := by simp [op, drain]
  tally := by simp [tally, paths]
  flight := by simp [flight, paths, inPipeline]
  last := by simp [paths, inPipeline]
  closing := by simp [closing]
  token := by simp [paths, drain]
  after := by simp [drain]
  standby := fun _ => by simp [contexts, tally, paths, onWay, live]

theorem frameFailed_trunk_quiet (s : State) (rx : Reception) : Quiet s (frameFailed s .trunk rx) := by
  unfold frameFailed
  dsimp only
  split
  · exact ⟨_, _, _, _, rfl⟩
  · exact ⟨_, _, _, _, rfl⟩
  · split
    · exact .rfl
    · exact ⟨_, _, _, _, rfl⟩

theorem meaning_drainLegal (c : Instr) (s : State) (h : DrainLegal s) : DrainLegal (meaning c s) := by
  by_cases rows : ∃ row, commandRow c = some row
  · obtain ⟨row, hc⟩ := rows
    exact command_keeps DrainLegal.quiet hc (fun u allowed hu => hu.body hc allowed) h
  · cases c <;> simp only [commandRow, reduceCtorEq, exists_false, Option.some.injEq, exists_eq', not_true_eq_false] at rows
    case profileFrame p a b => exact h.profileFrame p a b
    case silenceTimerExpiry p => exact h.silenceTimerExpiry p
    case lineChange a b l => exact h.lineChange a b l
    case triggerArrival => exact h.triggerArrival
    case deadlineReached scan => exact h.deadlineReached scan
    case scanResolution => exact h.scanResolution
    case geometryScan => exact h.geometryScan
    case rawListArrival => exact h.rawListArrival
    case clusterListArrival => exact h.clusterListArrival
    case trackListArrival => exact h.trackListArrival
    case runOpeningReport => exact h.runOpeningReport
    case scanFinishedReport => exact h.scanFinishedReport
    case drainCloseRequest => exact h.drainCloseRequest
    case stopListArrival => exact h.stopListArrival
    case slotStart p =>
      show DrainLegal (slotStart s p)
      unfold slotStart
      split
      · exact h.congr
      · exact h
    case exposureEnd p =>
      show DrainLegal (exposureEnd s p)
      unfold exposureEnd
      split
      · exact h.congr
      · exact h
    case busyWindowClose =>
      show DrainLegal (busyWindowClose s)
      unfold busyWindowClose
      split
      · exact h.congr
      · exact h
    case headReplyFrame p a b => exact h.of_changes (headReplyFrame_changes s p a b)
    case motionFrame a b => exact h.of_changes (motionFrame_changes s a b)
    case frameFailed r rx =>
      cases r with
      | trunk => exact .quiet (frameFailed_trunk_quiet s rx) h
      | motion => exact h.of_changes (frameFailed_changes s .motion rx)
      | roof p => exact h.of_changes (parts := [.roof]) (frameFailed_changes s (.roof p) rx)
    case holdAgeExpiry => exact h.of_changes (holdAgeExpiry_changes s)
    case downlinkEndDelimiter p => exact h.of_changes (s.onPort_changes p RoofPort.downlinkEnd)
    case trunkEndDelimiter => exact h.of_changes (s.onOut_changes Output.endFrame)
    case linkUp => exact h.of_changes (s.onOut_changes _)
    case linkDown => exact h.of_changes (s.onOut_changes _)
    case unknownCommand a code tag args => exact .quiet (unknownRow_quiet s a code tag args) h
    case reset a tag args => exact reset_keeps DrainLegal.quiet (fun _ => drainLegal_reset) h
    case hardReset => exact drainLegal_reset
    case hardResetEnd a m x y => exact .quiet (hardResetEnd_quiet s a m x y) drainLegal_reset

theorem drainLegal_kept : Kept DrainLegal :=
  kept_of_exec (fun _ _ h => h.congr) (fun _ _ h => h.congr) meaning_drainLegal

end Sys2Proof.Machine
end

section
/-! SUPPORT. Triggers and scans: what keeps the counters of R28, R47 and R65 in balance (Law 6). -/

namespace Sys2Proof.Machine

set_option Elab.async false

/-! ### What the balance reads -/

/-- The balance of the triggers, short of saturation, where `owed` triggers are counted and not yet handled (R28, R47, R65). -/
structure TriggersOwed (owed : Nat) (s : State) : Prop where
  triggers : s.odo.counters.triggers.toNat < Config.counterMax →
    s.odo.counters.triggers.toNat = s.seq.counters.started.toNat + s.seq.counters.overrunBusy.toNat +
      s.seq.counters.overrunContext.toNat + s.seq.onWay + owed
  scans : s.seq.counters.started.toNat < Config.counterMax →
    s.seq.counters.started.toNat = s.asm.released.toNat + s.asm.contexts.length

theorem triggersOwed_none {s : State} : TriggersOwed 0 s ↔ TriggerBalance s :=
  ⟨fun h => ⟨h.triggers, h.scans⟩, fun h => ⟨h.1, h.2⟩⟩

/-- What of a state the balance reads. -/
def triggerView (s : State) :=
  (s.odo.counters.triggers, (s.seq.counters, s.seq.onWay), s.asm.released, s.asm.contexts.length)

theorem TriggersOwed.congr {n : Nat} {s t : State} (h : TriggersOwed n s) (hv : triggerView t = triggerView s := by rfl) :
    TriggersOwed n t := by
  simp only [triggerView, Prod.mk.injEq] at hv
  obtain ⟨triggers, ⟨counters, onWay⟩, released, contexts⟩ := hv
  constructor
  · rw [triggers, counters, onWay]
    exact h.triggers
  · rw [counters, released, contexts]
    exact h.scans

theorem TriggersOwed.of_changes {n : Nat} {parts : List Part} {s t : State} (k : OnlyChanges parts s t)
    (h : TriggersOwed n s) (ho : .odo ∉ parts := by decide) (hs : .seq ∉ parts := by decide)
    (ha : .asm ∉ parts := by decide) : TriggersOwed n t := by
  have odo : t.odo = s.odo := k.1 .odo ho
  have seq : t.seq = s.seq := k.1 .seq hs
  have asm : t.asm = s.asm := k.1 .asm ha
  exact h.congr (by simp only [triggerView, odo, seq, asm])

theorem TriggersOwed.quiet {n : Nat} {s t : State} (k : Quiet s t) (h : TriggersOwed n s) : TriggersOwed n t :=
  h.of_changes k.changes

/-! ### The units -/

/-- The assembler may do with its contexts what it will, as long as it keeps their number. -/
theorem TriggersOwed.onAsm {n : Nat} {s : State} (h : TriggersOwed n s) {f : Assembler → Assembler}
    (released : (f s.asm).released = s.asm.released) (length : (f s.asm).contexts.length = s.asm.contexts.length) :
    TriggersOwed n (s.onAsm f) :=
  h.congr (by simp only [triggerView, State.onAsm, released, length])

theorem TriggersOwed.release {n : Nat} {s : State} (h : TriggersOwed n s) : TriggersOwed n (release s) := by
  by_cases hg : s.asm.contexts.takeWhile (·.complete) = []
  · rwa [show Machine.release s = s by simp [Machine.release, hg]]
  · rw [release_eq s _ _ rfl rfl hg]
    have parted : (s.asm.contexts.takeWhile (·.complete)).length + (s.asm.contexts.dropWhile (·.complete)).length =
        s.asm.contexts.length := by rw [← List.length_append, List.takeWhile_append_dropWhile]
    refine ⟨h.triggers, fun room => ?_⟩
    have scans := h.scans room
    replace room : s.seq.counters.started.toNat < Config.counterMax := room
    simp only [toNat_bumpBy_eq, Config.counterMax] at room ⊢
    omega

theorem TriggersOwed.assemble {n : Nat} {s : State} (h : TriggersOwed n s) (v : Verdict) (prof : Profile) :
    TriggersOwed n (assemble s v prof) := by
  cases v with
  | accepted => exact (h.onAsm rfl (acceptProfile_length prof s.asm)).release
  | _ => exact h

theorem TriggersOwed.takeProfile {n : Nat} {s : State} (h : TriggersOwed n s) (p : Port) (f : Frame) :
    TriggersOwed n (takeProfile s p f) := by
  have judged : ∀ k l v prof k',
      TriggersOwed n ((Machine.assemble ((s.countPort p k).countPort p l) v prof).countPort p k') :=
    fun k l v prof k' =>
      .of_changes (State.countPort_changes _ p k') (TriggersOwed.assemble
        (.of_changes (State.countPort_changes _ p l) (h.of_changes (s.countPort_changes p k))) v prof)
  unfold Machine.takeProfile handProfile
  dsimp only
  split
  · exact h.congr
  · exact h.congr
  · split
    · exact .of_changes (forward_changes _ p f) (judged _ _ _ _ _)
    · exact judged _ _ _ _ _

theorem TriggersOwed.profileFrame {n : Nat} {s : State} (h : TriggersOwed n s) (p : Port) (address : Byte)
    (payload : List Byte) : TriggersOwed n (profileFrame s p address payload) := by
  have closed : ∀ f x, TriggersOwed n ((settle s (.roof p) f).countRx (.roof p) x) := fun f x =>
    h.of_changes (closeRoof_changes s p f x)
  unfold Machine.profileFrame
  dsimp only
  split
  · exact closed _ _
  · exact TriggersOwed.takeProfile (.of_changes (goodFrame_changes _ p) (closed _ _)) p _

theorem TriggersOwed.silenceTimerExpiry {n : Nat} {s : State} (h : TriggersOwed n s) (p : Port) :
    TriggersOwed n (silenceTimerExpiry s p) := by
  unfold Machine.silenceTimerExpiry
  split
  · have told : ∀ f, TriggersOwed n (offerStatus (s.onPort p f) .portState) := fun f =>
      .of_changes (offerStatus_changes _ _) (h.of_changes (s.onPort_changes p f))
    exact ((told _).onAsm (by rfl) (prunePort_length p _)).release
  · exact h

theorem TriggersOwed.deadlineReached {n : Nat} {s : State} (h : TriggersOwed n s) (scan : Word16) :
    TriggersOwed n (deadlineReached s scan) := by
  unfold Machine.deadlineReached
  split
  · exact (h.onAsm (f := fun a => completeWhere (fun c => c.scan == scan) { a with deadlines := bump a.deadlines })
      rfl (completeWhere_length _ _)).release
  · exact h

theorem TriggersOwed.settleSpanClosed {n : Nat} {s : State} (h : TriggersOwed n s) :
    TriggersOwed n (settleSpanClosed s) := by
  obtain ⟨active, staged, seq⟩ := settleSpanClosed_seq s
  have changes := settleSpanClosed_changes s
  have odo : (Machine.settleSpanClosed s).odo = s.odo := changes.1 .odo (by decide)
  have asm : (Machine.settleSpanClosed s).asm = s.asm := changes.1 .asm (by decide)
  exact h.congr (by simp only [triggerView, seq, odo, asm])

/-! ### Triggers -/

theorem startScan_triggers {n : Nat} {s : State} (h : TriggersOwed (n + 1) s) : TriggersOwed n (startScan s) := by
  have begun : ∀ c f, TriggersOwed n (((s.onMotion f).onSeq fun q => q.startScan s.timebase s.roof.enabled).onAsm
      fun a => { a with contexts := a.contexts ++ [c] }) := fun c f => by
    constructor
    · intro room
      have triggers := h.triggers room
      have total : s.odo.counters.triggers.toNat < Config.counterMax := room
      show s.odo.counters.triggers.toNat = (bump s.seq.counters.started).toNat + s.seq.counters.overrunBusy.toNat +
        s.seq.counters.overrunContext.toNat + s.seq.onWay + n
      rw [toNat_bump_eq]
      simp only [Config.counterMax] at total
      omega
    · intro room
      obtain ⟨below, one⟩ := toNat_bump_lt (c := s.seq.counters.started) room
      show (bump s.seq.counters.started).toNat = s.asm.released.toNat + (s.asm.contexts ++ [c]).length
      rw [one, h.scans below, List.length_append, List.length_singleton, Nat.add_assoc]
  unfold startScan
  dsimp only
  split
  · exact ((begun _ _).onAsm rfl (completeWhere_length _ _)).release
  · exact begun _ _

theorem handleTrigger_triggers {n : Nat} {s : State} (h : TriggersOwed (n + 1) s) : TriggersOwed n (handleTrigger s) := by
  have handled : ∀ busy context,
      (s.odo.counters.triggers.toNat < Config.counterMax →
        busy.toNat + context.toNat = s.seq.counters.overrunBusy.toNat + s.seq.counters.overrunContext.toNat + 1) →
      TriggersOwed n (s.onSeq fun q => { q with
        counters := { q.counters with overrunBusy := busy, overrunContext := context } }) := fun busy context one =>
    ⟨fun room => by
      have triggers := h.triggers room
      have one := one room
      show s.odo.counters.triggers.toNat = s.seq.counters.started.toNat + busy.toNat + context.toNat + s.seq.onWay + n
      omega, h.scans⟩
  unfold handleTrigger
  split
  · refine handled (bump s.seq.counters.overrunBusy) s.seq.counters.overrunContext fun room => ?_
    have triggers := h.triggers room
    simp only [Config.counterMax] at room
    rw [toNat_bump_eq]
    omega
  · split
    · refine handled s.seq.counters.overrunBusy (bump s.seq.counters.overrunContext) fun room => ?_
      have triggers := h.triggers room
      simp only [Config.counterMax] at room
      rw [toNat_bump_eq]
      omega
    · exact startScan_triggers h

theorem TriggersOwed.triggerArrival {s : State} (h : TriggersOwed 0 s) : TriggersOwed 0 (triggerArrival s) := by
  unfold Machine.triggerArrival
  split
  · next some_ =>
    refine TriggersOwed.settleSpanClosed (handleTrigger_triggers ⟨fun room => ?_, h.scans⟩)
    have triggers := h.triggers room
    show s.odo.counters.triggers.toNat = s.seq.counters.started.toNat + s.seq.counters.overrunBusy.toNat +
      s.seq.counters.overrunContext.toNat + (s.seq.onWay - 1) + (0 + 1)
    omega
  · exact h

/-- The divider counts the trigger that it raises (R25, R28). -/
theorem TriggersOwed.countStep {s : State} (h : TriggersOwed 0 s) :
    TriggersOwed (if raisesTrigger s then 1 else 0) (countStep s) := by
  unfold Machine.countStep raisesTrigger
  by_cases running : (s.cmd.op == .running) = true
  · by_cases due : s.odo.divider ≤ 1
    · simp only [running, due, decide_true, Bool.and_self, if_true]
      refine ⟨fun room => ?_, h.scans⟩
      simp only [State.onOdo, due, if_true] at room ⊢
      obtain ⟨below, one⟩ := toNat_bump_lt room
      rw [one, h.triggers below]
    · simp only [running, due, decide_false, Bool.and_false, if_true]
      exact ⟨fun room => by simpa [State.onOdo, due] using h.triggers (by simpa [State.onOdo, due] using room), h.scans⟩
  · simpa [running] using h

theorem TriggersOwed.lineChange {s : State} (h : TriggersOwed 0 s) (oda odb late : Bool) :
    TriggersOwed 0 (lineChange s oda odb late) := by
  have moved : ∀ a b sense, TriggersOwed 0 (accumulate (s.onOdo fun o => { o with oda := a, odb := b }) sense) :=
    fun a b sense => by
      have stepped : TriggersOwed 0 ((s.onOdo fun o => { o with oda := a, odb := b }).onOdo
          fun o => o.step sense s.cmd.params.stepLength) := by
        cases sense <;> exact h.congr
      unfold accumulate
      dsimp only
      split
      · exact .of_changes (offerStatus_changes _ _) stepped
      · exact stepped
  unfold Machine.lineChange sendTrigger
  dsimp only
  split
  · exact h
  · split
    · exact h.congr
    · have counted := (moved oda odb (stepSense (decide ((oda, odb) = nextALeads s.odo.oda s.odo.odb))
        s.cmd.params.odoSense)).countStep
      split
      · next raises =>
        rw [if_pos raises] at counted
        split
        · exact ⟨counted.triggers, counted.scans⟩
        · exact handleTrigger_triggers counted
      · next still =>
        rwa [if_neg still] at counted

/-! ### Every row -/

/-- CLEAR_COUNTERS in STANDBY, where no trigger is on its way and no context in use (R176). -/
theorem TriggersOwed.clearAll {s : State} (idle : DrainLegal s) (op : s.cmd.op = .standby) :
    TriggersOwed 0 (clearAll s) := by
  obtain ⟨contexts, -, -, -, onWay, -⟩ := idle.standby op
  constructor
  · intro _
    show (0 : Counter).toNat = (0 : Counter).toNat + (0 : Counter).toNat + (0 : Counter).toNat + s.seq.onWay + 0
    rw [onWay]
    rfl
  · intro _
    show (0 : Counter).toNat = (0 : Counter).toNat + s.asm.contexts.length
    rw [contexts]
    rfl

theorem TriggersOwed.body {c : Instr} {row : CommandRow} (hc : commandRow c = some row) {s : State}
    (h : TriggersOwed 0 s) (idle : DrainLegal s) (allowed : row.allowed s.cmd.op = true) :
    TriggersOwed 0 (row.body s).1 := by
  cases c <;> cases hc <;> dsimp only
  case identify => exact h
  case getState => exact h
  case getCounters => exact h
  case clearCounters => exact .clearAll idle (standbyOnly_iff.1 allowed)
  case setHeads args => exact h.of_changes (setHeads_changes args s)
  case loadHeadCal args => exact h.of_changes (loadHeadCal_changes args s)
  case loadWireType args => exact h.of_changes (loadWireType_changes args s)
  case setRunParams args => exact h.of_changes (setRunParams_changes args s)
  case setScanSpacing args =>
    unfold setScanSpacing
    dsimp only
    split
    · exact h
    · exact h.congr
  case setStrobe args =>
    unfold setStrobe
    dsimp only
    split
    · exact h
    · split
      · exact h
      · unfold Sequencer.accept
        split
        · exact h.congr
        · exact h.congr
  case setDistance args =>
    unfold setDistance
    dsimp only
    split
    · exact h
    · exact h.congr
  case zoneAppend args => exact h.of_changes (zoneAppend_changes args s)
  case zoneFlush => exact h.of_changes (zoneFlush_changes s)
  case headPass args => exact h.of_changes (headPass_changes args s)
  case start =>
    unfold startRun beginRun
    split
    · exact h
    · exact .of_changes (offerStatus_changes _ _) h.congr
  case stop => exact h.of_changes (stopRun_changes s)

theorem triggersOwed_reset {s : State} (odo : s.odo.counters = {} := by rfl) (seq : s.seq.counters = {} := by rfl)
    (onWay : s.seq.onWay = 0 := by rfl) (released : s.asm.released = 0 := by rfl)
    (contexts : s.asm.contexts = [] := by rfl) : TriggersOwed 0 s where
  triggers := fun _ => by simp [odo, seq, onWay]
  scans := fun _ => by simp [seq, released, contexts]

/-- Both together: what is under way, and the balance of the triggers. -/
def TriggersKept (s : State) : Prop := DrainLegal s ∧ TriggersOwed 0 s

theorem TriggersKept.quiet {s t : State} (k : Quiet s t) (h : TriggersKept s) : TriggersKept t :=
  ⟨h.1.quiet k, h.2.quiet k⟩

theorem meaning_triggers (c : Instr) (s : State) (h : TriggersKept s) : TriggersKept (meaning c s) := by
  refine ⟨meaning_drainLegal c s h.1, ?_⟩
  by_cases rows : ∃ row, commandRow c = some row
  · obtain ⟨row, hc⟩ := rows
    exact (command_keeps TriggersKept.quiet hc
      (fun u allowed hu => ⟨hu.1.body hc allowed, hu.2.body hc hu.1 allowed⟩) h).2
  obtain ⟨idle, owed⟩ := h
  cases c <;> simp only [commandRow, reduceCtorEq, exists_false, Option.some.injEq, exists_eq', not_true_eq_false] at rows
  case profileFrame p a b => exact owed.profileFrame p a b
  case silenceTimerExpiry p => exact owed.silenceTimerExpiry p
  case lineChange a b l => exact owed.lineChange a b l
  case triggerArrival => exact owed.triggerArrival
  case deadlineReached scan => exact owed.deadlineReached scan
  case scanResolution => exact owed.of_changes (scanResolution_changes s)
  case geometryScan => exact owed.of_changes (geometryScan_changes s)
  case rawListArrival => exact owed.of_changes (rawListArrival_changes s)
  case clusterListArrival => exact owed.of_changes (clusterListArrival_changes s)
  case trackListArrival => exact owed.of_changes (trackListArrival_changes s)
  case drainCloseRequest => exact owed.of_changes (drainCloseRequest_changes s)
  case runOpeningReport =>
    show TriggersOwed 0 (runOpeningReport s)
    unfold runOpeningReport
    split
    · exact TriggersOwed.settleSpanClosed owed.congr
    · exact owed
  case scanFinishedReport =>
    show TriggersOwed 0 (scanFinishedReport s)
    unfold scanFinishedReport
    split
    · exact TriggersOwed.settleSpanClosed (.of_changes (finishScan_changes _ _) owed.congr)
    · exact owed
  case stopListArrival =>
    show TriggersOwed 0 (stopListArrival s)
    unfold stopListArrival
    split
    · rw [spanStop_eq]
      exact TriggersOwed.settleSpanClosed (.of_changes (State.onPaths_changes _ _)
        (.of_changes (spanClosing_changes _ _) owed.congr))
    · exact owed
  case slotStart p =>
    show TriggersOwed 0 (slotStart s p)
    unfold slotStart
    split
    · exact owed.congr
    · exact owed
  case exposureEnd p =>
    show TriggersOwed 0 (exposureEnd s p)
    unfold exposureEnd
    split
    · exact owed.congr
    · exact owed
  case busyWindowClose =>
    show TriggersOwed 0 (busyWindowClose s)
    unfold busyWindowClose
    split
    · exact owed.congr
    · exact owed
  case headReplyFrame p a b => exact owed.of_changes (headReplyFrame_changes s p a b)
  case motionFrame a b => exact owed.of_changes (motionFrame_changes s a b)
  case frameFailed r rx =>
    cases r with
    | roof p => exact owed.of_changes (parts := [.roof]) (frameFailed_changes s (.roof p) rx)
    | motion => exact owed.of_changes (frameFailed_changes s .motion rx)
    | trunk => exact owed.quiet (frameFailed_trunk_quiet s rx)
  case holdAgeExpiry => exact owed.of_changes (holdAgeExpiry_changes s)
  case downlinkEndDelimiter p => exact owed.of_changes (s.onPort_changes p RoofPort.downlinkEnd)
  case trunkEndDelimiter => exact owed.of_changes (s.onOut_changes Output.endFrame)
  case linkUp => exact owed.of_changes (s.onOut_changes _)
  case linkDown => exact owed.of_changes (s.onOut_changes _)
  case unknownCommand a code tag args => exact .quiet (unknownRow_quiet s a code tag args) owed
  case reset a tag args => exact reset_keeps TriggersOwed.quiet (fun _ => triggersOwed_reset) owed
  case hardReset => exact triggersOwed_reset
  case hardResetEnd a m x y => exact .quiet (hardResetEnd_quiet s a m x y) triggersOwed_reset

theorem triggersKept_kept : Kept TriggersKept :=
  kept_of_exec (fun _ _ h => ⟨h.1.congr, h.2.congr⟩) (fun _ _ h => ⟨h.1.congr, h.2.congr⟩) meaning_triggers

end Sys2Proof.Machine
end

section
/-! SUPPORT. The cluster lists that wait for the track table: which rows change them, and that their detections are numbered
apart (R119). -/

namespace Sys2Proof.Machine

set_option Elab.async false

/-! ### Rows that leave the waiting cluster lists alone -/

/-- From s to t the cluster lists that wait for the track table stay as they are. -/
def ListsStay (s t : State) : Prop := t.paths.toTrack = s.paths.toTrack

theorem ListsStay.of_changes {parts : List Part} {s t : State} (h : OnlyChanges parts s t)
    (hp : .paths ∉ parts := by decide) : ListsStay s t := congrArg Paths.toTrack (h.1 .paths hp)

theorem ListsStay.of_paths {s t : State} {p : Paths} (h : t.paths = p) (same : p.toTrack = s.paths.toTrack := by rfl) :
    ListsStay s t := (congrArg Paths.toTrack h).trans same

/-- A change after a change. -/
theorem ListsStay.last {s t u : State} (k : ListsStay t u) (h : ListsStay s t) : ListsStay s u := Eq.trans k h

theorem release_listsStay (s : State) : ListsStay s (release s) := by
  by_cases hg : s.asm.contexts.takeWhile (·.complete) = []
  · rw [show release s = s by simp [release, hg]]
    rfl
  · rw [release_eq s _ _ rfl rfl hg]
    rfl

theorem testTally_listsStay (s : State) : ListsStay s (testTally s) := by
  rw [testTally_eq]
  split
  · rfl
  · rfl

theorem settleSpanClosed_listsStay (s : State) : ListsStay s (settleSpanClosed s) := by
  rcases settleSpanClosed_cases s with same | ⟨-, -, -, closed⟩
  · rw [same]
    rfl
  · generalize settleSpanClosed s = t at closed
    cases closed with
    | standby => exact .last (t := standbyState _) (.of_changes (enterStandby_quiet _).changes) rfl
    | _ => rfl

theorem assemble_listsStay (s : State) (v : Verdict) (prof : Profile) : ListsStay s (assemble s v prof) := by
  cases v with
  | accepted => exact .last (release_listsStay _) rfl
  | _ => rfl

theorem takeProfile_listsStay (s : State) (p : Port) (f : Frame) : ListsStay s (takeProfile s p f) := by
  have judged : ∀ k l v prof k', ListsStay s ((assemble ((s.countPort p k).countPort p l) v prof).countPort p k') :=
    fun k l v prof k' => .last (.of_changes (State.countPort_changes _ p k')) (.last (assemble_listsStay _ v prof)
      (.last (.of_changes (State.countPort_changes _ p l)) (.of_changes (s.countPort_changes p k))))
  unfold takeProfile handProfile
  dsimp only
  split
  · rfl
  · rfl
  · split
    · exact .last (.of_changes (forward_changes _ p f)) (judged _ _ _ _ _)
    · exact judged _ _ _ _ _

theorem profileFrame_listsStay (s : State) (p : Port) (address : Byte) (payload : List Byte) :
    ListsStay s (profileFrame s p address payload) := by
  have closed : ∀ f x, ListsStay s ((settle s (.roof p) f).countRx (.roof p) x) := fun f x =>
    .of_changes (closeRoof_changes s p f x)
  unfold profileFrame
  dsimp only
  split
  · exact closed _ _
  · exact .last (takeProfile_listsStay _ p _) (.last (.of_changes (goodFrame_changes _ p)) (closed _ _))

theorem handleTrigger_listsStay (s : State) : ListsStay s (handleTrigger s) := by
  unfold handleTrigger startScan
  dsimp only
  split
  · rfl
  · split
    · rfl
    · split
      · exact .last (release_listsStay _) rfl
      · rfl

theorem lineChange_listsStay (s : State) (oda odb late : Bool) : ListsStay s (lineChange s oda odb late) := by
  have moved : ∀ f k, ListsStay s (countStep (accumulate (s.onOdo f) k)) := fun f k =>
    .last (.of_changes (countStep_changes _)) (.last (.of_changes (accumulate_changes _ k)) (.of_changes (s.onOdo_changes f)))
  unfold lineChange sendTrigger
  dsimp only
  split
  · rfl
  · split
    · rfl
    · split
      · split
        · exact .last (.of_changes (State.onSeq_changes _ _)) (moved _ _)
        · exact .last (handleTrigger_listsStay _) (moved _ _)
      · exact moved _ _

theorem finishScan_listsStay (s : State) (rest : List SpanReport) (scan : Word16) :
    ListsStay s (finishScan (s.onPaths fun p => { p with reports := rest }) scan) :=
  .last (.of_changes (finishScan_changes _ _)) rfl

theorem beginDrain_listsStay (s : State) : ListsStay s (beginDrain s) := by
  have told : ListsStay s (offerStatus (s.onCmd fun c => { c with op := .draining, drain := .waitingAssembly })
      .operatingState) := .last (.of_changes (offerStatus_changes _ _)) rfl
  unfold beginDrain assemblyDrained
  dsimp only
  split
  · split
    · exact .last (testTally_listsStay _) (.last (.of_changes (State.onCmd_changes _ _)) told)
    · exact told
  · exact told

/-! ### The detections of a cluster list are numbered apart -/

theorem mergeDetections_indices (cal : Quad CalSlot) (params : RunParams) (w : WireSlot) (raw : List Detection) :
    ((mergeDetections cal params w raw).items.map (·.index)).Nodup := by
  simp only [mergeDetections, List.map_map]
  have indices : ((fun m : Merged => m.index) ∘ fun c : MergedCluster × Nat => finishCluster w c.2 c.1) = Prod.snd := by
    funext c
    rfl
  rw [indices, List.zipIdx_map_snd]
  exact List.nodup_range'

/-- The cluster lists that wait number their detections apart (R119). -/
def ListsNumbered (s : State) : Prop := ∀ l ∈ s.paths.toTrack, (l.items.map (·.index)).Nodup

theorem ListsStay.numbered {s t : State} (k : ListsStay s t) (h : ListsNumbered s) : ListsNumbered t := fun l member =>
  h l (k ▸ member)

theorem ListsNumbered.quiet {s t : State} (k : Quiet s t) (h : ListsNumbered s) : ListsNumbered t :=
  ListsStay.numbered (.of_changes k.changes) h

theorem listsNumbered_reset {s : State} (paths : s.paths = {} := by rfl) : ListsNumbered s := by
  simp [ListsNumbered, paths]

theorem meaning_listsNumbered (c : Instr) (s : State) (h : ListsNumbered s) : ListsNumbered (meaning c s) := by
  by_cases hc : Part.paths ∈ footprint c
  · cases c <;> simp only [footprint, List.mem_cons, List.not_mem_nil, reduceCtorEq, or_false, or_self] at hc
    case profileFrame p a b => exact (profileFrame_listsStay s p a b).numbered h
    case frameFailed r rx => cases r <;> cases hc
    case lineChange a b l => exact (lineChange_listsStay s a b l).numbered h
    case silenceTimerExpiry p =>
      show ListsNumbered (silenceTimerExpiry s p)
      unfold silenceTimerExpiry
      split
      · exact ListsStay.numbered (.last (release_listsStay _) (.last (.of_changes (State.onAsm_changes _ _))
          (.last (.of_changes (offerStatus_changes _ _)) (.of_changes (s.onPort_changes p _))))) h
      · exact h
    case deadlineReached scan =>
      show ListsNumbered (deadlineReached s scan)
      unfold deadlineReached
      split
      · exact ListsStay.numbered (s := s) (.last (release_listsStay _) rfl) h
      · exact h
    case triggerArrival =>
      show ListsNumbered (triggerArrival s)
      unfold triggerArrival
      split
      · exact ListsStay.numbered (s := s) (.last (settleSpanClosed_listsStay _) (.last (handleTrigger_listsStay _) rfl)) h
      · exact h
    case scanResolution =>
      show ListsNumbered (scanResolution s)
      unfold scanResolution
      split
      · next scan rest waiting =>
        obtain ⟨context, view⟩ := resolveScan_drainView (s.onPaths fun p => { p with toZone := rest }) scan
        have paths := congrArg (fun v => v.2.1) view
        exact (ListsStay.of_paths paths).numbered h
      · exact h
    case geometryScan =>
      show ListsNumbered (geometryScan s)
      unfold geometryScan
      split
      · exact h
      · exact h
    case rawListArrival =>
      show ListsNumbered (rawListArrival s)
      unfold rawListArrival
      split
      · intro l member
        rcases List.mem_append.1 member with old | new
        · exact h l old
        · rw [List.mem_singleton.1 new]
          exact mergeDetections_indices _ _ _ _
      · exact h
    case clusterListArrival =>
      show ListsNumbered (clusterListArrival s)
      unfold clusterListArrival
      split
      · next l rest waiting =>
        have later : ListsNumbered (s.onPaths fun p => { p with toTrack := rest }) := fun k member =>
          h k (waiting ▸ List.mem_cons_of_mem l member)
        exact ListsStay.numbered (.last (testTally_listsStay _) rfl) later
      · exact h
    case trackListArrival =>
      show ListsNumbered (trackListArrival s)
      unfold trackListArrival
      split
      · next l rest _ =>
        obtain ⟨opened, paths⟩ := (spanEntries_moves (s.onPaths fun p => { p with toSpan := rest }) l).reports
        rw [spanScan_eq]
        exact ListsStay.numbered (s := s) (.last (t := spanEntries _ l) rfl (.of_paths paths)) h
      · exact h
    case runOpeningReport =>
      show ListsNumbered (runOpeningReport s)
      unfold runOpeningReport
      split
      · exact ListsStay.numbered (s := s) (.last (settleSpanClosed_listsStay _) rfl) h
      · exact h
    case scanFinishedReport =>
      show ListsNumbered (scanFinishedReport s)
      unfold scanFinishedReport
      split
      · exact ListsStay.numbered (.last (settleSpanClosed_listsStay _) (finishScan_listsStay s _ _)) h
      · exact h
    case drainCloseRequest =>
      show ListsNumbered (drainCloseRequest s)
      unfold drainCloseRequest
      split
      · exact h
      · exact h
    case stopListArrival =>
      show ListsNumbered (stopListArrival s)
      unfold stopListArrival
      split
      · rw [spanStop_eq]
        exact ListsStay.numbered (s := s) (.last (settleSpanClosed_listsStay _)
          (.last (t := spanClosing _ _) rfl (.last (.of_changes (spanClosing_changes _ _)) rfl))) h
      · exact h
    case stop a t args =>
      refine command_keeps (c := .stop a t args) ListsNumbered.quiet rfl (fun u _ hu => ?_) h
      show ListsNumbered (stopRun u).1
      unfold stopRun
      split
      · exact (beginDrain_listsStay u).numbered hu
      · exact hu
      · exact hu
    case reset a t args => exact reset_keeps ListsNumbered.quiet (fun _ => listsNumbered_reset) h
    case hardReset => exact listsNumbered_reset
    case hardResetEnd a m x y => exact .quiet (hardResetEnd_quiet s a m x y) listsNumbered_reset
  · exact ListsStay.numbered (.of_changes (meaning_changes c s) hc) h

end Sys2Proof.Machine
end

section
/-! SUPPORT. The track table's scan counted: what is assigned, what is born, and the live tracks of each state (R129 to R135,
R140). -/

namespace Sys2Proof.Machine

set_option Elab.async false

/-! ### The assignment (R129) -/

/-- No track and no detection is assigned twice. -/
structure AssignedOnce (done : List Candidate) : Prop where
  slots : (done.map (·.slot)).Nodup
  indices : (done.map (·.index)).Nodup

theorem assignOne_once {done : List Candidate} (h : AssignedOnce done) (c : Candidate) : AssignedOnce (assignOne done c) := by
  unfold assignOne
  split
  · exact h
  · next free =>
    simp only [List.any_eq_true, Bool.or_eq_true, beq_iff_eq, not_exists, not_and, not_or] at free
    constructor
    · rw [List.map_append, List.nodup_append]
      refine ⟨h.slots, List.nodup_singleton _, fun a ha b hb => ?_⟩
      obtain ⟨k, hk, rfl⟩ := List.mem_map.1 ha
      rw [List.mem_singleton.1 hb]
      exact (free k hk).1
    · rw [List.map_append, List.nodup_append]
      refine ⟨h.indices, List.nodup_singleton _, fun a ha b hb => ?_⟩
      obtain ⟨k, hk, rfl⟩ := List.mem_map.1 ha
      rw [List.mem_singleton.1 hb]
      exact (free k hk).2

theorem mem_assignOne {done : List Candidate} {c k : Candidate} (h : k ∈ assignOne done c) : k ∈ done ∨ k = c := by
  unfold assignOne at h
  split at h
  · exact .inl h
  · simpa using h

theorem assign_once (cs : List Candidate) : AssignedOnce (assign cs) :=
  List.foldlRecOn cs assignOne ⟨List.nodup_nil, List.nodup_nil⟩ fun _ h c _ => assignOne_once h c

theorem mem_assign {cs : List Candidate} {k : Candidate} (h : k ∈ assign cs) : k ∈ cs := by
  suffices all : ∀ done, k ∈ cs.foldl assignOne done → k ∈ done ∨ k ∈ cs from (all [] h).resolve_left (List.not_mem_nil)
  intro done hk
  clear h
  induction cs generalizing done with
  | nil => exact .inl hk
  | cons c cs ih =>
    rcases ih _ hk with one | rest
    · exact (mem_assignOne one).imp_right fun same => by simp [same]
    · exact .inr (List.mem_cons_of_mem c rest)

/-- A candidate pairs a live track with a detection of the list (R128). -/
theorem mem_candidates {params : RunParams} {h : ScanHeader} {slots : List (Option Track)} {items : List Merged}
    {c : Candidate} (hc : c ∈ candidates params h slots items) :
    (∃ t, slots[c.slot]? = some (some t)) ∧ ∃ m ∈ items, m.index = c.index := by
  rw [candidates, List.mem_insertionSort, List.mem_flatMap] at hc
  obtain ⟨⟨slot, i⟩, member, hc⟩ := hc
  unfold slotCandidates at hc
  split at hc
  · next t live =>
    obtain ⟨m, hm, hc⟩ := List.mem_filterMap.1 hc
    unfold candidateOf at hc
    dsimp only at hc live
    split at hc
    · cases hc
      refine ⟨⟨t, ?_⟩, m, hm, rfl⟩
      rw [List.mem_zipIdx_iff_getElem?] at member
      rw [← live]
      exact member
    · cases hc
  · cases hc

/-! ### Hits and unassigned detections -/

/-- A slot of an assigned pair has its detection. -/
theorem assignedTo_isSome {done : List Candidate} {items : List Merged}
    (found : ∀ c ∈ done, ∃ m ∈ items, m.index = c.index) (slot : Nat) :
    (assignedTo done items slot).isSome = true ↔ slot ∈ done.map (·.slot) := by
  unfold assignedTo
  cases hf : done.find? (fun c => c.slot == slot) with
  | none =>
    have absent := List.find?_eq_none.1 hf
    simp only [Option.bind_none, Option.isSome_none, Bool.false_eq_true, List.mem_map, false_iff, not_exists, not_and]
    exact fun c hc same => absent c hc (by simp [same])
  | some c =>
    have member := List.mem_of_find?_eq_some hf
    have same : c.slot = slot := by simpa using List.find?_some hf
    obtain ⟨m, hm, index⟩ := found c member
    refine iff_of_true ?_ (List.mem_map.2 ⟨c, member, same⟩)
    rw [Option.bind_some, List.find?_isSome]
    exact ⟨m, hm, by simp [index]⟩

/-- Whether a slot holds a track and has a detection assigned. -/
def slotIsHit (done : List Candidate) (items : List Merged) (s : Option Track × Nat) : Bool :=
  s.1.isSome && (assignedTo done items s.2).isSome

/-- Whether a detection is assigned. -/
def isAssigned (done : List Candidate) (m : Merged) : Bool := done.any fun c => c.index == m.index

/-- The tracks that take a hit are those assigned (R129, R130). -/
theorem slotHits_countP {t : TrackTable} {done : List Candidate} {items : List Merged} (once : AssignedOnce done)
    (live : ∀ c ∈ done, ∃ k, t.slots[c.slot]? = some (some k)) (found : ∀ c ∈ done, ∃ m ∈ items, m.index = c.index) :
    (slotHits t done items).countP (fun k => k.2.isSome) = done.length := by
  have counted : (slotHits t done items).countP (fun k => k.2.isSome) = t.slots.zipIdx.countP (slotIsHit done items) := by
    rw [slotHits, List.countP_filterMap]
    refine List.countP_congr fun s _ => ?_
    cases hs : s.1 <;> simp [slotIsHit, hs]
  have perm : ((t.slots.zipIdx.filter (slotIsHit done items)).map Prod.snd).Perm (done.map (·.slot)) := by
    refine (List.perm_ext_iff_of_nodup ?_ once.slots).2 fun i => ?_
    · refine List.Nodup.sublist (List.filter_sublist.map _) ?_
      rw [List.zipIdx_map_snd]
      exact List.nodup_range'
    · constructor
      · intro member
        obtain ⟨s, hs, rfl⟩ := List.mem_map.1 member
        have both := (List.mem_filter.1 hs).2
        simp only [slotIsHit, Bool.and_eq_true] at both
        exact (assignedTo_isSome found _).1 both.2
      · intro member
        obtain ⟨c, hc, rfl⟩ := List.mem_map.1 member
        obtain ⟨k, slot⟩ := live c hc
        refine List.mem_map.2 ⟨(some k, c.slot), List.mem_filter.2 ⟨?_, ?_⟩, rfl⟩
        · exact List.mem_zipIdx_iff_getElem?.2 slot
        · simp only [slotIsHit, Option.isSome_some, Bool.true_and]
          exact (assignedTo_isSome found _).2 member
  rw [counted, List.countP_eq_length_filter, ← List.length_map (f := Prod.snd), perm.length_eq, List.length_map]

/-- The detections that are not left unassigned are those assigned (R129). -/
theorem unassigned_length {done : List Candidate} {items : List Merged} (once : AssignedOnce done)
    (found : ∀ c ∈ done, ∃ m ∈ items, m.index = c.index) (numbered : (items.map (·.index)).Nodup) :
    done.length + (unassigned done items).length = items.length := by
  have perm : ((items.filter (isAssigned done)).map (·.index)).Perm (done.map (·.index)) := by
    refine (List.perm_ext_iff_of_nodup (numbered.sublist (List.filter_sublist.map _)) once.indices).2 fun i => ?_
    constructor
    · intro member
      obtain ⟨m, hm, rfl⟩ := List.mem_map.1 member
      obtain ⟨c, hc, same⟩ := List.any_eq_true.1 (List.mem_filter.1 hm).2
      exact List.mem_map.2 ⟨c, hc, by simpa using same⟩
    · intro member
      obtain ⟨c, hc, rfl⟩ := List.mem_map.1 member
      obtain ⟨m, hm, same⟩ := found c hc
      exact List.mem_map.2 ⟨m, List.mem_filter.2 ⟨hm, List.any_eq_true.2 ⟨c, hc, by simp [same]⟩⟩, same⟩
  rw [← List.length_map (as := done) (f := (·.index)), ← perm.length_eq, List.length_map, unassigned,
    ← List.countP_eq_length_filter, ← List.countP_eq_length_filter]
  exact (length_eq_countP_add_not (isAssigned done) items).symm

/-! ### Live tracks after hits and misses (R130 to R133) -/

/-- The live tracks of some slots. -/
def liveOf (ws : List SlotWork) : List Track := ws.filterMap (·.track)

/-- Whether a track is TENTATIVE. -/
def isTentative (t : Track) : Bool := t.state == .tentative

/-- Whether a track is CONFIRMED or COASTING. -/
def isReported (t : Track) : Bool := t.state != .tentative

/-- A hit leaves a track TENTATIVE, or confirms it, or leaves it reported. -/
theorem workHit_live (h : ScanHeader) (params : RunParams) (t : Track) (m : Merged) :
    ∃ k, (workHit h params t m).track = some k ∧
      isTentative k = (isTentative t && !confirmsNow params.confirmHits (t, some m)) := by
  refine ⟨_, rfl, ?_⟩
  simp only [isTentative, Track.hit, stateAfterHit, confirmsNow, isHitOf]
  cases t.state with
  | tentative =>
    by_cases enough : (bump t.hits).toNat = params.confirmHits
    · simp [enough]
    · simp [enough]
  | _ => rfl

/-- What a track with its hit or miss becomes. -/
def workTrack (h : ScanHeader) (params : RunParams) (k : Track × Option Merged) : SlotWork :=
  match k.2 with
  | some m => workHit h params k.1 m
  | none => workMiss h params k.1

/-- A live track after its hit or miss, by state: what is confirmed, dropped and ended makes up the difference (R132, R133). -/
structure TrackCounted (params : RunParams) (k : Track × Option Merged) (after : Option Track) : Prop where
  tentative : after.toList.countP isTentative + [k].countP (confirmsNow params.confirmHits) +
    [k].countP (isMissOf .tentative) = [k.1].countP isTentative
  reported : after.toList.countP isReported + [k].countP (endsNow params.missLimit) =
    [k.1].countP isReported + [k].countP (confirmsNow params.confirmHits)

theorem isReported_eq (k : Track) : isReported k = !isTentative k := rfl

theorem workTrack_counted (h : ScanHeader) (params : RunParams) (k : Track × Option Merged) :
    TrackCounted params k (workTrack h params k).track := by
  obtain ⟨t, hit⟩ := k
  cases hit with
  | some m =>
    obtain ⟨k, live, state⟩ := workHit_live h params t m
    have missed : isMissOf .tentative (t, some m) = false := by simp [isMissOf]
    have ended : endsNow params.missLimit (t, some m) = false := by simp [endsNow]
    have confirmed : confirmsNow params.confirmHits (t, some m) = true → isTentative t = true := by
      simp only [confirmsNow, isHitOf, Bool.and_eq_true]
      exact fun both => both.1.1
    show TrackCounted params (t, some m) (workHit h params t m).track
    constructor
    · cases hc : confirmsNow params.confirmHits (t, some m) <;> simp_all
    · cases hc : confirmsNow params.confirmHits (t, some m) <;> cases ht : isTentative t <;> simp_all [isReported_eq]
  | none =>
    have confirmed : confirmsNow params.confirmHits (t, none) = false := by simp [confirmsNow, isHitOf]
    have missed : isMissOf .tentative (t, none) = isTentative t := by simp [isMissOf, isTentative]
    have ended : endsNow params.missLimit (t, none) = (isReported t && decide (t.coast.misses = params.missLimit)) := by
      simp [endsNow, isReported]
    show TrackCounted params (t, none) (workMiss h params t).track
    unfold workMiss
    split
    · next state =>
      have tentative : isTentative t = true := by simp [isTentative, state]
      constructor <;> simp [confirmed, missed, ended, tentative, isReported_eq]
    · next state =>
      have reported : isTentative t = false := by simpa [isTentative] using state
      dsimp only
      split
      · next limit => constructor <;> simp [confirmed, missed, ended, reported, isReported_eq, limit]
      · next more =>
        have coasts : isTentative t.coast = false := rfl
        constructor <;> simp [confirmed, missed, ended, reported, isReported_eq, more, coasts]

/-- The live tracks of the slots before the scan, each with its hit or miss. -/
theorem slotHits_fst (t : TrackTable) (done : List Candidate) (items : List Merged) :
    (slotHits t done items).map Prod.fst = t.live := by
  have slots : t.slots.zipIdx.map Prod.fst = t.slots := List.zipIdx_map_fst 0 t.slots
  rw [slotHits, TrackTable.live, List.map_filterMap]
  conv_rhs => rw [← slots, List.filterMap_map]
  refine List.filterMap_congr fun s _ => ?_
  cases hs : s.1 <;> simp [hs]

/-- The live tracks after hits and misses. -/
theorem works_live (t : TrackTable) (h : ScanHeader) (params : RunParams) (done : List Candidate) (items : List Merged) :
    liveOf (t.slots.zipIdx.map (workSlot h params done items)) =
      (slotHits t done items).filterMap fun k => (workTrack h params k).track := by
  rw [liveOf, slotHits, List.filterMap_map, List.filterMap_filterMap]
  refine List.filterMap_congr fun s _ => ?_
  obtain ⟨slot, i⟩ := s
  cases slot with
  | none => rfl
  | some k =>
    show (workSlot h params done items (some k, i)).track = (workTrack h params (k, assignedTo done items i)).track
    simp only [workSlot]
    cases assignedTo done items i with
    | none => rfl
    | some m => rfl

/-- All live tracks after hits and misses, by state. -/
theorem hits_counted (h : ScanHeader) (params : RunParams) (ks : List (Track × Option Merged)) :
    ((ks.filterMap fun k => (workTrack h params k).track).countP isTentative +
        ks.countP (confirmsNow params.confirmHits) + ks.countP (isMissOf .tentative) =
          (ks.map Prod.fst).countP isTentative) ∧
      ((ks.filterMap fun k => (workTrack h params k).track).countP isReported + ks.countP (endsNow params.missLimit) =
        (ks.map Prod.fst).countP isReported + ks.countP (confirmsNow params.confirmHits)) := by
  induction ks with
  | nil => exact ⟨rfl, rfl⟩
  | cons k ks ih =>
    obtain ⟨tentative, reported⟩ := ih
    have one := workTrack_counted h params k
    have oneTentative := one.tentative
    have oneReported := one.reported
    have split : ∀ p : Track → Bool, ((k :: ks).filterMap fun k => (workTrack h params k).track).countP p =
        (workTrack h params k).track.toList.countP p + (ks.filterMap fun k => (workTrack h params k).track).countP p := by
      intro p
      rw [List.filterMap_cons]
      cases (workTrack h params k).track with
      | none => simp
      | some t => rw [← List.countP_append]; rfl
    have front : ∀ (p : Track × Option Merged → Bool), (k :: ks).countP p = [k].countP p + ks.countP p := fun p => by
      rw [← List.countP_append]; rfl
    have first : ∀ p : Track → Bool, ((k :: ks).map Prod.fst).countP p = [k.1].countP p + (ks.map Prod.fst).countP p :=
      fun p => by rw [← List.countP_append]; rfl
    simp only [split, front, first]
    constructor
    · omega
    · omega

/-! ### Births (R134, R135) -/

theorem placeTrack_live {t : Track} {m : Merged} {ws xs : List SlotWork} (h : placeTrack t m ws = some xs)
    (p : Track → Bool) : (liveOf xs).countP p = (liveOf ws).countP p + [t].countP p := by
  induction ws generalizing xs with
  | nil => cases h
  | cons w ws ih =>
    unfold placeTrack at h
    split at h
    · next free =>
      cases h
      simp only [liveOf, List.filterMap_cons, free]
      rw [← List.countP_append, ← List.singleton_append, List.countP_append, List.countP_append, Nat.add_comm]
    · next k used =>
      obtain ⟨ys, hy, rfl⟩ := Option.map_eq_some_iff.1 h
      have rest := ih hy
      simp only [liveOf] at rest
      simp only [liveOf, List.filterMap_cons, used, List.countP_cons, rest]
      omega

/-- A born track is TENTATIVE unless one hit confirms it (R134). -/
theorem newTrack_tentative (id : Nat) (h : ScanHeader) (confirmHits : Nat) (m : Merged) :
    isTentative (newTrack id h confirmHits m) = !decide (confirmHits = 1) := by
  by_cases one : confirmHits = 1 <;> simp [isTentative, newTrack, one]

/-- The births among a scan's unassigned detections, by the state they are born in. -/
theorem bearAll_counted (h : ScanHeader) (confirmHits : Nat) (ms : List Merged) (b : BirthWork) :
    let r := ms.foldl (bear h confirmHits) b
    (r.births + r.discards = b.births + b.discards + ms.length) ∧
      ((liveOf r.slots).countP isTentative + (if confirmHits = 1 then r.births else 0) + b.births =
        (liveOf b.slots).countP isTentative + r.births + (if confirmHits = 1 then b.births else 0)) ∧
      ((liveOf r.slots).countP isReported + (if confirmHits = 1 then b.births else 0) =
        (liveOf b.slots).countP isReported + (if confirmHits = 1 then r.births else 0)) := by
  induction ms generalizing b with
  | nil => exact ⟨rfl, by simp only [List.foldl_nil]; omega, rfl⟩
  | cons m ms ih =>
    obtain ⟨count, tentative, reported⟩ := ih (bear h confirmHits b m)
    simp only [List.foldl_cons, List.length_cons]
    generalize ms.foldl (bear h confirmHits) (bear h confirmHits b m) = r at count tentative reported
    unfold bear at count tentative reported
    dsimp only at count tentative reported
    split at count
    · next slots placed =>
      have tentatives := placeTrack_live placed isTentative
      have reports := placeTrack_live placed isReported
      simp only [placed] at tentative reported
      simp only [List.countP_cons, List.countP_nil, newTrack_tentative, isReported_eq] at tentatives reports
      by_cases one : confirmHits = 1
      · simp [one] at *
        omega
      · simp [one] at *
        omega
    · next full =>
      simp only [full] at tentative reported
      exact ⟨by rw [count]; dsimp only; omega, tentative, reported⟩

end Sys2Proof.Machine
end

section
/-! SUPPORT. What keeps the track table's counters in balance (R140). -/

namespace Sys2Proof.Machine

set_option Elab.async false

/-! ### The balance of the track table -/

/-- The counters of the track table balance, short of saturation (R140). -/
structure TrackTable.Balanced (t : TrackTable) : Prop where
  received : t.counters.received.toNat < Config.counterMax →
    t.counters.received.toNat = t.counters.hits.toNat + t.counters.births.toNat + t.counters.fullDiscards.toNat
  births : t.counters.births.toNat < Config.counterMax →
    t.counters.births.toNat = t.counters.confirmations.toNat + t.counters.dropped.toNat + t.live.countP isTentative
  confirmations : t.counters.confirmations.toNat < Config.counterMax →
    t.counters.confirmations.toNat =
      t.counters.endsMisses.toNat + t.counters.endsStop.toNat + t.live.countP isReported

theorem reported_length (t : TrackTable) : t.reported.length = t.live.countP isReported := by
  rw [TrackTable.reported, List.countP_eq_length_filter]
  rfl

theorem trackBalance_iff {s : State} : TrackBalance s ↔ s.tracks.Balanced ∧ ListsNumbered s := by
  constructor
  · intro h
    exact ⟨⟨h.received, h.births, fun room => by rw [← reported_length]; exact h.confirmations room⟩, h.indices⟩
  · intro ⟨table, lists⟩
    exact ⟨table.received, table.births, fun room => by rw [reported_length]; exact table.confirmations room, lists⟩

/-- What a scan's hits, misses and births make of the detections and of the live tracks (R129 to R135). -/
structure ScanCounted (t : TrackTable) (params : RunParams) (l : ClusterList) (hits : List (Track × Option Merged))
    (w : BirthWork) : Prop where
  items : l.items.length = hits.countP (fun k => k.2.isSome) + w.births + w.discards
  tentative : (liveOf w.slots).countP isTentative + (if params.confirmHits = 1 then w.births else 0) +
    hits.countP (confirmsNow params.confirmHits) + hits.countP (isMissOf .tentative) = t.live.countP isTentative + w.births
  reported : (liveOf w.slots).countP isReported + hits.countP (endsNow params.missLimit) =
    t.live.countP isReported + hits.countP (confirmsNow params.confirmHits) +
      (if params.confirmHits = 1 then w.births else 0)

theorem trackWork_counted (t : TrackTable) (params : RunParams) {l : ClusterList}
    (numbered : (l.items.map (·.index)).Nodup) :
    ScanCounted t params l (slotHits t (assign (candidates params l.header t.slots l.items)) l.items)
      (trackWork t params l) := by
  have once := assign_once (candidates params l.header t.slots l.items)
  have live : ∀ c ∈ assign (candidates params l.header t.slots l.items), ∃ k, t.slots[c.slot]? = some (some k) :=
    fun c hc => (mem_candidates (mem_assign hc)).1
  have found : ∀ c ∈ assign (candidates params l.header t.slots l.items), ∃ m ∈ l.items, m.index = c.index :=
    fun c hc => (mem_candidates (mem_assign hc)).2
  unfold trackWork
  dsimp only
  generalize assign (candidates params l.header t.slots l.items) = done at once live found ⊢
  have taken := slotHits_countP once live found
  have parted := unassigned_length once found numbered
  obtain ⟨tentative, reported⟩ := hits_counted l.header params (slotHits t done l.items)
  obtain ⟨count, bornTentative, bornReported⟩ := bearAll_counted l.header params.confirmHits (unassigned done l.items)
    ⟨t.slots.zipIdx.map (workSlot l.header params done l.items), t.nextId, 0, 0⟩
  rw [slotHits_fst] at tentative reported
  simp only [works_live] at bornTentative bornReported
  generalize (unassigned done l.items).foldl (bear l.header params.confirmHits) _ = r at count bornTentative bornReported ⊢
  simp only [ite_self, Nat.zero_add, Nat.add_zero] at count bornTentative bornReported
  constructor
  · omega
  · omega
  · omega

theorem afterScan_live (t : TrackTable) (params : RunParams) (l : ClusterList) (w : BirthWork) :
    (t.afterScan params l w).live = liveOf w.slots := by
  simp [TrackTable.live, TrackTable.afterScan, liveOf, List.filterMap_map]

theorem TrackTable.Balanced.afterScan {t : TrackTable} (h : t.Balanced) (params : RunParams) {l : ClusterList}
    (numbered : (l.items.map (·.index)).Nodup) : (t.afterScan params l (trackWork t params l)).Balanced := by
  have counted := trackWork_counted t params numbered
  have live := afterScan_live t params l (trackWork t params l)
  generalize trackWork t params l = w at counted live ⊢
  obtain ⟨items, tentative, reported⟩ := counted
  constructor
  · intro room
    obtain ⟨below, sum⟩ := toNat_bumpBy_lt (c := t.counters.received) room
    have old := h.received below
    simp only [TrackTable.afterScan, TrackCounters.countScan, toNat_bumpBy_eq] at room ⊢
    simp only [Config.counterMax] at room
    omega
  · intro room
    obtain ⟨below, sum⟩ := toNat_bumpBy_lt (c := t.counters.births) room
    have old := h.births below
    rw [live]
    simp only [TrackTable.afterScan, TrackCounters.countScan, toNat_bumpBy_eq] at room ⊢
    simp only [Config.counterMax] at room
    omega
  · intro room
    obtain ⟨below, sum⟩ := toNat_bumpBy_lt (c := t.counters.confirmations) room
    have old := h.confirmations below
    rw [live]
    simp only [TrackTable.afterScan, TrackCounters.countScan, toNat_bumpBy_eq] at room ⊢
    simp only [Config.counterMax] at room
    omega

theorem closeDrain_live (t : TrackTable) : t.closeDrain.live = [] := by
  simp [TrackTable.live, TrackTable.closeDrain]

/-- The close of a drain drops every TENTATIVE track and ends the others (R138). -/
theorem TrackTable.Balanced.closeDrain {t : TrackTable} (h : t.Balanced) : t.closeDrain.Balanced := by
  constructor
  · exact h.received
  · intro room
    have old := h.births room
    replace room : t.counters.births.toNat < Config.counterMax := room
    rw [closeDrain_live]
    show t.counters.births.toNat = t.counters.confirmations.toNat +
      (bumpBy t.counters.dropped (t.live.countP isTentative)).toNat + 0
    rw [toNat_bumpBy_eq]
    simp only [Config.counterMax] at room
    omega
  · intro room
    have old := h.confirmations room
    replace room : t.counters.confirmations.toNat < Config.counterMax := room
    rw [closeDrain_live]
    show t.counters.confirmations.toNat = t.counters.endsMisses.toNat +
      (bumpBy t.counters.endsStop t.reported.length).toNat + 0
    rw [toNat_bumpBy_eq, reported_length]
    simp only [Config.counterMax] at room
    omega

/-- Counters that start from 0 balance where no track is live. -/
theorem balanced_fresh {t : TrackTable} (counters : t.counters = {} := by rfl) (live : t.live = [] := by rfl) :
    t.Balanced := by
  constructor <;> simp [counters, live]

theorem TrackTable.Balanced.clearAll {s : State} (live : s.tracks.live = []) : (clearAll s).tracks.Balanced := by
  have cleared : (Machine.clearAll s).tracks = { s.tracks with counters := {} } := by
    simp only [Machine.clearAll, State.onRoof, State.onMotion, State.onOdo, State.onSeq, State.onAsm, State.onZones,
      State.onGeo, State.onMerge, State.onTracks, State.onSpan, State.onOut, State.onCmd]
  rw [cleared]
  exact balanced_fresh rfl live

/-! ### Every row -/

/-- Both together: what is under way, and the balance of the track table. -/
def TracksKept (s : State) : Prop := DrainLegal s ∧ s.tracks.Balanced

theorem TracksKept.quiet {s t : State} (k : Quiet s t) (h : TracksKept s) : TracksKept t :=
  ⟨h.1.quiet k, k.changes.1 .tracks (by decide) ▸ h.2⟩

theorem meaning_tracks (c : Instr) {s : State} (h : TracksKept s) (lists : ListsNumbered s) :
    (meaning c s).tracks.Balanced := by
  by_cases hc : Part.tracks ∈ footprint c
  · obtain ⟨idle, table⟩ := h
    cases c <;> simp only [footprint, List.mem_cons, List.not_mem_nil, reduceCtorEq, or_false, or_self] at hc
    case frameFailed r rx => cases r <;> cases hc
    case clusterListArrival =>
      show (clusterListArrival s).tracks.Balanced
      unfold clusterListArrival
      split
      · next l rest waiting =>
        unfold trackScan
        dsimp only
        rw [(testTally_changes _).1 .tracks (by decide)]
        exact table.afterScan s.cmd.params (lists l (by simp [waiting]))
      · exact table
    case drainCloseRequest =>
      show (drainCloseRequest s).tracks.Balanced
      unfold drainCloseRequest
      split
      · exact table.closeDrain
      · exact table
    case clearCounters a t args =>
      refine (command_keeps (P := TracksKept) (c := .clearCounters a t args) TracksKept.quiet rfl (fun u allowed hu => ?_)
        ⟨idle, table⟩).2
      obtain ⟨-, -, -, -, -, live⟩ := hu.1.standby (standbyOnly_iff.1 allowed)
      exact ⟨hu.1.congr (clearAll_drainView u), .clearAll live⟩
    case reset a t args =>
      exact reset_keeps (P := fun s => s.tracks.Balanced) (fun k h => k.changes.1 .tracks (by decide) ▸ h)
        (fun _ => balanced_fresh) table
    case hardReset => exact balanced_fresh
    case hardResetEnd a m x y =>
      show (offerStatus _ _).tracks.Balanced
      rw [(offerStatus_changes _ _).1 .tracks (by decide)]
      exact balanced_fresh
  · rw [(meaning_changes c s).1 .tracks hc]
    exact h.2

theorem tracksKept_kept : Kept fun s => DrainLegal s ∧ TrackBalance s := by
  have kept : Kept fun s => TracksKept s ∧ ListsNumbered s :=
    kept_of_exec (fun _ _ h => ⟨⟨h.1.1.congr, h.1.2⟩, h.2⟩) (fun _ _ h => ⟨⟨h.1.1.congr, h.1.2⟩, h.2⟩) fun c s h =>
      ⟨⟨meaning_drainLegal c s h.1.1, meaning_tracks c h.1 h.2⟩, meaning_listsNumbered c s h.2⟩
  intro s t ⟨idle, balance⟩ ran
  obtain ⟨table, lists⟩ := trackBalance_iff.1 balance
  obtain ⟨⟨idle, table⟩, lists⟩ := kept s t ⟨⟨idle, table⟩, lists⟩ ran
  exact ⟨idle, trackBalance_iff.2 ⟨table, lists⟩⟩

end Sys2Proof.Machine
end

section
/-! PROOF. The balances of the counters of every unit (O60). -/

namespace Sys2Proof.Machine

set_option Elab.async false

theorem triggerBalance_kept : Kept fun s => DrainLegal s ∧ TriggerBalance s := fun s t ⟨idle, balance⟩ ran => by
  obtain ⟨idle, owed⟩ := triggersKept_kept s t ⟨idle, triggersOwed_none.2 balance⟩ ran
  exact ⟨idle, triggersOwed_none.1 owed⟩

/-- Settles O60: each balance by the rows that reach its counters; those of the triggers and of the track table together with
DrainLegal, which leaves nothing under way where CLEAR_COUNTERS is allowed. -/
theorem balancesKept : Obligations.BalancesKept :=
  ⟨portBalance_kept, geometryBalance_kept, mergeBalance_kept, motionBalance_kept, triggerBalance_kept, tracksKept_kept,
    zones_carried, bins_carried, runs_carried, records_carried, raw_carried, commands_carried,
    fun _ _ _ _ taken => ⟨clearCounters_anew taken, reset_anew taken⟩, fun _ _ _ => hardReset_anew⟩

end Sys2Proof.Machine
end

section
/-! SUPPORT. STATUS records where there is room, and what a good frame does at a roof port (R1 to R14, R162, R169). -/

namespace Sys2Proof.Machine

set_option Elab.async false

/-- While the reset line is released a row does what it means. -/
theorem exec_live (c : Instr) {s : State} (h : s.held = false) : exec c s = .next (meaning c s) := by
  rw [exec_eq, h, Bool.and_false, if_neg Bool.false_ne_true]

/-! ### Offers that are admitted -/

/-- A STATUS record that class B room admits (R162, R164). -/
theorem offerStatus_room {s : State} (h : s.out.occupancy < 60) (cause : StatusCause) :
    offerStatus s cause = s.onOut fun o => withStatus o (s.statusRecord cause) := by
  have room : s.out.occupancy < Config.classBLimit := h
  simp only [offerStatus, if_pos room, Output.join_eq_withRecord]
  rfl

/-- A record of class B that there is room for (R162). -/
theorem offerB_room {s : State} (h : s.out.occupancy < 60) (f : Frame) :
    offerB s f = s.onOut fun o => withRecord o f := by
  have room : s.out.occupancy < Config.classBLimit := h
  simp only [offerB, if_pos room, Output.join_eq_withRecord]

/-- A STATUS record shows its cause, the operating state and the port states (Table 10-12). -/
theorem showsStatus (s : State) (cause : StatusCause) :
    ShowsStatus (s.statusRecord cause) s.cmd.station cause s.cmd.op s.roof :=
  ⟨rfl, rfl, by
    simp [State.statusRecord, State.record, statusContent, byte, bytes16, bytes32, intBytes32, Port.all], by
    simp [State.statusRecord, State.record, statusContent, byte, Port.all, State.port, Quad.get]⟩

/-- Of the roof a STATUS record shows the port states alone. -/
theorem ShowsStatus.of_states {f : Frame} {station : BitVec 4} {cause : StatusCause} {op : OpState} {r k : Roof}
    (h : ShowsStatus f station cause op r) (same : ∀ p, (k.ports.get p).state = (r.ports.get p).state) :
    ShowsStatus f station cause op k := by
  obtain ⟨kind, address, length, content⟩ := h
  refine ⟨kind, address, length, content.trans ?_⟩
  have h0 : k.ports.h0.state = r.ports.h0.state := same .h0
  have h1 : k.ports.h1.state = r.ports.h1.state := same .h1
  have h2 : k.ports.h2.state = r.ports.h2.state := same .h2
  have h3 : k.ports.h3.state = r.ports.h3.state := same .h3
  rw [h0, h1, h2, h3]

/-! ### One port changes -/

theorem State.onPort_onPort (s : State) (p : Port) (f g : RoofPort → RoofPort) :
    (s.onPort p f).onPort p g = s.onPort p fun c => g (f c) := by
  have ports : (s.roof.ports.modify p f).modify p g = s.roof.ports.modify p fun c => g (f c) := by
    cases p <;> rfl
  simp only [State.onPort, State.onRoof, ports]

theorem onlyPort_onPort (s : State) (p : Port) (f : RoofPort → RoofPort) : OnlyPort p s (s.onPort p f) :=
  ⟨fun q other => by simp [other], rfl⟩

theorem OnlyPort.of_roof {p : Port} {s t u : State} (h : OnlyPort p s t) (k : u.roof = t.roof) : OnlyPort p s u := by
  obtain ⟨others, enabled⟩ := h
  exact ⟨fun q other => by rw [← others q other, State.port, State.port, k], k ▸ enabled⟩

/-! ### A good frame at a roof port -/

/-- A roof port that has counted one good frame more (R4). -/
def RoofPort.oneGood (c : RoofPort) : RoofPort :=
  { c with counters := { c.counters with rx := { c.counters.rx with good := bump c.counters.rx.good } } }

/-- A PROFILE frame that passes the five checks at a port with no frame open (R3, R8, R11). -/
theorem profileFrame_good {s : State} {p : Port} {address : Byte} {payload : List Byte} (clear : (s.port p).frame = none)
    (good : checkIntact (s.portRule (.roof p)) ⟨kindProfile, address, payload⟩ = .good ⟨kindProfile, address, payload⟩) :
    profileFrame s p address payload =
      takeProfile (goodFrame (s.onPort p RoofPort.oneGood) p) p ⟨kindProfile, address, payload⟩ := by
  unfold profileFrame
  dsimp only
  rw [settle_none (r := .roof p) clear, good]
  rfl

/-- A HEAD_REPLY frame that passes the five checks at a port with no frame open (R3, R8, R14). -/
theorem headReplyFrame_good {s : State} {p : Port} {address : Byte} {payload : List Byte}
    (clear : (s.port p).frame = none)
    (good : checkIntact (s.portRule (.roof p)) ⟨kindHeadReply, address, payload⟩ =
      .good ⟨kindHeadReply, address, payload⟩) :
    headReplyFrame s p address payload =
      relayReply (goodFrame (s.onPort p RoofPort.oneGood) p) p ⟨kindHeadReply, address, payload⟩ := by
  unfold headReplyFrame
  dsimp only
  rw [settle_none (r := .roof p) clear, good]
  rfl

/-- A good frame at a port that it does not wake: it restarts the timer of an ACTIVE port (R8). -/
def RoofPort.heard (c : RoofPort) (now : Time) : RoofPort :=
  { c with silence := if c.state = .active then some now else c.silence }

theorem RoofPort.heard_other {c : RoofPort} (h : c.state ≠ .active) (now : Time) : c.heard now = c := by
  rw [RoofPort.heard, if_neg h]

theorem State.onPort_congr {s : State} {p : Port} {f g : RoofPort → RoofPort} (h : f (s.port p) = g (s.port p)) :
    s.onPort p f = s.onPort p g := by
  have ports : s.roof.ports.modify p f = s.roof.ports.modify p g := congrArg (s.roof.ports.set p) h
  simp only [State.onPort, State.onRoof, ports]

/-- A port that keeps what it has leaves the state as it is. -/
theorem State.onPort_same {s : State} {p : Port} {f : RoofPort → RoofPort} (h : f (s.port p) = s.port p) :
    s.onPort p f = s := by
  have ports : s.roof.ports.modify p f = s.roof.ports := Quad.ext_get fun q => by
    rw [Quad.get_modify]
    split
    · next same => rw [same]; exact h
    · rfl
  simp only [State.onPort, State.onRoof, ports]

/-- A good frame at a port that is neither SEEKING nor LOST (R8). -/
theorem goodFrame_heard {s : State} {p : Port}
    (h : (s.port p).state = .disabled ∨ (s.port p).state = .idle ∨ (s.port p).state = .active) :
    goodFrame s p = s.onPort p fun c => c.heard s.timebase := by
  unfold goodFrame
  rcases h with h | h | h
  · rw [h]
    exact (State.onPort_same (RoofPort.heard_other (by simp [h]) _)).symm
  · rw [h]
    exact (State.onPort_same (RoofPort.heard_other (by simp [h]) _)).symm
  · rw [h]
    exact State.onPort_congr (by simp [RoofPort.heard, h])

/-- A good frame makes a SEEKING or LOST port ACTIVE (R5, R8). -/
theorem goodFrame_wakes {s : State} {p : Port} (h : (s.port p).state = .seeking ∨ (s.port p).state = .lost) :
    goodFrame s p =
      offerStatus (s.onPort p fun c => { c with state := .active, silence := some s.timebase }) .portState := by
  unfold goodFrame
  rcases h with h | h <;> rw [h]

end Sys2Proof.Machine
end

section
/-! PROOF. Good frames at the roof ports and the roof downlinks (O9, O11, O12, O13, O22). -/

namespace Sys2Proof.Machine

set_option Elab.async false

theorem State.onOut_port (s : State) (f : Output → Output) (p : Port) : (s.onOut f).port p = s.port p := rfl

/-! ### Discarded PROFILE frames (R11) -/

/-- A port that discards a good PROFILE frame: the frame is counted good, as a PROFILE frame, and under the port's state (R11,
R13). -/
def RoofPort.discardProfile (c : RoofPort) : RoofPort :=
  { c with
    counters :=
      { c.counters with
        rx := { c.counters.rx with good := bump c.counters.rx.good }
        goodProfiles := bump c.counters.goodProfiles
        idleDiscards := if c.state = .idle then bump c.counters.idleDiscards else c.counters.idleDiscards
        disabledDiscards :=
          if c.state = .disabled then bump c.counters.disabledDiscards else c.counters.disabledDiscards } }

theorem profileFrame_discarded {s : State} {p : Port} {address : Byte} {payload : List Byte}
    (clear : (s.port p).frame = none)
    (good : checkIntact (s.portRule (.roof p)) ⟨kindProfile, address, payload⟩ = .good ⟨kindProfile, address, payload⟩)
    (state : (s.port p).state = .disabled ∨ (s.port p).state = .idle) :
    profileFrame s p address payload = s.onPort p RoofPort.discardProfile := by
  have heard : ((s.onPort p RoofPort.oneGood).port p).state = (s.port p).state := by simp [RoofPort.oneGood]
  rw [profileFrame_good clear good, goodFrame_heard (by rw [heard]; exact state.imp_right .inl)]
  unfold takeProfile
  rcases state with state | state
  · simp only [State.countPort, State.onPort_onPort, State.onPort_port, RoofPort.heard, RoofPort.oneGood, state, if_true]
    exact State.onPort_congr (by simp [RoofPort.discardProfile, state])
  · simp only [State.countPort, State.onPort_onPort, State.onPort_port, RoofPort.heard, RoofPort.oneGood, state, if_true]
    exact State.onPort_congr (by simp [RoofPort.discardProfile, state])

/-- Settles O9: a good PROFILE frame at a DISABLED or IDLE port counts at the port alone. -/
theorem profileDiscarded : Obligations.ProfileDiscarded := by
  unfold Obligations.ProfileDiscarded
  intro s p address payload released clear good state
  have run : meaning (.profileFrame p address payload) s = s.onPort p RoofPort.discardProfile :=
    profileFrame_discarded clear good state
  refine ⟨_, exec_live _ released, ?_⟩
  rw [run]
  exact ⟨s.onPort_changes p _, onlyPort_onPort s p _, by simp [RoofPort.discardProfile]⟩

/-! ### HEAD_REPLY frames (R8, R14) -/

/-- A port that relays a good HEAD_REPLY frame (R14). -/
def RoofPort.relayed (c : RoofPort) : RoofPort :=
  { c with counters := { c.counters with relayedReplies := bump c.counters.relayedReplies } }

/-- A reply is relayed at a port that is not DISABLED (R14). -/
theorem relayReply_enabled {s : State} {p : Port} (h : (s.port p).state ≠ .disabled) (f : Frame) :
    relayReply s p f = offerB (s.onPort p RoofPort.relayed) f := by
  unfold relayReply
  split
  · next state => exact absurd state h
  · rfl

/-- A reply is discarded at a DISABLED port (R14). -/
theorem relayReply_disabled {s : State} {p : Port} (h : (s.port p).state = .disabled) (f : Frame) :
    relayReply s p f =
      s.countPort p fun c => { c with disabledReplyDiscards := bump c.disabledReplyDiscards } := by
  unfold relayReply
  rw [h]

/-- Settles O12: at an IDLE or ACTIVE port the reply joins the record queue, at a DISABLED port it is counted alone. -/
theorem replyRelayed : Obligations.ReplyRelayed := by
  unfold Obligations.ReplyRelayed
  intro s p address payload released clear good
  have same : ((s.onPort p RoofPort.oneGood).port p).state = (s.port p).state := by simp [RoofPort.oneGood]
  refine ⟨fun state room => ⟨_, exec_live _ released, ?_⟩, fun state => ⟨_, exec_live _ released, ?_⟩⟩
  · have run : meaning (.headReplyFrame p address payload) s =
        (s.onPort p fun c => (c.oneGood.heard s.timebase).relayed).onOut
          fun o => withRecord o ⟨kindHeadReply, address, payload⟩ := by
      have enabled : ((s.onPort p fun c => c.oneGood.heard s.timebase).port p).state ≠ .disabled := by
        rcases state with state | state <;> simp [RoofPort.heard, RoofPort.oneGood, state]
      show headReplyFrame s p address payload = _
      rw [headReplyFrame_good clear good, goodFrame_heard (by rw [same]; exact .inr state), State.onPort_timebase,
        State.onPort_onPort, relayReply_enabled enabled, State.onPort_onPort, offerB_room (by exact room)]
    rw [run]
    refine ⟨.last (State.onOut_changes _ _) (s.onPort_changes p _).mono, (onlyPort_onPort s p _).of_roof rfl, ?_⟩
    rw [State.onOut_port, State.onPort_port, if_pos rfl]
    exact ⟨rfl, rfl, rfl, rfl⟩
  · have run : meaning (.headReplyFrame p address payload) s = s.onPort p fun c =>
        let d := c.oneGood.heard s.timebase
        { d with counters := { d.counters with disabledReplyDiscards := bump d.counters.disabledReplyDiscards } } := by
      have disabled : ((s.onPort p fun c => c.oneGood.heard s.timebase).port p).state = .disabled := by
        simp [RoofPort.heard, RoofPort.oneGood, state]
      show headReplyFrame s p address payload = _
      rw [headReplyFrame_good clear good, goodFrame_heard (by rw [same]; exact .inl state), State.onPort_timebase,
        State.onPort_onPort, relayReply_disabled disabled, State.countPort, State.onPort_onPort]
    rw [run]
    refine ⟨s.onPort_changes p _, onlyPort_onPort s p _, ?_⟩
    simp [RoofPort.heard, RoofPort.oneGood, state]

/-- A SEEKING or LOST port that a good frame wakes (R5, R8). -/
def RoofPort.woken (c : RoofPort) (now : Time) : RoofPort := { c with state := .active, silence := some now }

theorem withStatus_occupancy (o : Output) (f : Frame) : (withStatus o f).occupancy = o.occupancy + 1 := by
  simp only [withStatus, withRecord, Output.occupancy, List.length_append, List.length_singleton]
  omega

/-- A good frame has closed at a port and woken it. -/
def wokenPort (s : State) (p : Port) : State := s.onPort p fun c => c.oneGood.woken s.timebase

/-- Settles O11: the port becomes ACTIVE, then the STATUS record and the reply join the record queue. -/
theorem replyWakesPort : Obligations.ReplyWakesPort := by
  unfold Obligations.ReplyWakesPort
  intro s p address payload released clear closed room good state
  have same : ((s.onPort p RoofPort.oneGood).port p).state = (s.port p).state := by simp [RoofPort.oneGood]
  have space : s.out.occupancy < 59 := by simpa [Output.occupancy, closed] using room
  have run : meaning (.headReplyFrame p address payload) s =
      (((wokenPort s p).onOut fun o => withStatus o ((wokenPort s p).statusRecord .portState)).onPort p RoofPort.relayed).onOut
        fun o => withRecord o ⟨kindHeadReply, address, payload⟩ := by
    have wakes : goodFrame (s.onPort p RoofPort.oneGood) p = offerStatus (wokenPort s p) .portState := by
      rw [goodFrame_wakes (by rw [same]; exact state), State.onPort_onPort]
      rfl
    have enabled : (((wokenPort s p).onOut fun o => withStatus o ((wokenPort s p).statusRecord .portState)).port p).state ≠ .disabled := by
      rw [State.onOut_port]
      simp [wokenPort, RoofPort.woken]
    show headReplyFrame s p address payload = _
    rw [headReplyFrame_good clear good, wakes, offerStatus_room (s := wokenPort s p) (show s.out.occupancy < 60 by omega),
      relayReply_enabled enabled, offerB_room]
    show (withStatus s.out _).occupancy < 60
    rw [withStatus_occupancy]
    omega
  refine ⟨_, (wokenPort s p).statusRecord .portState, exec_live _ released, ?_⟩
  rw [run]
  refine ⟨.last (State.onOut_changes _ _) (.last (State.onPort_changes _ p _)
    (.last (State.onOut_changes _ _) (s.onPort_changes p _).mono)), ?_, ?_, ?_, rfl⟩
  · refine OnlyPort.of_roof (t := (wokenPort s p).onPort p RoofPort.relayed) ?_ rfl
    rw [wokenPort, State.onPort_onPort]
    exact onlyPort_onPort s p _
  · rw [State.onOut_port, State.onPort_port, if_pos rfl, State.onOut_port, wokenPort, State.onPort_port, if_pos rfl]
    rfl
  · refine (showsStatus (wokenPort s p) .portState).of_states fun q => ?_
    show (((wokenPort s p).onPort p RoofPort.relayed).port q).state = ((wokenPort s p).port q).state
    rw [State.onPort_port]
    split
    · next at_ => rw [at_]; rfl
    · rfl

/-! ### The roof downlinks (R15 to R17, R44) -/

/-- A free downlink starts the waiting TRIGGER, else the relay slot's frame (R17). -/
theorem RoofPort.startDownlink_idle {c : RoofPort} (h : c.tx = .idle) :
    c.startDownlink =
      { c with
        waiting := none
        tx := match c.waiting with
          | some f => .trigger f
          | none => if c.relay.isSome then .config else .idle } := by
  obtain ⟨state, frame, silence, headId, waiting, relay, tx, forwardCount, counters⟩ := c
  subst h
  cases waiting with
  | some f => rfl
  | none => cases relay <;> rfl

/-- Settles O13: the frame is counted sent and the downlink, free again, starts the next one. -/
theorem downlinkGoesOn : Obligations.DownlinkGoesOn := by
  unfold Obligations.DownlinkGoesOn
  intro s p released busy
  refine ⟨_, exec_live _ released, s.onPort_changes p _, onlyPort_onPort s p _, ?_⟩
  have port : (meaning (.downlinkEndDelimiter p) s).port p = (s.port p).downlinkEnd := by
    show (s.onPort p RoofPort.downlinkEnd).port p = _
    simp
  rw [port]
  unfold RoofPort.downlinkEnd
  split
  · next idle => exact absurd idle busy
  · next f sending =>
    rw [RoofPort.startDownlink_idle rfl]
    cases waiting : (s.port p).waiting <;> simp [sending]
  · next sending =>
    rw [RoofPort.startDownlink_idle rfl]
    cases waiting : (s.port p).waiting <;> simp [sending]

/-- A TRIGGER frame that is requested is sent at once by a free downlink, and otherwise waits (R15). -/
theorem RoofPort.requestTrigger_eq (c : RoofPort) (scan : Word16) (exposure : Nat) :
    c.requestTrigger scan exposure =
      { c with
        tx := if c.tx = .idle then .trigger (c.triggerFrame scan exposure) else c.tx
        waiting := if c.tx = .idle then none else some (c.triggerFrame scan exposure)
        counters :=
          if c.waiting = none then c.counters
          else { c.counters with triggerReplacements := bump c.counters.triggerReplacements } } := by
  obtain ⟨state, frame, silence, headId, waiting, relay, tx, forwardCount, counters⟩ := c
  cases tx <;> cases waiting <;> rfl

/-- Settles O22: the slot's line is asserted and its TRIGGER frame is sent at once or waits. -/
theorem slotBegins : Obligations.SlotBegins := by
  unfold Obligations.SlotBegins
  intro s q k rest released slots idle remaining due
  have start : slotDue s k.port = some (q, k, rest) := by
    simp only [slotDue, slots, idle, remaining]
    exact if_pos ⟨trivial, due⟩
  have run : meaning (.slotStart k.port) s =
      (s.onSeq fun m => { m with
        slots := some { q with current := some k, remaining := rest }, lines := m.lines.set k.port true }).onPort k.port
          fun c => c.requestTrigger q.scan k.exposure := by
    show slotStart s k.port = _
    unfold slotStart
    rw [start]
  refine ⟨_, exec_live _ released, ?_⟩
  rw [run]
  refine ⟨.last (State.onPort_changes _ _ _) (s.onSeq_changes _).mono, onlyPort_onPort (s.onSeq _) k.port _, rfl, ?_⟩
  rw [State.onPort_port, if_pos rfl]
  show (s.port k.port).requestTrigger q.scan k.exposure = _
  rw [RoofPort.requestTrigger_eq]
  rfl

end Sys2Proof.Machine
end

section
/-! PROOF. Commands that are taken: HEAD_PASS, SET_HEADS and START (O43, O51, O52). -/

namespace Sys2Proof.Machine

set_option Elab.async false

/-! ### The answer to a command that is taken -/

/-- A body that leaves the output and command units as they were taken: the command is answered by its REPLY (R163, R173). -/
theorem answered_of_body {s u : State} (out : u.out = (takenState s).out) (cmd : u.cmd = (takenState s).cmd)
    (code tag : Byte) (r : Reply) : Answered s (queueReply u code tag r) code tag r := by
  rw [queueReply_eq]
  simp only [Answered, out, cmd]
  exact ⟨rfl, rfl⟩

/-- A body that changes nothing: the command only answers. -/
theorem onlyAnswers_taken (s : State) (code tag : Byte) (r : Reply) :
    OnlyAnswers s (queueReply (takenState s) code tag r) code tag r := by
  refine onlyAnswers_of_eq ?_
  rw [queueReply_eq]
  rfl

/-- What the body changes, the command changes, and the output and command units with it. -/
theorem taken_changes {parts : List Part} {s u : State} (k : OnlyChanges parts (takenState s) u) (code tag : Byte)
    (r : Reply) (ho : Part.out ∈ parts := by decide) (hc : Part.cmd ∈ parts := by decide) :
    OnlyChanges parts s (queueReply u code tag r) := by
  have sub : [Part.out, Part.cmd] ⊆ parts := by simp [ho, hc]
  have opened : OnlyChanges [.out, .cmd] s (takenState s) := Quiet.changes ⟨_, _, _, _, rfl⟩
  exact .last (queueReply_quiet u code tag r).changes (.last k (opened.mono sub) (List.Subset.refl _)) sub

/-! ### HEAD_PASS (R16) -/

theorem portOfIndex_index (p : Port) : Port.ofIndex p.index = some p := by
  cases p <;> rfl

theorem portOfIndex_none {n : Nat} (h : 3 < n) : Port.ofIndex n = none := by
  match n with
  | n + 4 => rfl

/-- A HEAD_CONFIG frame that is placed: an idle downlink starts it unless a TRIGGER waits (R16, R17). -/
theorem RoofPort.placeRelay_eq (c : RoofPort) (bytes : List Byte) :
    c.placeRelay bytes =
      { c with
        relay := some ⟨kindHeadConfig, c.headId, bytes⟩
        waiting := if c.tx = .idle then none else c.waiting
        tx := match c.tx, c.waiting with
          | .idle, some f => .trigger f
          | .idle, none => .config
          | tx, _ => tx } := by
  obtain ⟨state, frame, silence, headId, waiting, relay, tx, forwardCount, counters⟩ := c
  cases tx <;> cases waiting <;> rfl

theorem headPass_beyond {n : Byte} (h : 3 < n.toNat) (bytes : List Byte) (s : State) :
    headPass (n :: bytes) s = (s, { result := .badArgument }) := by
  have none_ : Port.ofIndex (byteAt (n :: bytes) 0).toNat = none := portOfIndex_none h
  simp only [headPass, none_]

/-- HEAD_PASS at a port: enabled and with an empty relay slot it places the frame (R16). -/
theorem headPass_port {n : Byte} {p : Port} (h : n.toNat = p.index) (bytes : List Byte) (s : State) :
    headPass (n :: bytes) s =
      if (!s.roof.enabled.get p) = true then (s, { result := .badArgument })
      else if (s.port p).relay.isSome = true then (s, { result := .queueFull })
      else (s.onPort p fun c => c.placeRelay bytes, { result := .done }) := by
  have at_ : Port.ofIndex (byteAt (n :: bytes) 0).toNat = some p := (congrArg Port.ofIndex h).trans (portOfIndex_index p)
  simp only [headPass, at_]
  rfl

theorem headPass_off {n : Byte} {p : Port} (h : n.toNat = p.index) {s : State} (off : s.roof.enabled.get p = false)
    (bytes : List Byte) : headPass (n :: bytes) s = (s, { result := .badArgument }) := by
  rw [headPass_port h, if_pos (by simp [off])]

theorem headPass_full {n : Byte} {p : Port} (h : n.toNat = p.index) {s : State} (on : s.roof.enabled.get p = true)
    (full : (s.port p).relay ≠ none) (bytes : List Byte) : headPass (n :: bytes) s = (s, { result := .queueFull }) := by
  rw [headPass_port h, if_neg (by simp [on]), if_pos (Option.isSome_iff_ne_none.2 full)]

theorem headPass_free {n : Byte} {p : Port} (h : n.toNat = p.index) {s : State} (on : s.roof.enabled.get p = true)
    (free : (s.port p).relay = none) (bytes : List Byte) :
    headPass (n :: bytes) s = (s.onPort p fun c => c.placeRelay bytes, { result := .done }) := by
  rw [headPass_port h, if_neg (by simp [on]), if_neg (by simp [free])]

/-- Settles O51. -/
theorem headPassed : Obligations.HeadPassed := by
  unfold Obligations.HeadPassed
  intro s address tag n bytes taken some_ fits
  have length : (decide (2 ≤ (n :: bytes).length) && decide ((n :: bytes).length ≤ 65)) = true := by
    simp
    omega
  refine ⟨_, exec_taken (c := .headPass address tag (n :: bytes)) rfl taken length rfl, ?_⟩
  dsimp only
  refine ⟨fun beyond => ?_, fun p at_ => ⟨fun off => ?_, fun on full => ?_, fun on free => ?_⟩⟩
  · rw [headPass_beyond beyond]
    exact onlyAnswers_taken s _ tag _
  · rw [headPass_off at_ (s := takenState s) off]
    exact onlyAnswers_taken s _ tag _
  · rw [headPass_full at_ (s := takenState s) on full]
    exact onlyAnswers_taken s _ tag _
  · rw [headPass_free at_ (s := takenState s) on free]
    have roof : (queueReply ((takenState s).onPort p fun c => c.placeRelay bytes) 0x30 tag { result := .done }).roof =
        (s.onPort p fun c => c.placeRelay bytes).roof := rfl
    refine ⟨taken_changes ((State.onPort_changes _ p _).mono) _ _ _, (onlyPort_onPort s p _).of_roof roof,
      answered_of_body rfl rfl _ _ _, ?_⟩
    rw [State.port, roof]
    exact (s.onPort_port p p _).trans ((if_pos rfl).trans (RoofPort.placeRelay_eq _ _))

/-! ### SET_HEADS (R6, R177) -/

theorem RoofPort.underMask_on (c : RoofPort) :
    c.underMask true = if c.state = .disabled then { c with state := .idle } else c := by
  obtain ⟨state, frame, silence, headId, waiting, relay, tx, forwardCount, counters⟩ := c
  cases state <;> rfl

/-- An IDLE port that leaves the mask: a HEAD_CONFIG frame that only waits is discarded (R6). -/
theorem RoofPort.underMask_leaves {c : RoofPort} (h : c.state = .idle) :
    c.underMask false =
      { c with
        state := .disabled
        relay := if c.relay ≠ none ∧ c.tx ≠ .config then none else c.relay
        counters :=
          if c.relay ≠ none ∧ c.tx ≠ .config then { c.counters with configDiscards := bump c.counters.configDiscards }
          else c.counters } := by
  obtain ⟨state, frame, silence, headId, waiting, relay, tx, forwardCount, counters⟩ := c
  subst h
  cases relay <;> cases tx <;> rfl

theorem RoofPort.underMask_stays {c : RoofPort} (h : c.state ≠ .idle) : c.underMask false = c := by
  unfold RoofPort.underMask
  split
  · next on => cases on
  · next idle _ => exact absurd idle h
  · rfl

/-- The port set that SET_HEADS carries (R177). -/
def headMask (mask : Byte) : PortSet := ⟨mask.getLsbD 0, mask.getLsbD 1, mask.getLsbD 2, mask.getLsbD 3⟩

/-- The state in which a new mask has taken effect (R6). -/
def underHeads (s : State) (mask : Byte) : State := s.onRoof fun r => r.withMask (headMask mask)

/-- What a new mask that fits does: a mask that differs is told in a STATUS record (R177). -/
def takeHeads (s : State) (mask : Byte) : State :=
  if headMask mask = s.roof.enabled then underHeads s mask else offerStatus (underHeads s mask) .heads

/-- SET_HEADS with a mask that does not fit (R177). -/
theorem setHeads_refused {mask : Byte} {s : State}
    (h : ¬(mask.toNat ≤ 15 ∧ ∀ p, (headMask mask).get p = true → s.cmd.present.get p = true)) :
    setHeads [mask] s = (s, { result := .badArgument }) := by
  have wrong : 15 < mask.toNat ∨ (!(headMask mask).subset s.cmd.present) = true := by
    by_contra right
    refine h ⟨by omega, (Quad.subset_iff _ _).1 ?_⟩
    simpa using fun k => right (.inr k)
  exact if_pos wrong

/-- SET_HEADS with a mask that fits (R177). -/
theorem setHeads_done {mask : Byte} {s : State} (small : mask.toNat ≤ 15)
    (present : ∀ p, (headMask mask).get p = true → s.cmd.present.get p = true) :
    setHeads [mask] s = (takeHeads s mask, { result := .done, data := [mask] }) := by
  have right : ¬(15 < mask.toNat ∨ (!(headMask mask).subset s.cmd.present) = true) := by
    simp [(Quad.subset_iff _ _).2 present]
    omega
  have data : byte (byteAt [mask] 0).toNat = [mask] := by simp [byte, byteAt]
  refine (if_neg right).trans ?_
  rw [data]
  rfl

theorem underHeads_port (s : State) (mask : Byte) (p : Port) :
    (underHeads s mask).port p = (s.port p).underMask ((headMask mask).get p) := Quad.get_ofFn _ p

/-- Settles O43. -/
theorem headsSet : Obligations.HeadsSet := by
  unfold Obligations.HeadsSet
  intro s address tag mask taken op
  refine ⟨_, exec_taken (c := .setHeads address tag [mask]) rfl taken rfl (standbyOnly_iff.2 op), ?_, ?_⟩
  · intro wrong
    dsimp only
    rw [setHeads_refused (s := takenState s) wrong]
    exact onlyAnswers_taken s _ tag _
  · intro ⟨small, present⟩
    dsimp only
    rw [setHeads_done (s := takenState s) small present]
    have told : OnlyChanges [.out] (underHeads (takenState s) mask) (takeHeads (takenState s) mask) :=
      .ite .rfl (offerStatus_changes _ _)
    have same : headMask mask = s.roof.enabled → takeHeads (takenState s) mask = underHeads (takenState s) mask :=
      fun same => if_pos same
    have other : headMask mask ≠ s.roof.enabled →
        takeHeads (takenState s) mask = offerStatus (underHeads (takenState s) mask) .heads := fun other => if_neg other
    generalize takeHeads (takenState s) mask = u at told same other ⊢
    dsimp only
    have roof : u.roof = (underHeads s mask).roof := told.1 .roof (by decide)
    have cmd : u.cmd = (takenState s).cmd := told.1 .cmd (by decide)
    have port : ∀ p, (queueReply u 0x10 tag { result := .done, data := [mask] }).port p =
        (s.port p).underMask ((headMask mask).get p) := fun p => by
      show u.roof.ports.get p = _
      rw [roof]
      exact underHeads_port s mask p
    refine ⟨taken_changes (.last told (State.onRoof_changes _ _).mono) _ _ _, ?_, ?_, fun p on => ?_, fun p off idle => ?_,
      fun p off busy => ?_, fun still => ?_, fun moved room => ?_⟩
    · rw [queueReply_eq, cmd]
      rfl
    · show u.roof.enabled = _
      rw [roof]
      rfl
    · rw [port, show (headMask mask).get p = true from on, RoofPort.underMask_on]
    · rw [port, show (headMask mask).get p = false from off, RoofPort.underMask_leaves idle]
    · rw [port, show (headMask mask).get p = false from off, RoofPort.underMask_stays busy]
    · rw [same still, queueReply_eq]
      rfl
    · have space : (underHeads (takenState s) mask).out.occupancy < 60 := room
      have shows := showsStatus (underHeads (takenState s) mask) .heads
      rw [show (underHeads (takenState s) mask).cmd.op = .standby from op] at shows
      refine ⟨_, shows.of_states fun p => ?_, ?_⟩
      · rw [show (queueReply u _ _ _).roof = u.roof from rfl, roof]
        rfl
      · rw [other moved, offerStatus_room space, queueReply_eq]
        rfl

end Sys2Proof.Machine
end

section
/-! PROOF. START: its five checks in their order, and the run that it begins (O52). -/

namespace Sys2Proof.Machine

set_option Elab.async false

/-! ### The first port that fails a check -/

/-- The first port of a set with a property is the one with no other below it. -/
theorem members_find {q : PortSet} {f : Port → Bool} {p : Port} (on : q.get p = true) (holds : f p = true)
    (least : ∀ r : Port, r.index < p.index → q.get r = true → f r = false) : q.members.find? f = some p := by
  have below : ∀ r : Port, r.index < p.index → (q.get r && f r) = false := fun r hr => by
    cases hq : q.get r
    · rfl
    · simp [least r hr hq]
  rw [Quad.members, List.find?_filter]
  cases p
  case h0 => simp [Port.all, on, holds]
  case h1 => simp [Port.all, on, holds, below .h0 (by decide)]
  case h2 => simp [Port.all, on, holds, below .h0 (by decide), below .h1 (by decide)]
  case h3 => simp [Port.all, on, holds, below .h0 (by decide), below .h1 (by decide), below .h2 (by decide)]

theorem members_find_none {q : PortSet} {f : Port → Bool} (h : ∀ p, q.get p = true → f p = false) :
    q.members.find? f = none :=
  List.find?_eq_none.2 fun p hp => by simp [h p ((Quad.mem_members q p).1 hp)]

/-- Some lower enabled port has the same priority (R179). -/
def SharesPriority (s : State) (p : Port) : Prop :=
  ∃ q : Port, q.index < p.index ∧ s.roof.enabled.get q = true ∧
    (s.geo.cal.get q).cal.priority = (s.geo.cal.get p).cal.priority

theorem sharesPriority_iff (s : State) (p : Port) :
    (s.roof.enabled.members.any fun o =>
      decide (o.index < p.index) && (s.geo.cal.get o).cal.priority == (s.geo.cal.get p).cal.priority) = true ↔
        SharesPriority s p := by
  simp only [List.any_eq_true, Quad.mem_members, Bool.and_eq_true, decide_eq_true_eq, beq_iff_eq, SharesPriority]
  exact ⟨fun ⟨q, on, below, same⟩ => ⟨q, below, on, same⟩, fun ⟨q, below, on, same⟩ => ⟨q, on, below, same⟩⟩

/-! ### The checks of START in their order (R179) -/

/-- The default wire type is loaded. -/
def WireLoaded (s : State) : Prop :=
  ∃ w, s.merge.slots[s.cmd.params.defaultWire]? = some w ∧ w.loaded = true

theorem wireLoaded_iff (s : State) :
    ((s.merge.slots[s.cmd.params.defaultWire]?).any (·.loaded)) = true ↔ WireLoaded s := by
  unfold WireLoaded
  cases s.merge.slots[s.cmd.params.defaultWire]? <;> simp

theorem startFailure_empty {s : State} (h : ∀ p, ¬s.roof.enabled.get p = true) :
    startFailure s = some (.badArgument, 0) := by
  have empty : s.roof.enabled.isEmpty = true := (Quad.isEmpty_iff _).2 fun p => by simpa using h p
  simp only [startFailure, empty, if_true]

/-- Some port is enabled. -/
theorem enabled_some {s : State} {p : Port} (on : s.roof.enabled.get p = true) : s.roof.enabled.isEmpty = false := by
  cases h : s.roof.enabled.isEmpty
  · rfl
  · rw [(Quad.isEmpty_iff _).1 h p] at on
    cases on

theorem startFailure_unloaded {s : State} {p : Port} (on : s.roof.enabled.get p = true)
    (missing : ¬(s.geo.cal.get p).loaded = true)
    (least : ∀ q : Port, q.index < p.index → s.roof.enabled.get q = true → (s.geo.cal.get q).loaded = true) :
    startFailure s = some (.notLoaded, p.index) := by
  have first : unloadedPort s = some p :=
    members_find on (by simpa using missing) fun r below hr => by simp [least r below hr]
  simp only [startFailure, enabled_some on, first]
  rfl

/-- With every enabled port's set loaded the later checks decide. -/
theorem startFailure_loaded {s : State} (some_ : ∃ p, s.roof.enabled.get p = true)
    (loaded : ∀ p, s.roof.enabled.get p = true → (s.geo.cal.get p).loaded = true) :
    startFailure s =
      match sharedPriority s with
      | some p => some (.badPriority, p.index)
      | none =>
        if !((s.merge.slots[s.cmd.params.defaultWire]?).any (·.loaded)) then
          some (.notLoaded, 16 + s.cmd.params.defaultWire)
        else if Config.planLimit < s.seq.active.length s.roof.enabled then some (.planTooLong, 0)
        else none := by
  obtain ⟨p, on⟩ := some_
  have none_ : unloadedPort s = none := members_find_none fun p hp => by simp [loaded p hp]
  simp only [startFailure, enabled_some on, none_]
  rfl

theorem sharedPriority_first {s : State} {p : Port} (on : s.roof.enabled.get p = true) (shares : SharesPriority s p)
    (least : ∀ q : Port, q.index < p.index → s.roof.enabled.get q = true → ¬SharesPriority s q) :
    sharedPriority s = some p :=
  members_find on ((sharesPriority_iff s p).2 shares) fun r below hr => by
    have alone := least r below hr
    rwa [← sharesPriority_iff, Bool.not_eq_true] at alone

theorem sharedPriority_none {s : State} (h : ∀ p, s.roof.enabled.get p = true → ¬SharesPriority s p) :
    sharedPriority s = none :=
  members_find_none fun p hp => by
    have alone := h p hp
    rwa [← sharesPriority_iff, Bool.not_eq_true] at alone

/-! ### The run that begins -/

theorem RoofPort.begin_eq (c : RoofPort) (now : Time) :
    c.begin_ now =
      if c.state = .idle then { c with state := .seeking, silence := some now, forwardCount := 0 }
      else { c with forwardCount := 0 } := by
  obtain ⟨state, frame, silence, headId, waiting, relay, tx, forwardCount, counters⟩ := c
  cases state <;> rfl

/-- The state in which a run has begun, before its STATUS record (R7, R18, R27, R29, R67, R141, R179). -/
def runningState (s : State) : State :=
  { s with
    roof := { s.roof with ports := Quad.ofFn fun p => (s.roof.ports.get p).begin_ s.timebase }
    motion := { s.motion with sinceStart := false }
    odo := { s.odo with divider := s.odo.spacing }
    zones := { s.zones with current := false, flushMark := false, exhausted := false }
    span := { s.span with prevSense := s.odo.sense, prevEpoch := s.odo.epoch }
    cmd := { s.cmd with op := .running } }

theorem beginRun_eq (s : State) : beginRun s = offerStatus (runningState s) .operatingState := rfl

theorem runningState_changes (s : State) :
    OnlyChanges [.roof, .motion, .odo, .zones, .span, .cmd] s (runningState s) :=
  ⟨fun p hp => by cases p <;> simp_all [Agree, runningState], rfl⟩

theorem startRun_refused {s : State} {r : Result} {i : Nat} (h : startFailure s = some (r, i)) :
    startRun s = (s, { result := r, detail := i }) := by
  simp only [startRun, h]

theorem startRun_done {s : State} (h : startFailure s = none) : startRun s = (beginRun s, { result := .done }) := by
  simp only [startRun, h]

/-- Settles O52: the first of the five checks that fails refuses START; where none does, the run begins. -/
theorem runStarts : Obligations.RunStarts := by
  unfold Obligations.RunStarts
  intro s address tag taken op
  refine ⟨_, exec_taken (c := .start address tag []) rfl taken rfl (standbyOnly_iff.2 op), ?_⟩
  dsimp only
  have refused : ∀ {r i}, startFailure (takenState s) = some (r, i) →
      OnlyAnswers s (queueReply (startRun (takenState s)).1 0x40 tag (startRun (takenState s)).2) 0x40 tag
        { result := r, detail := i } := fun h => by
    rw [startRun_refused h]
    exact onlyAnswers_taken s _ tag _
  refine ⟨fun some_ loaded apart wire fits => ?_, fun none_ => refused (startFailure_empty none_),
    fun p on missing least => refused (startFailure_unloaded on missing least), fun some_ loaded => ?_⟩
  · have alone : ∀ p, s.roof.enabled.get p = true → ¬SharesPriority s p := fun p on ⟨q, below, other, same⟩ =>
      apart q p other on (fun h => by rw [h] at below; exact Nat.lt_irrefl _ below) same
    have passes : startFailure (takenState s) = none := by
      rw [startFailure_loaded (s := takenState s) some_ loaded, sharedPriority_none (s := takenState s) alone]
      dsimp only
      rw [(wireLoaded_iff (takenState s)).2 wire]
      exact if_neg (Nat.not_lt.2 fits)
    rw [startRun_done passes, beginRun_eq]
    have told := offerStatus_changes (runningState (takenState s)) .operatingState
    have admitted := offerStatus_room (s := runningState (takenState s)) (cause := .operatingState)
    generalize offerStatus (runningState (takenState s)) .operatingState = u at told admitted ⊢
    have roof : u.roof = (runningState s).roof := told.1 .roof (by decide)
    have cmd : u.cmd = (runningState (takenState s)).cmd := told.1 .cmd (by decide)
    refine ⟨taken_changes (.last told (runningState_changes _).mono) _ _ _, ?_, (congrArg Roof.enabled roof : u.roof.enabled = _), fun p => ?_,
      told.1 .motion (by decide), told.1 .odo (by decide), told.1 .zones (by decide), told.1 .span (by decide),
      fun room => ?_⟩
    · rw [queueReply_eq, cmd]
      rfl
    · rw [← RoofPort.begin_eq]
      show u.roof.ports.get p = _
      rw [roof]
      exact Quad.get_ofFn _ p
    · refine ⟨_, (showsStatus (runningState (takenState s)) .operatingState).of_states fun p => ?_, ?_⟩
      · rw [show (queueReply u _ _ _).roof = u.roof from rfl, roof]
        rfl
      · rw [admitted room, queueReply_eq]
        rfl
  · refine ⟨fun p on shares least => refused ?_, fun alone unloaded => refused ?_, fun alone wire long => refused ?_⟩
    · rw [startFailure_loaded (s := takenState s) some_ loaded, sharedPriority_first (s := takenState s) on shares least]
    · rw [startFailure_loaded (s := takenState s) some_ loaded, sharedPriority_none (s := takenState s) alone]
      have missing : ((takenState s).merge.slots[(takenState s).cmd.params.defaultWire]?).any (·.loaded) = false := by
        rw [← Bool.not_eq_true, wireLoaded_iff]
        exact unloaded
      simp only [missing]
      rfl
    · rw [startFailure_loaded (s := takenState s) some_ loaded, sharedPriority_none (s := takenState s) alone]
      dsimp only
      rw [(wireLoaded_iff (takenState s)).2 wire]
      exact if_pos long

end Sys2Proof.Machine
end

section
/-! PROOF. Steps and the reset state (O1, O54). -/

namespace Sys2Proof.Machine

set_option Elab.async false

/-! ### State.reset -/

/-- The state that HARD_RESET_END leaves with the model's straps, line levels and link (log entries 2 and 3). -/
theorem hardResetEnd_reset {s : State} (pending : s.pending = []) (link : s.out.linkUp = false) :
    offerStatus (hardValues s 0 ⟨true, true, true, true⟩ false false) .operatingState = State.reset := by
  have same : hardValues s 0 ⟨true, true, true, true⟩ false false =
      hardValues State.reset 0 ⟨true, true, true, true⟩ false false := by
    simp only [hardValues, pending, link]
    rfl
  rw [same]
  rfl

theorem reset_capacity : Capacity State.reset where
  frames r w open_ := by
    rcases r with p | _ | _
    · cases p <;> cases open_
    · cases open_
    · cases open_
  record := nofun
  rawHead := nofun
  records := by decide
  closed := rfl
  raw := by decide
  contexts := by decide
  zones := by decide
  slots := rfl
  wires := rfl

theorem reset_portsLegal : PortsLegal State.reset where
  port p := by
    cases p <;> exact ⟨by decide, by decide, by decide, by decide, by decide⟩
  present p := by cases p <;> decide

theorem reset_contextsLegal : ContextsLegal State.reset where
  four := by decide
  numbers i h := by cases h
  oldest c h := by cases h
  waits c hc := absurd hc List.not_mem_nil
  strobed c hc := absurd hc List.not_mem_nil
  absent c hc := absurd hc List.not_mem_nil

theorem reset_tracksLegal : TracksLegal State.reset where
  slots := rfl
  ids := by decide
  range t ht := absurd ht List.not_mem_nil
  next := by decide
  slope t ht := absurd ht List.not_mem_nil
  misses t ht := absurd ht List.not_mem_nil

theorem reset_zonesLegal : ZonesLegal State.reset where
  room := by decide
  bounds e he := absurd he List.not_mem_nil
  order := .nil
  current h := absurd h Bool.false_ne_true

theorem reset_odometerLegal : OdometerLegal State.reset where
  low := by decide
  high := by decide
  spacing := by decide
  divider := by decide

theorem reset_plansLegal : PlansLegal State.reset where
  active := ⟨fun p => by cases p <;> decide, by decide, by decide⟩
  staged p h := by cases h
  activeLength h := absurd rfl h
  stagedLength p h := by cases h
  standby _ := rfl
  drain := by decide

theorem reset_runsLegal : RunsLegal State.reset where
  keys := .nil
  kinds r hr := absurd hr List.not_mem_nil
  count r h := by cases h

theorem reset_spanFollows : SpanFollows State.reset where
  bins := by decide
  runs := .nil
  follows _ := Iff.rfl

theorem reset_balances :
    PortBalance State.reset ∧ GeometryBalance State.reset ∧ MergeBalance State.reset ∧ MotionBalance State.reset ∧
      TriggerBalance State.reset ∧ TrackBalance State.reset :=
  ⟨fun p _ => by cases p <;> rfl, fun p _ => by cases p <;> exact ⟨rfl, Nat.le_refl _⟩, fun _ => ⟨rfl, rfl, rfl⟩,
    fun _ => rfl, triggersOwed_none.1 triggersOwed_reset, trackBalance_iff.2 ⟨balanced_fresh, listsNumbered_reset⟩⟩

/-- Settles O54: HARD_RESET_END leaves State.reset, in which every store is empty and every counter but that of the one record
is 0. -/
theorem resetIsLegal : Obligations.ResetIsLegal := by
  unfold Obligations.ResetIsLegal
  obtain ⟨ports, geometry, merge, motion, triggers, tracks⟩ := reset_balances
  refine ⟨fun s pending link => ?_, reset_capacity, reset_portsLegal, linesLegal_dark rfl rfl, reset_contextsLegal,
    reset_tracksLegal, reset_zonesLegal, reset_odometerLegal, reset_plansLegal, reset_runsLegal, drainLegal_reset,
    ⟨by decide, .nil, fun _ _ h => by cases h⟩, reset_spanFollows, ports, geometry, merge, motion, triggers, tracks, rfl, rfl, rfl, rfl, rfl,
    rfl⟩
  rw [← hardResetEnd_reset pending link]
  rfl

/-! ### The step (section 0.5) -/

/-- The slot start whose offset has come (R43). -/
def dueStart (s : State) (q : SlotSequence) : List Instr :=
  match q.remaining with
  | [] => []
  | k :: _ => if k.offset ≤ elapsed s.timebase q.trigger then [.slotStart k.port] else []

theorem dueStart_eq (s : State) (q : SlotSequence) :
    ((q.remaining.head?.toList.filter fun slot => decide (slot.offset ≤ elapsed s.timebase q.trigger)).map
      (·.port)).map Instr.slotStart = dueStart s q := by
  unfold dueStart
  cases q.remaining with
  | nil => rfl
  | cons k rest => by_cases due : k.offset ≤ elapsed s.timebase q.trigger <;> simp [due]

theorem dueSlots_none {s : State} (h : s.seq.slots = none) : dueSlots s = [] := by
  simp only [dueSlots, h]

/-- Where no slot is exposed the next one starts at its offset (R43). -/
theorem dueSlots_waiting {s : State} {q : SlotSequence} (h : s.seq.slots = some q) (hc : q.current = none) :
    dueSlots s = dueStart s q := by
  simp only [dueSlots, h, currentSlotPort, hc, Option.map_none, Option.toList_none, List.filter_nil, Option.isNone_none,
    Bool.true_or, if_true, List.map_nil, List.nil_append]
  exact dueStart_eq s q

/-- A slot that is exposed ends after its exposure, and the next one may start at the same time (R43, R44). -/
theorem dueSlots_exposing {s : State} {q : SlotSequence} {k : Slot} (h : s.seq.slots = some q) (hc : q.current = some k) :
    dueSlots s =
      if k.offset + k.exposure ≤ elapsed s.timebase q.trigger then .exposureEnd k.port :: dueStart s q else [] := by
  have ends : (exposureDue s k.port).isSome = decide (k.offset + k.exposure ≤ elapsed s.timebase q.trigger) := by
    unfold exposureDue
    by_cases due : k.offset + k.exposure ≤ elapsed s.timebase q.trigger <;> simp [h, hc, due]
  have starts := dueStart_eq s q
  by_cases due : k.offset + k.exposure ≤ elapsed s.timebase q.trigger
  · simp only [due, decide_true] at ends
    simp only [dueSlots, h, currentSlotPort, hc, Option.map_some, Option.toList_some, List.filter_cons, ends, if_true,
      List.filter_nil, Option.isNone_some, Bool.false_or, List.isEmpty_cons, Bool.not_false, List.map_cons, List.map_nil,
      List.singleton_append, due]
    rw [starts]
  · simp only [due, decide_false] at ends
    simp [dueSlots, h, currentSlotPort, hc, ends, due]

/-- With no command waiting, a step takes the events that are due, or lets a microsecond pass (log entry 1). -/
theorem step_idle {s : State} (empty : s.pending = []) :
    (s.held = true ∨ dueEvents s = [] → step s = .next { s with timebase := s.timebase + 1 }) ∧
      (s.held = false → dueEvents s ≠ [] → step s = .next { s with pending := dueEvents s }) := by
  have run : step s = .next (idle s) := by simp only [step, empty]
  rw [run]
  refine ⟨fun h => ?_, fun released some_ => ?_⟩
  · have none_ : (if s.held then [] else dueEvents s) = [] := by
      rcases h with h | h <;> simp [h]
    simp only [idle, none_]
    rfl
  · have due : (if s.held then [] else dueEvents s) = dueEvents s := by simp [released]
    simp only [idle, due, List.isEmpty_eq_false_iff.2 some_]
    rfl

/-- Settles O1: by the model's list of due events, one kind of event after another. -/
theorem stepRunsFront : Obligations.StepRunsFront := by
  unfold Obligations.StepRunsFront
  refine ⟨fun c rest s => rfl, fun s empty => ?_⟩
  intro since slots busy deadlines silences age due
  have all : due = dueEvents s := by
    have hslots : slots = dueSlots s := by
      cases hs : s.seq.slots with
      | none =>
        rw [dueSlots_none hs]
        simp only [slots, hs]
      | some q =>
        cases hc : q.current with
        | none =>
          rw [dueSlots_waiting hs hc, dueStart]
          simp only [slots, hs, hc]
          rfl
        | some k =>
          rw [dueSlots_exposing hs hc, dueStart]
          simp only [slots, hs, hc]
          rfl
    have hbusy : busy = if busyDue s then [Instr.busyWindowClose] else [] := by
      unfold busyDue
      cases hb : s.seq.busy with
      | none => simp only [busy, hb]; rfl
      | some w =>
        simp only [busy, hb, Option.any_some, decide_eq_true_eq]
        rfl
    have hdeadlines : deadlines = (s.asm.contexts.filter (deadlineDue s.timebase)).map fun c => .deadlineReached c.scan := by
      refine congrArg (List.map _) (List.filter_congr fun c _ => ?_)
      cases hc : c.complete with
      | true => simp only [deadlineDue, hc, Bool.not_true, Bool.false_and, Bool.true_eq_false, false_and, decide_false]
      | false =>
        simp only [deadlineDue, hc, Bool.not_false, Bool.true_and, true_and]
        rfl
    have hsilences : silences = (Port.all.filter (silenceDue s)).map Instr.silenceTimerExpiry := by
      refine congrArg (List.map _) (List.filter_congr fun p _ => ?_)
      unfold silenceDue
      cases (s.port p).silence <;> rfl
    have hage : age = if holdDue s then [Instr.holdAgeExpiry] else [] := by
      unfold holdDue
      cases hm : s.motion.held with
      | none => simp only [age, hm]; rfl
      | some h =>
        simp only [age, hm, Option.any_some, Bool.and_eq_true, Bool.not_eq_true', decide_eq_true_eq]
        rfl
    simp only [due, hslots, hbusy, hdeadlines, hsilences, hage, dueEvents]
  rw [all]
  exact step_idle empty

end Sys2Proof.Machine
end

section
/-! PROOF. Open frames: bytes that are stored, frames that fail a check, and rows that find a frame open (O8). -/

namespace Sys2Proof.Machine

set_option Elab.async false

/-! ### What a receiver's own changes leave (R2 to R4) -/

@[simp] theorem State.withOpenFrame_rx (s : State) (r q : Receiver) (w : Option OpenFrame) :
    (s.withOpenFrame r w).rx q = s.rx q := by
  cases r with
  | roof p =>
    cases q with
    | roof k =>
      show ((s.onPort p _).port k).counters.rx = _
      rw [State.onPort_port]
      split
      · next same => rw [same]; rfl
      · rfl
    | motion => rfl
    | trunk => rfl
  | motion => cases q <;> rfl
  | trunk => cases q <;> rfl

theorem State.countRx_rx (s : State) (r q : Receiver) (x : RxResult) :
    (s.countRx r x).rx q = if q = r then (s.rx r).count x else s.rx q := by
  cases r with
  | roof p =>
    cases q with
    | roof k =>
      show ((s.countPort p _).port k).counters.rx = _
      rw [State.countPort_port]
      by_cases same : k = p
      · simp [same, State.rx]
      · simp [same, State.rx]
    | motion => rfl
    | trunk => rfl
  | motion => cases q <;> rfl
  | trunk => cases q <;> rfl

/-- A failed check counts under its own counter (R4). -/
theorem RxCounters.count_failed (c : RxCounters) (x : RxFailure) : c.count (.failed x) = c.oneMore x := by
  cases x <;> rfl

theorem OnlyReceives.rfl {r : Receiver} {s : State} : OnlyReceives r s s where
  parts := .rfl
  others _ _ := ⟨Eq.refl _, Eq.refl _⟩
  enabled := Eq.refl _
  ports _ := Eq.refl _
  motion := Eq.refl _
  cmd := Eq.refl _

theorem OnlyReceives.trans {r : Receiver} {s t u : State} (h : OnlyReceives r s t) (k : OnlyReceives r t u) :
    OnlyReceives r s u where
  parts := .last k.parts h.parts (List.Subset.refl _)
  others q other := by
    obtain ⟨frame, rx⟩ := h.others q other
    obtain ⟨frame', rx'⟩ := k.others q other
    exact ⟨frame'.trans frame, rx'.trans rx⟩
  enabled := k.enabled.trans h.enabled
  ports p := by rw [k.ports p, h.ports p]
  motion := by rw [k.motion, h.motion]
  cmd := by rw [k.cmd, h.cmd]

theorem withOpenFrame_onlyReceives (s : State) (r : Receiver) (w : Option OpenFrame) :
    OnlyReceives r s (s.withOpenFrame r w) where
  parts := s.withOpenFrame_changes r w
  others q other := by simp [other]
  enabled := by cases r <;> rfl
  ports p := by
    rw [State.withOpenFrame_openFrame, State.withOpenFrame_rx]
    cases r with
    | roof k =>
      show (s.onPort k _).port p = _
      rw [State.onPort_port]
      by_cases same : p = k
      · simp [same, State.rx]
      · simp [same, State.rx, State.openFrame]
    | motion => rfl
    | trunk => rfl
  motion := by
    rw [State.withOpenFrame_openFrame, State.withOpenFrame_rx]
    cases r <;> rfl
  cmd := by
    rw [State.withOpenFrame_openFrame, State.withOpenFrame_rx]
    cases r <;> rfl

theorem countRx_onlyReceives (s : State) (r : Receiver) (x : RxResult) : OnlyReceives r s (s.countRx r x) where
  parts := s.countRx_changes r x
  others q other := by simp [other, State.countRx_rx]
  enabled := by cases r <;> rfl
  ports p := by
    rw [State.countRx_openFrame, State.countRx_rx]
    cases r with
    | roof k =>
      show (s.countPort k _).port p = _
      rw [State.countPort_port]
      by_cases same : p = k
      · simp [same, State.rx, State.openFrame]
      · simp [same, State.rx, State.openFrame]
    | motion => rfl
    | trunk => rfl
  motion := by
    rw [State.countRx_openFrame, State.countRx_rx]
    cases r <;> rfl
  cmd := by
    rw [State.countRx_openFrame, State.countRx_rx]
    cases r <;> rfl

/-- A frame that closes at a receiver and is counted there under the check that it failed. -/
theorem closed_onlyReceives (s : State) (r : Receiver) (w : Option OpenFrame) (x : RxFailure) :
    OnlyReceives r s ((s.withOpenFrame r w).countRx r (.failed x)) ∧
      ((s.withOpenFrame r w).countRx r (.failed x)).openFrame r = w ∧
      ((s.withOpenFrame r w).countRx r (.failed x)).rx r = (s.rx r).oneMore x :=
  ⟨(withOpenFrame_onlyReceives s r w).trans (countRx_onlyReceives _ r _), by simp,
    by rw [State.countRx_rx, if_pos rfl, State.withOpenFrame_rx, RxCounters.count_failed]⟩

/-! ### FRAME_FAILED -/

/-- A violation or fewer than six bytes fail the framing check, the first one (R3). -/
theorem checkClosed_framing {rule : PortRule} {w : OpenFrame} (h : w.violation = true ∨ w.total < 6) (byStart : Bool) :
    checkClosed rule w byStart = .failed .framing := by
  unfold checkClosed
  rw [if_pos (by rcases h with h | h <;> simp [h])]

theorem frameFailed_open {s : State} {r : Receiver} {rx : Reception} (h : rx.ending = .stillOpen) :
    frameFailed s r rx = s.withOpenFrame r (some (s.received r rx)) := by
  simp only [frameFailed, h]

theorem frameFailed_start {s : State} {r : Receiver} {rx : Reception} (h : rx.ending = .startDelimiter) :
    frameFailed s r rx = (s.withOpenFrame r (some {})).countRx r (.failed .framing) := by
  simp only [frameFailed, h, checkClosed_byStart]

theorem frameFailed_failed {s : State} {r : Receiver} {rx : Reception} {x : RxFailure} (h : rx.ending = .endDelimiter)
    (hx : checkClosed (s.portRule r) (s.received r rx) false = .failed x) :
    frameFailed s r rx = (s.withOpenFrame r none).countRx r (.failed x) := by
  simp only [frameFailed, h, hx]

theorem frameFailed_good {s : State} {r : Receiver} {rx : Reception} {f : Frame} (h : rx.ending = .endDelimiter)
    (hx : checkClosed (s.portRule r) (s.received r rx) false = .good f) : frameFailed s r rx = s := by
  simp only [frameFailed, h, hx]

theorem frameFailed_onlyReceives (s : State) (r : Receiver) (rx : Reception) : OnlyReceives r s (frameFailed s r rx) := by
  cases ending : rx.ending with
  | stillOpen => rw [frameFailed_open ending]; exact withOpenFrame_onlyReceives s r _
  | startDelimiter => rw [frameFailed_start ending]; exact (closed_onlyReceives s r _ _).1
  | endDelimiter =>
    cases check : checkClosed (s.portRule r) (s.received r rx) false with
    | good f => rw [frameFailed_good ending check]; exact .rfl
    | failed x => rw [frameFailed_failed ending check]; exact (closed_onlyReceives s r _ _).1

/-! ### Rows of good frames that find a frame open (log entry 5) -/

theorem begins_iff (w : OpenFrame) (f : Frame) :
    w.begins f = true ↔ w.violation = false ∧ w.stored.length = w.total ∧ w.stored <+: frameWire f := by
  simp [OpenFrame.begins, and_assoc]

theorem settle_openFrame (s : State) (r : Receiver) (f : Frame) : (settle s r f).openFrame r = none := by
  cases h : s.openFrame r with
  | none => rw [settle_none h, h]
  | some w =>
    rw [settle_some h]
    split
    · simp
    · simp

theorem settle_onlyReceives (s : State) (r : Receiver) (f : Frame) : OnlyReceives r s (settle s r f) := by
  cases h : s.openFrame r with
  | none => rw [settle_none h]; exact .rfl
  | some w =>
    rw [settle_some h]
    split
    · exact withOpenFrame_onlyReceives s r none
    · exact (closed_onlyReceives s r none .framing).1

theorem settle_rx {s : State} {r : Receiver} {w : OpenFrame} (h : s.openFrame r = some w) (f : Frame) :
    (settle s r f).rx r =
      if w.violation = false ∧ w.stored.length = w.total ∧ w.stored <+: frameWire f then s.rx r
      else (s.rx r).oneMore .framing := by
  rw [settle_some h]
  by_cases begins : w.begins f = true
  · rw [if_pos begins, if_pos ((begins_iff w f).1 begins), State.withOpenFrame_rx]
  · rw [if_neg begins, if_neg (fun k => begins ((begins_iff w f).2 k))]
    exact (closed_onlyReceives s r none .framing).2.2

/-- A frame that has been settled is settled. -/
theorem settle_settle (s : State) (r : Receiver) (f : Frame) : settle (settle s r f) r f = settle s r f :=
  settle_none (settle_openFrame s r f)

theorem takeCommand_settle (s : State) (address code tag : Byte) (args : List Byte) (go : State → State) :
    takeCommand (settle s .trunk (commandFrame address code tag args)) address code tag args go =
      takeCommand s address code tag args go := by
  simp only [takeCommand, settle_settle]

theorem commandRow_carries {c : Instr} {row : CommandRow} (h : commandRow c = some row) :
    c.carries = some (commandFrame row.address row.code row.tag row.args) ∧ receiverOf c = some .trunk := by
  cases c <;> cases h <;> exact ⟨rfl, rfl⟩

/-- A good frame's row first settles the open frame at its receiver, so it does not matter whether that has been done. -/
theorem meaning_settle {c : Instr} {f : Frame} {r : Receiver} (carries : c.carries = some f)
    (receiver : receiverOf c = some r) (well : c.wellFormed = true) (s : State) :
    meaning c (settle s r f) = meaning c s := by
  by_cases rows : ∃ row, commandRow c = some row
  · obtain ⟨row, hc⟩ := rows
    obtain ⟨frame, trunk⟩ := commandRow_carries hc
    cases carries.symm.trans frame
    cases receiver.symm.trans trunk
    rw [meaning_command hc, meaning_command hc]
    simp only [CommandRow.run, command, takeCommand_settle]
  · cases c <;> simp only [commandRow, reduceCtorEq, exists_false, Option.some.injEq, exists_eq', not_true_eq_false] at rows
    case profileFrame p a b =>
      cases carries
      cases receiver
      show profileFrame _ p a b = profileFrame s p a b
      simp only [profileFrame, settle_settle]
    case headReplyFrame p a b =>
      cases carries
      cases receiver
      show headReplyFrame _ p a b = headReplyFrame s p a b
      simp only [headReplyFrame, settle_settle]
    case motionFrame a b =>
      cases carries
      cases receiver
      show motionFrame _ a b = motionFrame s a b
      simp only [motionFrame, settle_settle]
    case reset a tag args =>
      cases carries
      cases receiver
      show resetRow a tag args (settle s .trunk (commandFrame a 0x4F tag args)) = resetRow a tag args s
      simp only [resetRow, takeCommand_settle]
    case unknownCommand a code tag args =>
      cases carries
      cases receiver
      show unknownRow a code tag args (settle s .trunk (commandFrame a code tag args)) = unknownRow a code tag args s
      have unlisted : commandCodes.contains code = false := by
        simp only [Instr.wellFormed, Bool.and_eq_true, Bool.not_eq_true'] at well
        exact well.2
      simp only [unknownRow, unlisted, Bool.false_eq_true, if_false, takeCommand_settle]
    all_goals cases carries

/-- Settles O8: what a reception does by its ending, and the settling of the frame that a good frame's row finds open. -/
theorem failedFrameIsOnlyCounted : Obligations.FailedFrameIsOnlyCounted := by
  unfold Obligations.FailedFrameIsOnlyCounted
  refine ⟨fun s r rx released => ?_, fun s c f r w released well carries receiver open_ => ?_⟩
  · intro before w
    have received : s.received r rx = w := by
      unfold State.received
      cases open_ : s.openFrame r <;> simp only [w, before, open_] <;> rfl
    refine ⟨_, exec_live _ released, frameFailed_onlyReceives s r rx, fun ending => ?_, fun ending => ?_,
      fun ending early => ?_, fun x ending failed => ?_, fun f ending good => ?_⟩
    · show (frameFailed s r rx).openFrame r = _ ∧ (frameFailed s r rx).rx r = _
      rw [frameFailed_open ending, received]
      exact ⟨by simp, State.withOpenFrame_rx s r r _⟩
    · show (frameFailed s r rx).openFrame r = _ ∧ (frameFailed s r rx).rx r = _
      rw [frameFailed_start ending]
      exact (closed_onlyReceives s r _ _).2
    · show (frameFailed s r rx).openFrame r = _ ∧ (frameFailed s r rx).rx r = _
      rw [frameFailed_failed ending (received ▸ checkClosed_framing early false)]
      exact (closed_onlyReceives s r _ _).2
    · show (frameFailed s r rx).openFrame r = _ ∧ (frameFailed s r rx).rx r = _
      rw [frameFailed_failed ending (received ▸ failed)]
      exact (closed_onlyReceives s r _ _).2
    · exact frameFailed_good ending (received ▸ good)
  · refine ⟨settle s r f, ?_, settle_onlyReceives s r f, settle_openFrame s r f, settle_rx open_ f⟩
    rw [exec_live c released, exec_live c ((settle_held s r f).trans released), meaning_settle carries receiver well]

end Sys2Proof.Machine
end

section
/-! PROOF. A frame that is built as R1 says passes the framing, Length and Check tests (O7). -/

namespace Sys2Proof.Machine

set_option Elab.async false

/-! ### Fields of a built frame (R1, Table 1-9) -/

theorem natOfBytes_bytes16 (w : BitVec 16) : natOfBytes (bytes16 w) = w.toNat := by
  have small := w.isLt
  simp only [natOfBytes, bytes16, List.foldl_cons, List.foldl_nil, BitVec.extractLsb'_toNat, Nat.shiftRight_eq_div_pow]
  omega

theorem frameBody_length (f : Frame) : (frameBody f).length = f.payload.length + 4 := by
  simp [frameBody, natBytes16, bytes16]

theorem frameWire_length (f : Frame) : (frameWire f).length = f.payload.length + 6 := by
  simp [frameWire, frameBody_length, bytes16]

/-- The declared Length is the number of payload bytes. -/
theorem frameWire_declared {f : Frame} (h : f.payload.length ≤ 320) : natField (frameWire f) 2 2 = f.payload.length := by
  have bytes : field (frameWire f) 2 2 = bytes16 (BitVec.ofNat 16 f.payload.length) := by
    simp [field, frameWire, frameBody, natBytes16, bytes16]
  rw [natField, bytes, natOfBytes_bytes16, BitVec.toNat_ofNat]
  omega

theorem frameWire_payload (f : Frame) : field (frameWire f) 4 f.payload.length = f.payload := by
  simp [field, frameWire, frameBody, natBytes16, bytes16]

theorem frameWire_body (f : Frame) : (frameWire f).take (f.payload.length + 4) = frameBody f := by
  rw [frameWire, List.take_append_of_le_length (frameBody_length f).ge, List.take_of_length_le (frameBody_length f).le]

/-- The check follows the body, high byte first. -/
theorem frameWire_check (f : Frame) :
    BitVec.ofNat 16 (natField (frameWire f) (f.payload.length + 4) 2) = crc16 (frameBody f) := by
  have bytes : field (frameWire f) (f.payload.length + 4) 2 = bytes16 (crc16 (frameBody f)) := by
    rw [field, frameWire, List.drop_append_of_le_length (frameBody_length f).ge, ← frameBody_length f, List.drop_length,
      List.nil_append]
    rfl
  rw [natField, bytes, natOfBytes_bytes16, BitVec.ofNat_toNat, BitVec.setWidth_eq]

/-! ### The receive checks of a built frame (R2, R3) -/

/-- A built frame received in two pieces is stored whole. -/
theorem feed_frameWire {f : Frame} (h : f.payload.length ≤ 320) {a b : List Byte} (pieces : a ++ b = frameWire f) :
    (({} : OpenFrame).feed false a).feed false b = ⟨false, frameWire f, f.payload.length + 6⟩ := by
  have size := frameWire_length f
  rw [← pieces, List.length_append] at size
  have whole : ((([] : List Byte) ++ a).take 326 ++ b).take 326 = frameWire f := by
    rw [List.nil_append, List.take_of_length_le (l := a) (by omega),
      List.take_of_length_le (by rw [List.length_append]; omega), pieces]
  show OpenFrame.mk (false || false || false) _ (0 + a.length + b.length) = _
  rw [OpenFrame.mk.injEq]
  exact ⟨rfl, whole, by omega⟩

/-- What is left to judge of an intact frame: its kind's length rule, its Address and its Kind (R3). -/
theorem checkIntact_eq {rule : PortRule} {f : Frame} (h : f.payload.length ≤ 320) :
    checkIntact rule f =
      if kindLengthOk f.kind f.payload = false then .failed .length
      else if ∃ a, rule.address = some a ∧ a ≠ f.address then .failed .address
      else if f.kind ∉ rule.kinds then .failed .kind
      else .good f := by
  have fits : ¬320 < f.payload.length := by omega
  have address : (rule.address.any fun a => a != f.address) = true ↔ ∃ a, rule.address = some a ∧ a ≠ f.address := by
    simp [Option.any_eq_true]
  cases length : kindLengthOk f.kind f.payload with
  | false => simp [checkIntact, length]
  | true =>
    by_cases other : ∃ a, rule.address = some a ∧ a ≠ f.address
    · simp [checkIntact, length, Config.maxPayload, fits, address.2 other, other]
    · have mine : (rule.address.any fun a => a != f.address) = false := by
        rw [← Bool.not_eq_true, address]
        exact other
      by_cases kind : f.kind ∈ rule.kinds <;>
        simp [checkIntact, length, Config.maxPayload, fits, mine, other, kind]

/-- The check of the nine digits 1 to 9, its reference value. -/
theorem crc16_reference : crc16 [0x31, 0x32, 0x33, 0x34, 0x35, 0x36, 0x37, 0x38, 0x39] = 0x29B1 := by decide +kernel

/-- Settles O7: a built frame's Length and Check are right, so that the checks of an intact frame decide. -/
theorem builtFrameIsIntact : Obligations.BuiltFrameIsIntact := by
  unfold Obligations.BuiltFrameIsIntact
  refine ⟨crc16_reference, fun rule f a b fits pieces => ?_⟩
  rw [feed_frameWire fits pieces, ← checkIntact_eq fits]
  have kind : byteAt (frameWire f) 0 = f.kind := rfl
  have address : byteAt (frameWire f) 1 = f.address := rfl
  have size : f.payload.length + 6 - 2 = f.payload.length + 4 := rfl
  have framed : ¬f.payload.length + 6 < 6 := by omega
  simp only [checkClosed, Bool.or_self, Bool.false_or, decide_eq_true_eq, framed, if_false, kind, address,
    Nat.add_sub_cancel, frameWire_declared fits, frameWire_payload, size, frameWire_body, frameWire_check, bne_self_eq_false,
    Config.maxPayload]
  by_cases refused : (decide (f.payload.length > 320) || !kindLengthOk f.kind f.payload) = true
  · rw [if_pos refused]
    exact (if_pos refused).symm
  · rw [if_neg refused, if_neg Bool.false_ne_true]

end Sys2Proof.Machine
end

section
/-! PROOF. A good PROFILE frame at a SEEKING, LOST or ACTIVE port (O10). -/

namespace Sys2Proof.Machine

set_option Elab.async false

/-! ### A port and the assembler do not meet -/

/-- What a release does does not depend on the ports, and leaves them. -/
theorem release_onPort (s : State) (p : Port) (f : RoofPort → RoofPort) :
    release (s.onPort p f) = (release s).onPort p f := by
  by_cases hg : s.asm.contexts.takeWhile (·.complete) = []
  · rw [show release s = s by simp [release, hg], show release (s.onPort p f) = s.onPort p f by simp [release, hg]]
  · rw [release_eq s _ _ rfl rfl hg, release_eq (s.onPort p f) _ _ rfl rfl hg]
    rfl

/-- An accepted profile and what it releases do not depend on the ports, and leave them. -/
theorem assemble_onPort (s : State) (p : Port) (f : RoofPort → RoofPort) (prof : Profile) :
    assemble (s.onPort p f) .accepted prof = (assemble s .accepted prof).onPort p f :=
  release_onPort (s.onAsm (acceptProfile prof)) p f

/-- What an offer to the raw queue does to the output unit depends on the output unit alone (R165). -/
theorem offerRaw_congr {s t : State} (h : t.out = s.out) (f : Frame) : (offerRaw t f).out = (offerRaw s f).out := by
  unfold offerRaw
  rw [h]
  split
  · rw [State.onOut_out, State.onOut_out, h]
  · rw [State.onOut_out, State.onOut_out, h]

/-! ### A port that takes a PROFILE frame -/

/-- An ACTIVE port that takes a good PROFILE frame, its verdict and forwarding apart (R4, R8, R11, R12). -/
def RoofPort.tookProfile (c : RoofPort) (now : Time) (payload : List Byte) : RoofPort :=
  { c with
    silence := some now
    counters :=
      { c.counters with
        rx := { c.counters.rx with good := bump c.counters.rx.good }
        goodProfiles := bump c.counters.goodProfiles
        badSegments := bumpBy c.counters.badSegments ((profileSegments payload).countP Segment.bad)
        badCondition :=
          if profileConditionCode payload > 2 then bump c.counters.badCondition else c.counters.badCondition } }

/-- The port with its verdict counted (R13). -/
def RoofPort.judged (c : RoofPort) (v : Verdict) : RoofPort := { c with counters := c.counters.countVerdict v }

/-- A PROFILE frame at an ACTIVE port: the port's own part, the verdict, the assembler and forwarding (R8, R11 to R13, R18). -/
theorem profileFrame_active {s : State} {p : Port} {address : Byte} {payload : List Byte}
    (clear : (s.port p).frame = none)
    (good : checkIntact (s.portRule (.roof p)) ⟨kindProfile, address, payload⟩ = .good ⟨kindProfile, address, payload⟩)
    (state : (s.port p).state = .active) :
    profileFrame s p address payload =
      let v := classify s.asm.contexts s.seq.scanCounter p (profileScan payload)
      let t := (assemble (s.onPort p fun c => c.tookProfile s.timebase payload) v (filteredProfile p payload)).onPort p
        fun c => c.judged v
      if v = .accepted then forward t p ⟨kindProfile, address, payload⟩ else t := by
  have heard : ((s.onPort p RoofPort.oneGood).port p).state = .active := by simp [RoofPort.oneGood, state]
  have active : ((s.onPort p fun c => c.oneGood.heard s.timebase).port p).state = .active := by
    simp [RoofPort.oneGood, RoofPort.heard, state]
  rw [profileFrame_good clear good, goodFrame_heard (.inr (.inr heard)), State.onPort_timebase, State.onPort_onPort]
  unfold takeProfile
  dsimp only
  have counted : ∀ k, (((s.onPort p fun c => c.oneGood.heard s.timebase).countPort p k).port p).state = .active :=
    fun k => by simp [RoofPort.oneGood, RoofPort.heard, state]
  rw [counted]
  dsimp only [handProfile]
  have port : (((s.onPort p fun c => c.oneGood.heard s.timebase).countPort p
      fun c => { c with goodProfiles := bump c.goodProfiles }).countPort p fun c => c.countFilter payload) =
        s.onPort p fun c => c.tookProfile s.timebase payload := by
    simp only [State.countPort, State.onPort_onPort]
    exact State.onPort_congr (by simp [RoofPort.tookProfile, RoofPort.heard, RoofPort.oneGood, state,
      PortCounters.countFilter])
  rw [port]
  rfl

/-! ### Forwarding (R18) -/

/-- Whether an accepted profile advances the forward count to the divider. -/
def ForwardsNow (s : State) (p : Port) : Prop :=
  s.cmd.params.forward.get p ≠ 0 ∧ (s.port p).forwardCount + 1 = s.cmd.params.forward.get p

theorem forward_none {s : State} {p : Port} (h : s.cmd.params.forward.get p = 0) (f : Frame) : forward s p f = s := by
  simp only [forward, h, if_true]

theorem forward_now {s : State} {p : Port} (h : ForwardsNow s p) (f : Frame) :
    forward s p f = offerRaw (s.onPort p fun c =>
      { c with
        forwardCount := 0
        counters := { c.counters with framesForwarded := bump c.counters.framesForwarded } }) f := by
  simp only [forward, if_neg h.1, if_pos h.2]

theorem forward_later {s : State} {p : Port} (some_ : s.cmd.params.forward.get p ≠ 0) (h : ¬ForwardsNow s p) (f : Frame) :
    forward s p f = s.onPort p fun c => { c with forwardCount := c.forwardCount + 1 } := by
  simp only [forward, if_neg some_, if_neg fun k => h ⟨some_, k⟩]

theorem OnlyPort.trans {p : Port} {s t u : State} (h : OnlyPort p s t) (k : OnlyPort p t u) : OnlyPort p s u :=
  ⟨fun q other => (k.1 q other).trans (h.1 q other), k.2.trans h.2⟩

theorem forward_onlyPort (s : State) (p : Port) (f : Frame) : OnlyPort p s (forward s p f) := by
  by_cases none_ : s.cmd.params.forward.get p = 0
  · rw [forward_none none_]
    exact ⟨fun _ _ => rfl, rfl⟩
  · by_cases now : ForwardsNow s p
    · rw [forward_now now]
      exact (onlyPort_onPort s p _).of_roof (offerRaw_roof _ f)
    · rw [forward_later none_ now]
      exact onlyPort_onPort s p _

open Classical in
theorem forward_port (s : State) (p : Port) (f : Frame) :
    (forward s p f).port p =
      { s.port p with
        forwardCount :=
          if ForwardsNow s p then 0
          else if s.cmd.params.forward.get p ≠ 0 then (s.port p).forwardCount + 1 else (s.port p).forwardCount
        counters :=
          { (s.port p).counters with
            framesForwarded :=
              if ForwardsNow s p then bump (s.port p).counters.framesForwarded
              else (s.port p).counters.framesForwarded } } := by
  by_cases none_ : s.cmd.params.forward.get p = 0
  · have later : ¬ForwardsNow s p := fun k => k.1 none_
    simp [forward_none none_, later, none_]
  · by_cases now : ForwardsNow s p
    · rw [forward_now now, State.port, offerRaw_roof]
      refine (State.onPort_port s p p _).trans ?_
      simp [now]
    · rw [forward_later none_ now]
      simp [now, none_]

open Classical in
theorem forward_out (s : State) (p : Port) (f : Frame) :
    (forward s p f).out = if ForwardsNow s p then (offerRaw s f).out else s.out := by
  by_cases none_ : s.cmd.params.forward.get p = 0
  · rw [forward_none none_, if_neg fun k => k.1 none_]
  · by_cases now : ForwardsNow s p
    · rw [forward_now now, if_pos now]
      exact offerRaw_congr (s := s) (State.onPort_out s p _) f
    · rw [forward_later none_ now, if_neg now]
      rfl

/-! ### The frame that wakes its port (R5, R8) -/

/-- A good PROFILE frame at a SEEKING or LOST port: all else is as at the port woken before. -/
theorem profileFrame_wakes {s : State} {p : Port} {address : Byte} {payload : List Byte}
    (clear : (s.port p).frame = none)
    (good : checkIntact (s.portRule (.roof p)) ⟨kindProfile, address, payload⟩ = .good ⟨kindProfile, address, payload⟩)
    (state : (s.port p).state = .seeking ∨ (s.port p).state = .lost) (room : s.out.occupancy < 60) :
    profileFrame s p address payload =
      profileFrame ((s.onPort p fun c => c.woken s.timebase).onOut
        fun o => withStatus o ((wokenPort s p).statusRecord .portState)) p address payload := by
  have same : ((s.onPort p RoofPort.oneGood).port p).state = (s.port p).state := by simp [RoofPort.oneGood]
  have wakes : goodFrame (s.onPort p RoofPort.oneGood) p = offerStatus (wokenPort s p) .portState := by
    rw [goodFrame_wakes (by rw [same]; exact state), State.onPort_onPort]
    rfl
  rw [profileFrame_good clear good, wakes, offerStatus_room (s := wokenPort s p) room]
  have port : ((s.onPort p fun c => c.woken s.timebase).onOut
      fun o => withStatus o ((wokenPort s p).statusRecord .portState)).port p = (s.port p).woken s.timebase := by
    rw [State.onOut_port, State.onPort_port, if_pos rfl]
  have clear' : (((s.onPort p fun c => c.woken s.timebase).onOut
      fun o => withStatus o ((wokenPort s p).statusRecord .portState)).port p).frame = none := by rw [port]; exact clear
  have good' : checkIntact (((s.onPort p fun c => c.woken s.timebase).onOut
      fun o => withStatus o ((wokenPort s p).statusRecord .portState)).portRule (.roof p))
        ⟨kindProfile, address, payload⟩ = .good ⟨kindProfile, address, payload⟩ := by
    rw [State.portRule, port]
    exact good
  rw [profileFrame_good clear' good', goodFrame_heard (.inr (.inr (by simp [State.onOut_port, RoofPort.oneGood, RoofPort.woken])))]
  have same_port : (s.onPort p fun c => ((c.woken s.timebase).oneGood).heard s.timebase) = wokenPort s p :=
    State.onPort_congr (by simp [RoofPort.heard, RoofPort.oneGood, RoofPort.woken])
  show _ = takeProfile (((((s.onPort p fun c => c.woken s.timebase).onPort p RoofPort.oneGood).onPort p
    fun c => c.heard s.timebase)).onOut fun o => withStatus o ((wokenPort s p).statusRecord .portState)) p _
  rw [State.onPort_onPort, State.onPort_onPort, same_port]

/-! ### What a verdict other than accepted does -/

theorem assemble_rejected {v : Verdict} (h : v ≠ .accepted) (s : State) (prof : Profile) : assemble s v prof = s := by
  cases v with
  | accepted => exact absurd rfl h
  | duplicate => rfl
  | late => rfl
  | stray => rfl

/-! ### The assembler of an ACTIVE port's profile -/

/-- What an accepted profile leaves: the ports, the output unit and the parameters (R52, R61). -/
theorem assemble_keeps (s : State) (v : Verdict) (prof : Profile) :
    OnlyChanges [.asm, .paths, .cmd] s (assemble s v prof) ∧ (assemble s v prof).cmd.params = s.cmd.params := by
  refine ⟨?_, ?_⟩
  · cases v with
    | accepted => exact .last (release_changes _) (s.onAsm_changes _).mono
    | _ => exact .rfl
  · obtain ⟨_, _, _, h⟩ := assemble_drainOnly s v prof
    rw [h]

/-- The segments R12 drops, as the statements write them. -/
theorem segment_bad_eq : Segment.bad =
    fun g => decide (g.colLast < g.colFirst ∨ 2047 < g.colFirst ∨ 2047 < g.colLast ∨ 4095 < g.range) := by
  funext g
  simp [Segment.bad, Bool.or_assoc]

/-- The port of an accepted profile after its verdict is counted. -/
theorem tookProfile_judged (c : RoofPort) (now : Time) (payload : List Byte) (v : Verdict) :
    ((c.tookProfile now payload).judged v) =
      { c with
        silence := some now
        counters :=
          { c.counters with
            rx := { c.counters.rx with good := bump c.counters.rx.good }
            goodProfiles := bump c.counters.goodProfiles
            badSegments := bumpBy c.counters.badSegments ((profileSegments payload).countP Segment.bad)
            badCondition := if 2 < (byteAt payload 2).toNat then bump c.counters.badCondition else c.counters.badCondition
            accepted := if v = .accepted then bump c.counters.accepted else c.counters.accepted
            duplicate := if v = .duplicate then bump c.counters.duplicate else c.counters.duplicate
            late := if v = .late then bump c.counters.late else c.counters.late
            stray := if v = .stray then bump c.counters.stray else c.counters.stray } } := by
  cases v <;> rfl

/-- What a PROFILE frame does to its ACTIVE port, forwarding apart (R8, R11 to R13). -/
def RoofPort.profiled (c : RoofPort) (now : Time) (payload : List Byte) (v : Verdict) : RoofPort :=
  (c.tookProfile now payload).judged v

theorem profileFrame_rejected {s : State} {p : Port} {address : Byte} {payload : List Byte}
    (clear : (s.port p).frame = none)
    (good : checkIntact (s.portRule (.roof p)) ⟨kindProfile, address, payload⟩ = .good ⟨kindProfile, address, payload⟩)
    (state : (s.port p).state = .active)
    (verdict : classify s.asm.contexts s.seq.scanCounter p (profileScan payload) ≠ .accepted) :
    profileFrame s p address payload = s.onPort p fun c =>
      c.profiled s.timebase payload (classify s.asm.contexts s.seq.scanCounter p (profileScan payload)) := by
  rw [profileFrame_active clear good state]
  dsimp only
  rw [if_neg verdict, assemble_rejected verdict, State.onPort_onPort]
  rfl

/-- The state in which an accepted profile's frame comes to forwarding (R12, R13, R52). -/
def profiledState (s : State) (p : Port) (payload : List Byte) : State :=
  (assemble s .accepted (filteredProfile p payload)).onPort p fun c => c.profiled s.timebase payload .accepted

theorem profileFrame_accepted {s : State} {p : Port} {address : Byte} {payload : List Byte}
    (clear : (s.port p).frame = none)
    (good : checkIntact (s.portRule (.roof p)) ⟨kindProfile, address, payload⟩ = .good ⟨kindProfile, address, payload⟩)
    (state : (s.port p).state = .active)
    (verdict : classify s.asm.contexts s.seq.scanCounter p (profileScan payload) = .accepted) :
    profileFrame s p address payload =
      forward (profiledState s p payload) p ⟨kindProfile, address, payload⟩ := by
  rw [profileFrame_active clear good state]
  dsimp only
  rw [verdict, if_pos rfl, assemble_onPort, State.onPort_onPort]
  rfl

theorem profiledState_changes (s : State) (p : Port) (payload : List Byte) :
    OnlyChanges [.roof, .asm, .paths, .cmd] s (profiledState s p payload) :=
  .last (State.onPort_changes _ p _) (assemble_keeps s .accepted (filteredProfile p payload)).1.mono

theorem profiledState_roof (s : State) (p : Port) (payload : List Byte) :
    (profiledState s p payload).roof = (s.onPort p fun c => c.profiled s.timebase payload .accepted).roof := by
  have same : (assemble s .accepted (filteredProfile p payload)).roof = s.roof :=
    (assemble_keeps s .accepted (filteredProfile p payload)).1.1 .roof (by decide)
  rw [profiledState, State.onPort, State.onPort, State.onRoof, State.onRoof, same]

theorem profiledState_port (s : State) (p : Port) (payload : List Byte) :
    (profiledState s p payload).port p = (s.port p).profiled s.timebase payload .accepted := by
  rw [State.port, profiledState_roof]
  exact (State.onPort_port s p p _).trans (if_pos rfl)

/-- Forwarding is decided by what stood before the profile (R18). -/
theorem forwardsNow_profiledState (s : State) (p : Port) (payload : List Byte) :
    ForwardsNow (profiledState s p payload) p ↔ ForwardsNow s p := by
  have params : (profiledState s p payload).cmd.params = s.cmd.params :=
    (assemble_keeps s .accepted (filteredProfile p payload)).2
  rw [ForwardsNow, ForwardsNow, params, profiledState_port]
  rfl

/-- Settles O10: the port is woken first; at an ACTIVE port the row is the port's part, the assembler's and forwarding. -/
theorem profileJudged : Obligations.ProfileJudged := by
  unfold Obligations.ProfileJudged
  intro s p address payload released clear good isBad
  refine ⟨fun state room => ⟨(wokenPort s p).statusRecord .portState, ?_, ?_⟩, fun state => ⟨_, exec_live _ released, ?_⟩⟩
  · refine (showsStatus (wokenPort s p) .portState).of_states fun q => ?_
    show ((s.onPort p fun c => c.woken s.timebase).port q).state = ((wokenPort s p).port q).state
    rw [wokenPort, State.onPort_port, State.onPort_port]
    split <;> rfl
  · rw [exec_live _ released, exec_live _ (by exact released)]
    exact congrArg _ (profileFrame_wakes clear good state room)
  · show OnlyPort p s (profileFrame s p address payload) ∧ _
    rw [show meaning (.profileFrame p address payload) s = profileFrame s p address payload from rfl]
    have hand : filteredProfile p payload =
        ⟨p, profileScan payload, match (byteAt payload 2).toNat with | 0 => .ok | 1 => .degraded | _ => .failed,
          (profileSegments payload).filter fun g => !isBad g⟩ := by
      rw [filteredProfile, segment_bad_eq]
      rfl
    by_cases verdict : classify s.asm.contexts s.seq.scanCounter p (profileScan payload) = .accepted
    · rw [profileFrame_accepted clear good state verdict]
      have params : (profiledState s p payload).cmd.params = s.cmd.params :=
        (assemble_keeps s .accepted (filteredProfile p payload)).2
      have rest := forward_changes (profiledState s p payload) p ⟨kindProfile, address, payload⟩
      have out : (profiledState s p payload).out = s.out := (profiledState_changes s p payload).1 .out (by decide)
      refine ⟨?_, ?_, fun h => absurd verdict h, fun _ => ⟨?_, ⟨?_, ?_, ?_⟩, ?_⟩⟩
      · exact (onlyPort_onPort s p _).of_roof (profiledState_roof s p payload) |>.trans (forward_onlyPort _ p _)
      · rw [forward_port, profiledState_port, params, RoofPort.profiled, tookProfile_judged, segment_bad_eq]
        by_cases now : ForwardsNow s p
        · have now' := (forwardsNow_profiledState s p payload).mpr now
          obtain ⟨some_, reached⟩ := now
          simp [verdict, isBad, now', some_, reached]
        · have later := mt (forwardsNow_profiledState s p payload).mp now
          by_cases none_ : s.cmd.params.forward.get p = 0
          · simp [verdict, isBad, later, none_]
          · have short : (s.port p).forwardCount + 1 ≠ s.cmd.params.forward.get p := fun h => now ⟨none_, h⟩
            simp [verdict, isBad, later, none_, short]
      · exact .last rest (profiledState_changes s p payload).mono
      · rw [rest.1 .asm (by decide)]
        exact congrArg (fun prof => (assemble s .accepted prof).asm) hand
      · rw [rest.1 .paths (by decide)]
        exact congrArg (fun prof => (assemble s .accepted prof).paths) hand
      · rw [rest.1 .cmd (by decide)]
        exact congrArg (fun prof => (assemble s .accepted prof).cmd) hand
      · rw [forward_out, offerRaw_congr out, out]
        by_cases now : ForwardsNow s p
        · rw [if_pos ((forwardsNow_profiledState s p payload).mpr now), if_pos ⟨⟨verdict, now.1⟩, now.2⟩]
        · rw [if_neg (mt (forwardsNow_profiledState s p payload).mp now), if_neg fun h => now ⟨h.1.2, h.2⟩]
    · rw [profileFrame_rejected clear good state verdict]
      refine ⟨onlyPort_onPort s p _, ?_, fun _ => s.onPort_changes p _, fun h => absurd h verdict⟩
      rw [State.onPort_port, if_pos rfl, RoofPort.profiled, tookProfile_judged, segment_bad_eq]
      simp [verdict, isBad]

end Sys2Proof.Machine
end

section
/-! PROOF. The silence timer: loss of a port, the loss pruner and what it releases (O14). -/

namespace Sys2Proof.Machine

set_option Elab.async false

/-! ### What a release leaves in each unit (R61) -/

theorem release_asm (s : State) :
    (release s).asm =
      { s.asm with
        contexts := s.asm.contexts.dropWhile (·.complete)
        released := bumpBy s.asm.released (s.asm.contexts.takeWhile (·.complete)).length } := by
  by_cases none_ : s.asm.contexts.takeWhile (·.complete) = []
  · rw [show release s = s by simp [release, none_], none_]
    have all : s.asm.contexts.dropWhile (·.complete) = s.asm.contexts := by
      simpa [none_] using List.takeWhile_append_dropWhile (p := ScanContext.complete) (l := s.asm.contexts)
    rw [all, List.length_nil, bumpBy_zero]
  · rw [release_eq s _ _ rfl rfl none_]

theorem release_paths (s : State) :
    (release s).paths =
      { s.paths with
        toZone := s.paths.toZone ++ (s.asm.contexts.takeWhile (·.complete)).map ScanContext.toReleased } := by
  by_cases none_ : s.asm.contexts.takeWhile (·.complete) = []
  · rw [show release s = s by simp [release, none_], none_, List.map_nil, List.append_nil]
  · rw [release_eq s _ _ rfl rfl none_]

theorem release_cmd (s : State) :
    (release s).cmd =
      s.cmd.released (s.asm.contexts.takeWhile (·.complete)).length (s.asm.contexts.dropWhile (·.complete)).isEmpty := by
  by_cases none_ : s.asm.contexts.takeWhile (·.complete) = []
  · rw [show release s = s by simp [release, none_], none_]
    rfl
  · rw [release_eq s _ _ rfl rfl none_]

/-! ### The loss pruner (R57) -/

/-- The context awaits the port. -/
def ScanContext.awaits (p : Port) (c : ScanContext) : Bool := !c.complete && c.awaited.get p

/-- The context without the port in its awaited set. -/
def ScanContext.unawait (p : Port) (c : ScanContext) : ScanContext := { c with awaited := c.awaited.set p false }

/-- What the loss of a port makes of a context (R57, R60). -/
def ScanContext.pruned (p : Port) (c : ScanContext) : ScanContext :=
  if c.awaits p then if (c.unawait p).awaited.isEmpty then (c.unawait p).completed else c.unawait p else c

/-- A context is among those the loss empties exactly where its own awaited set is emptied: scan numbers differ (R42). -/
theorem emptied_contains {contexts : List ScanContext} (distinct : (contexts.map (·.scan)).Nodup) (p : Port)
    {c : ScanContext} (mem : c ∈ contexts) :
    ((contexts.filter fun c => c.awaits p && (c.unawait p).awaited.isEmpty).map (·.scan)).contains c.scan =
      (c.awaits p && (c.unawait p).awaited.isEmpty) := by
  rw [Bool.eq_iff_iff, List.contains_iff_mem, List.mem_map]
  constructor
  · rintro ⟨d, found, same⟩
    obtain ⟨held, emptied⟩ := List.mem_filter.mp found
    rwa [← List.inj_on_of_nodup_map distinct held mem same]
  · exact fun emptied => ⟨c, List.mem_filter.mpr ⟨mem, emptied⟩, rfl⟩

/-- The contexts without the lost port. -/
def ScanContext.dropped (p : Port) (c : ScanContext) : ScanContext := if c.awaits p then c.unawait p else c

/-- The contexts that the loss of a port empties. -/
def Assembler.emptied (a : Assembler) (p : Port) : List Word16 :=
  (a.contexts.filter fun c => c.awaits p && (c.unawait p).awaited.isEmpty).map (·.scan)

/-- The loss pruner in two steps: the awaited sets, then the contexts that become COMPLETE. -/
theorem prunePort_eq (p : Port) (a : Assembler) :
    prunePort p a =
      completeWhere (fun c => (a.emptied p).contains c.scan)
        { a with contexts := a.contexts.map (ScanContext.dropped p) } := rfl

theorem dropped_selected {a : Assembler} (distinct : (a.contexts.map (·.scan)).Nodup) (p : Port) {c : ScanContext}
    (mem : c ∈ a.contexts) :
    (!(c.dropped p).complete && (a.emptied p).contains (c.dropped p).scan) =
      (c.awaits p && (c.unawait p).awaited.isEmpty) := by
  have complete : (c.dropped p).complete = c.complete := by rw [ScanContext.dropped]; split <;> rfl
  have scan : (c.dropped p).scan = c.scan := by rw [ScanContext.dropped]; split <;> rfl
  rw [complete, scan, Assembler.emptied, emptied_contains distinct p mem, ScanContext.awaits]
  cases c.complete <;> rfl

theorem prunePort_contexts {a : Assembler} (distinct : (a.contexts.map (·.scan)).Nodup) (p : Port) :
    (prunePort p a).contexts = a.contexts.map (ScanContext.pruned p) := by
  rw [prunePort_eq, completeWhere, List.map_map]
  refine List.map_congr_left fun c mem => ?_
  rw [Function.comp_apply, dropped_selected distinct p mem, ScanContext.pruned, ScanContext.dropped]
  cases c.awaits p with
  | true => simp
  | false => simp

theorem prunePort_missing {a : Assembler} (distinct : (a.contexts.map (·.scan)).Nodup) (p q : Port) :
    (prunePort p a).missing.get q =
      bumpBy (a.missing.get q) (a.contexts.countP fun c =>
        c.awaits p && (c.unawait p).awaited.isEmpty && (c.unawait p).completed.missing.get q) := by
  rw [prunePort_eq, completeWhere, Quad.get_ofFn, List.countP_map, List.countP_filter, List.countP_map]
  refine congrArg (bumpBy _) (List.countP_congr fun c mem => ?_)
  rw [Function.comp_apply, Bool.and_eq_true, dropped_selected distinct p mem, Function.comp_apply, ScanContext.dropped]
  cases c.awaits p with
  | true => simp [and_comm]
  | false => simp

/-! ### The statement's own words for a pruned context -/

/-- Another port than this one is awaited. -/
def ScanContext.othersAwaited (p : Port) (c : ScanContext) : Bool :=
  ([.h0, .h1, .h2, .h3] : List Port).any fun q => decide (q ≠ p) && c.awaited.get q

theorem unawait_isEmpty (p : Port) (c : ScanContext) :
    (c.unawait p).awaited.isEmpty = !c.othersAwaited p := by
  cases p <;> simp [ScanContext.unawait, ScanContext.othersAwaited, Quad.set, Quad.get, Quad.isEmpty, Bool.and_assoc]

/-- A strobed port that delivered nothing usable is missing (R60). -/
theorem completed_missing (c : ScanContext) (q : Port) :
    c.completed.missing.get q =
      (c.strobed.get q && match c.deliveries.get q with | .delivered _ _ => false | _ => true) := by
  rw [ScanContext.completed, Quad.get_ofFn]
  rfl

/-- What becomes of a context at the loss of a port, port by port (R57, R60). -/
theorem pruned_words (p : Port) (c : ScanContext) :
    c.pruned p =
      if c.complete = true ∨ c.awaited.get p = false then c
      else if c.othersAwaited p = true then { c with awaited := c.awaited.set p false }
      else
        { c with
          awaited := c.awaited.set p false
          complete := true
          missing := ⟨c.completed.missing.get .h0, c.completed.missing.get .h1, c.completed.missing.get .h2,
            c.completed.missing.get .h3⟩ } := by
  rw [ScanContext.pruned, unawait_isEmpty, ScanContext.awaits]
  by_cases skipped : c.complete = true ∨ c.awaited.get p = false
  · have untouched : (!c.complete && c.awaited.get p) = false := by rcases skipped with h | h <;> simp [h]
    rw [untouched, if_pos skipped]
    rfl
  · have hit : (!c.complete && c.awaited.get p) = true := by simpa using skipped
    rw [if_pos hit, if_neg skipped]
    cases c.othersAwaited p <;> rfl

/-! ### The silence timer -/

/-- A port whose silence timer has expired (R9). -/
def RoofPort.lost (c : RoofPort) : RoofPort :=
  { c with
    state := .lost
    silence := none
    counters := { c.counters with silenceExpiries := bump c.counters.silenceExpiries } }

theorem silenceTimerExpiry_due {s : State} {p : Port} {since : Time} (running : (s.port p).silence = some since)
    (due : s.cmd.params.silenceTimeout * 1000 ≤ (s.timebase - since).toNat) :
    silenceTimerExpiry s p =
      release ((offerStatus (s.onPort p RoofPort.lost) .portState).onAsm (prunePort p)) := by
  have reached : silenceDue s p = true := by
    rw [silenceDue, running]
    exact decide_eq_true due
  rw [silenceTimerExpiry, if_pos reached]
  rfl

/-- The state in which the loss pruner's work comes to release control. -/
def silenced (s : State) (p : Port) : State := (offerStatus (s.onPort p RoofPort.lost) .portState).onAsm (prunePort p)

theorem silenced_changes (s : State) (p : Port) : OnlyChanges [.roof, .out, .asm] s (silenced s p) :=
  .last (State.onAsm_changes _ _) (.last (offerStatus_changes _ _) (s.onPort_changes p _).mono)

/-- Nothing is released where the oldest context is collecting. -/
theorem release_of_head {s : State} (h : ∀ c, s.asm.contexts.head? = some c → c.complete = false) : release s = s := by
  have none_ : s.asm.contexts.takeWhile (·.complete) = [] := by
    cases contexts : s.asm.contexts with
    | nil => rfl
    | cons c rest => simp [h c (by rw [contexts]; rfl)]
  simp [release, none_]

theorem completeWhere_never {sel : ScanContext → Bool} {a : Assembler} (h : ∀ c, sel c = false) : completeWhere sel a = a := by
  have missing : (Quad.ofFn fun q => bumpBy (a.missing.get q) 0) = a.missing :=
    Quad.ext_get fun q => by rw [Quad.get_ofFn, bumpBy_zero]
  simp only [completeWhere, h, Bool.and_false, List.filter_false, List.map_nil, List.countP_nil, missing]
  simp

/-- A port that no collecting context awaits is lost without any effect on the assembler. -/
theorem prunePort_unawaited {a : Assembler} {p : Port} (h : ∀ c ∈ a.contexts, c.complete = false → c.awaited.get p = false) :
    prunePort p a = a := by
  have none_ : ∀ c ∈ a.contexts, c.awaits p = false := fun c mem => by
    rw [ScanContext.awaits]
    cases open_ : c.complete with
    | true => rfl
    | false => simpa using h c mem open_
  have emptied : a.emptied p = [] := by
    rw [Assembler.emptied, List.map_eq_nil_iff, List.filter_eq_nil_iff]
    exact fun c mem => by simp [none_ c mem]
  have dropped : a.contexts.map (ScanContext.dropped p) = a.contexts :=
    (List.map_congr_left fun c mem => by rw [ScanContext.dropped, none_ c mem]; rfl).trans (List.map_id _)
  rw [prunePort_eq, emptied, dropped]
  exact completeWhere_never fun _ => rfl

/-- Settles O14: the timer's own part, the loss pruner and the release that follows. -/
theorem silenceExpires : Obligations.SilenceExpires := by
  unfold Obligations.SilenceExpires
  intro s p since released running due
  refine ⟨_, exec_live _ released, ?_⟩
  rw [show meaning (.silenceTimerExpiry p) s = release (silenced s p) from silenceTimerExpiry_due running due]
  have rest := release_changes (silenced s p)
  have roof : (release (silenced s p)).roof = (s.onPort p RoofPort.lost).roof := by
    rw [rest.1 .roof (by decide)]
    exact offerStatus_roof _ _
  have before : (offerStatus (s.onPort p RoofPort.lost) .portState).asm = s.asm := offerStatus_asm _ _
  refine ⟨(onlyPort_onPort s p _).of_roof roof, ?_, ?_, fun room => ?_, fun unawaited head => ?_, fun distinct => ?_⟩
  · rw [State.port, roof]
    exact (State.onPort_port s p p _).trans (if_pos rfl)
  · exact .last rest (silenced_changes s p).mono
  · refine ⟨(s.onPort p RoofPort.lost).statusRecord .portState, ?_, ?_⟩
    · rw [roof]
      exact showsStatus (s.onPort p RoofPort.lost) .portState
    · rw [rest.1 .out (by decide)]
      exact congrArg State.out (offerStatus_room (s := s.onPort p RoofPort.lost) room .portState)
  · have same : prunePort p (offerStatus (s.onPort p RoofPort.lost) .portState).asm =
        (offerStatus (s.onPort p RoofPort.lost) .portState).asm := prunePort_unawaited (by rw [before]; exact unawaited)
    have still : silenced s p = offerStatus (s.onPort p RoofPort.lost) .portState := by rw [silenced, State.onAsm, same]
    rw [still, release_of_head (by rw [before]; exact head)]
    exact .last (offerStatus_changes _ _) (s.onPort_changes p _).mono
  · intro others missing pruned after gone
    have pruned_eq : ScanContext.pruned p = pruned := funext fun c => pruned_words p c
    have asm : (silenced s p).asm = prunePort p s.asm := congrArg (prunePort p) before
    have contexts : (silenced s p).asm.contexts = after := by rw [asm, prunePort_contexts distinct, pruned_eq]
    have kept : (silenced s p).asm.contexts.dropWhile (·.complete) = after.drop gone.length := by
      rw [contexts, ← List.drop_left (l₁ := gone) (l₂ := after.dropWhile (·.complete)), List.takeWhile_append_dropWhile]
    rw [release_asm, release_paths, release_cmd, kept, contexts]
    refine ⟨rfl, ?_, ?_, ?_, ?_, ?_, ?_, fun q => ?_⟩
    · rw [show (silenced s p).paths = s.paths from offerStatus_paths _ _]
    · rw [show (silenced s p).cmd = s.cmd from offerStatus_cmd _ _]
    · rw [asm]
      rfl
    · rw [asm]
      rfl
    · rw [asm]
      rfl
    · rw [asm]
      rfl
    · rw [asm]
      show (prunePort p s.asm).missing.get q = _
      rw [prunePort_missing distinct]
      refine congrArg (bumpBy _) (List.countP_congr fun c _ => ?_)
      rw [unawait_isEmpty, completed_missing]
      rfl

end Sys2Proof.Machine
end

section
/-! SUPPORT. The span closed report at drain control: its effects as the statements say them, and how it waits (R158, R181). -/

namespace Sys2Proof.Machine

set_option Elab.async false

/-! ### The effects on drain control (R181) -/

theorem standbyState_port (s : State) (p : Port) : (standbyState s).port p = (s.port p).standby := Quad.get_ofFn _ p

theorem RoofPort.standby_live {c : RoofPort} (h : c.state ∈ ([.seeking, .active, .lost] : List PortState)) :
    c.standby = { c with state := .idle, silence := none } := by
  unfold RoofPort.standby
  cases state : c.state <;> simp_all

theorem RoofPort.standby_other {c : RoofPort} (h : c.state ∉ ([.seeking, .active, .lost] : List PortState)) :
    c.standby = c := by
  unfold RoofPort.standby
  cases state : c.state <;> simp_all

theorem enterStandby_roof (s : State) : (enterStandby s).roof = (standbyState s).roof := offerStatus_roof _ _

theorem enterStandby_port (s : State) (p : Port) : (enterStandby s).port p = (s.port p).standby := by
  rw [State.port, enterStandby_roof]
  exact standbyState_port s p

theorem ClosedSpan.reachesDrain {u t : State} (h : ClosedSpan u t) : ReachesDrain u t := by
  cases h with
  | other other => exact ⟨fun _ => rfl, fun h => absurd h other, fun h => absurd h other, fun h => absurd h other, fun h => absurd h other⟩
  | assembly waits used =>
    exact ⟨fun h => absurd waits h, fun _ _ => rfl, fun _ h => absurd h used, fun _ h => absurd h used, fun _ h => absurd h used⟩
  | pipeline waits free late busy =>
    exact ⟨fun h => absurd waits h, fun _ h => absurd free h, fun _ _ _ _ => rfl, fun _ _ _ h => absurd h busy,
      fun _ _ h => by simp [late] at h⟩
  | again waits free late done =>
    exact ⟨fun h => absurd waits h, fun _ h => absurd free h, fun _ _ _ h => by omega, fun _ _ _ _ => rfl,
      fun _ _ h => by simp [late] at h⟩
  | standby waits free early =>
    refine ⟨fun h => absurd waits h, fun _ h => absurd free h, fun _ _ h => by simp [early] at h,
      fun _ _ h => by simp [early] at h, fun _ _ _ => ⟨(enterStandby_changes u).mono, offerStatus_cmd _ _,
        offerStatus_seq _ _, by rw [enterStandby_roof]; rfl, fun p live => ?_, fun p other => ?_, fun room =>
        ⟨(standbyState u).statusRecord .operatingState, ?_, ?_⟩⟩⟩
    · rw [enterStandby_port, RoofPort.standby_live live]
    · rw [enterStandby_port, RoofPort.standby_other other]
    · rw [enterStandby_roof]
      exact showsStatus (standbyState u) .operatingState
    · exact congrArg State.out (offerStatus_room (s := standbyState u) room .operatingState)

/-! ### The report that waits (log entry 21) -/

/-- The state with a span closed report waiting, or with none. -/
def spanWaits (s : State) (b : Bool) : State := { s with paths := { s.paths with spanClosed := b } }

/-- A waiting span closed report: nothing yet while a report or a trigger is on its way; else it reaches drain control. -/
theorem settle_waiting (u : State) (none_ : u.paths.spanClosed = false) :
    (u.paths.reports = [] → u.seq.onWay = 0 → ReachesDrain u (settleSpanClosed (spanWaits u true))) ∧
      (u.paths.reports ≠ [] ∨ u.seq.onWay ≠ 0 → settleSpanClosed (spanWaits u true) = spanWaits u true) := by
  have clear : ({ spanWaits u true with paths := { (spanWaits u true).paths with spanClosed := false } } : State) = u := by
    rw [← none_]
    rfl
  rw [settleSpanClosed_eq]
  refine ⟨fun sent arrived => ?_, fun busy => if_neg fun h => ?_⟩
  · rw [if_pos ⟨rfl, sent, arrived⟩, clear]
    exact (spanClosed_ends u).reachesDrain
  · obtain ⟨-, sent, arrived⟩ := h
    exact busy.elim (absurd sent) (absurd arrived)

/-! ### What does not look at the report that waits -/

/-- A step of the part that neither reads nor changes whether a span closed report waits. -/
def IgnoresSpanWaits (f : State → State) : Prop := ∀ s b, f (spanWaits s b) = spanWaits (f s) b

theorem IgnoresSpanWaits.comp {f g : State → State} (hg : IgnoresSpanWaits g) (hf : IgnoresSpanWaits f) :
    IgnoresSpanWaits (g ∘ f) := fun s b => by rw [Function.comp_apply, Function.comp_apply, hf, hg]

theorem IgnoresSpanWaits.foldl {α : Type} {f : State → α → State} (h : ∀ a, IgnoresSpanWaits fun s => f s a) (l : List α) :
    IgnoresSpanWaits fun s => l.foldl f s := by
  induction l with
  | nil => exact fun _ _ => rfl
  | cons a l ih => exact ih.comp (h a)

theorem IgnoresSpanWaits.ite {p : State → Prop} [∀ s, Decidable (p s)] {f g : State → State}
    (same : ∀ s b, p (spanWaits s b) ↔ p s) (hf : IgnoresSpanWaits f) (hg : IgnoresSpanWaits g) :
    IgnoresSpanWaits fun s => if p s then f s else g s := fun s b => by
  show (if p (spanWaits s b) then _ else _) = spanWaits (if p s then _ else _) b
  by_cases h : p s
  · rw [if_pos h, if_pos ((same s b).mpr h), hf]
  · rw [if_neg h, if_neg (mt (same s b).mp h), hg]

theorem release_ignores : IgnoresSpanWaits release := fun s b => by
  by_cases none_ : s.asm.contexts.takeWhile (·.complete) = []
  · rw [show release s = s by simp [release, none_], show release (spanWaits s b) = spanWaits s b by
      simp [release, spanWaits, none_]]
  · rw [release_eq s _ _ rfl rfl none_, release_eq (spanWaits s b) _ _ rfl rfl none_]
    rfl

theorem startScan_ignores : IgnoresSpanWaits startScan :=
  .ite (fun _ _ => Iff.rfl) (release_ignores.comp fun _ _ => rfl) fun _ _ => rfl

theorem handleTrigger_ignores : IgnoresSpanWaits handleTrigger :=
  .ite (fun _ _ => Iff.rfl) (fun _ _ => rfl) (.ite (fun _ _ => Iff.rfl) (fun _ _ => rfl) startScan_ignores)

theorem lose_ignores : IgnoresSpanWaits lose :=
  .ite (fun _ _ => Iff.rfl) (.ite (fun _ _ => Iff.rfl) (fun _ _ => rfl) fun _ _ => rfl) fun _ _ => rfl

theorem offerZone_ignores (c : ClosingEntry) : IgnoresSpanWaits fun s => offerZone s c :=
  .ite (fun _ _ => Iff.rfl) (fun _ _ => rfl) (lose_ignores.comp fun _ _ => rfl)

theorem finishScan_ignores (scan : Word16) : IgnoresSpanWaits fun s => finishScan s scan := fun s b =>
  IgnoresSpanWaits.foldl offerZone_ignores (s.zones.closing.filter fun c => c.tag == scan)
    (s.onZones fun z => { z with inFlight := z.inFlight - 1, closing := z.closing.filter fun c => !(c.tag == scan) }) b

/-- A row that does its work and then lets a waiting span closed report reach drain control, or wait on (log entry 21). -/
theorem settles_after {f : State → State} (ignores : IgnoresSpanWaits f) {s : State} (waiting : s.paths.spanClosed = true) :
    settleSpanClosed (f (spanWaits s false)) = f (spanWaits s false) ∧
      ((f (spanWaits s false)).paths.reports = [] → (f (spanWaits s false)).seq.onWay = 0 →
        ReachesDrain (f (spanWaits s false)) (settleSpanClosed (f s))) ∧
      ((f (spanWaits s false)).paths.reports ≠ [] ∨ (f (spanWaits s false)).seq.onWay ≠ 0 →
        settleSpanClosed (f s) = spanWaits (f (spanWaits s false)) true) := by
  have none_ : (f (spanWaits s false)).paths.spanClosed = false := by rw [ignores]; rfl
  have again : spanWaits (f (spanWaits s false)) true = f s := by
    rw [← ignores]
    refine congrArg f ?_
    rw [spanWaits, ← waiting]
    rfl
  exact ⟨settleSpanClosed_none none_, again ▸ settle_waiting _ none_⟩

end Sys2Proof.Machine
end

section
/-! SUPPORT. What the end of a track leaves in the span unit: its bins, runs and counters, and the records offered (R148, R149,
R156, R158). -/

namespace Sys2Proof.Machine

set_option Elab.async false

/-! ### What stays in the store (R148, R149) -/

theorem SpanCounters.countClose_trackEnds (c : SpanCounters) (cause : CloseCause) :
    (c.countClose cause).trackEnds = c.trackEnds := by
  unfold SpanCounters.countClose
  split <;> rfl

/-- From s to t the bins of the span unit, its COUNT run and its count of track ends stay. -/
structure KeepsBins (s t : State) : Prop where
  bins : t.span.bins = s.span.bins
  count : t.span.count = s.span.count
  trackEnds : t.span.counters.trackEnds = s.span.counters.trackEnds

theorem KeepsBins.last {s t u : State} (k : KeepsBins t u) (h : KeepsBins s t) : KeepsBins s u :=
  ⟨k.bins.trans h.bins, k.count.trans h.count, k.trackEnds.trans h.trackEnds⟩

/-- What closing a bin leaves: the runs, the COUNT run and the count of track ends. -/
theorem closeBin_leaves (s : State) (id : Nat) (cause : CloseCause) :
    (closeBin s id cause).span.runs = s.span.runs ∧ (closeBin s id cause).span.count = s.span.count ∧
      (closeBin s id cause).span.counters.trackEnds = s.span.counters.trackEnds := by
  unfold closeBin
  split
  · simp
  · exact ⟨rfl, rfl, rfl⟩

/-- Whether a run is the track's and of a kind. -/
def Run.isOf (id : Nat) (kind : RunKind) (r : Run) : Bool := decide (r.track = id ∧ r.kind = kind)

theorem runOf_eq (u : SpanUnit) (id : Nat) (kind : RunKind) : u.runOf id kind = u.runs.find? (Run.isOf id kind) := by
  rw [SpanUnit.runOf]
  congr 1
  funext r
  simp [Run.isOf, Bool.beq_eq_decide_eq]

theorem closeRun_runs (s : State) (id : Nat) (cause : CloseCause) (kind : RunKind) :
    (closeRun s id cause kind).span.runs = s.span.runs.filter fun r => !r.isOf id kind := by
  have same : (fun r : Run => !(r.track == id && r.kind == kind)) = fun r => !r.isOf id kind := by
    funext r
    simp [Run.isOf, Bool.beq_eq_decide_eq]
  unfold closeRun
  split
  · rw [State.onSpan_span, reportRun_span, same]
  · next none_ =>
    rw [runOf_eq] at none_
    exact (List.filter_eq_self.mpr fun r mem => by simpa using List.find?_eq_none.mp none_ r mem).symm

theorem closeRun_keepsBins (s : State) (id : Nat) (cause : CloseCause) (kind : RunKind) :
    KeepsBins s (closeRun s id cause kind) := by
  unfold closeRun
  split
  · refine ⟨?_, ?_, ?_⟩ <;> rw [State.onSpan_span, reportRun_span]
    exact SpanCounters.countClose_trackEnds _ _
  · exact ⟨rfl, rfl, rfl⟩

/-- Closing a track's runs of some kinds takes them all out of the store, and no other run. -/
theorem closeKinds_runs (id : Nat) (cause : CloseCause) (kinds : List RunKind) (s : State) :
    (kinds.foldl (fun s k => closeRun s id cause k) s).span.runs =
      s.span.runs.filter fun r => !decide (r.track = id ∧ r.kind ∈ kinds) := by
  induction kinds generalizing s with
  | nil => simp
  | cons kind kinds ih =>
    rw [List.foldl_cons, ih, closeRun_runs, List.filter_filter]
    refine List.filter_congr fun r _ => ?_
    by_cases track : r.track = id
    · by_cases same : r.kind = kind <;> simp [Run.isOf, track, same]
    · simp [Run.isOf, track]

theorem closeKinds_keepsBins (id : Nat) (cause : CloseCause) (kinds : List RunKind) (s : State) :
    KeepsBins s (kinds.foldl (fun s k => closeRun s id cause k) s) := by
  induction kinds generalizing s with
  | nil => exact ⟨rfl, rfl, rfl⟩
  | cons kind kinds ih => exact (ih _).last (closeRun_keepsBins s id cause kind)

theorem mem_trackKinds (kind : RunKind) : kind ∈ trackKinds ↔ kind ≠ .count := by
  cases kind <;> decide

theorem recordEnd_span (s : State) (e : EndedTrack) :
    (recordEnd s e).span =
      { s.span with counters := { s.span.counters with trackEnds := bump s.span.counters.trackEnds } } := by
  simp [recordEnd, countSpan]

/-- What an ended track leaves in the span unit (R149). -/
structure EndedSpan (e : EndedTrack) (s t : State) : Prop where
  bins : t.span.bins = s.span.bins.eraseP fun b => decide (b.track = e.id)
  runs : t.span.runs = s.span.runs.filter fun r => !decide (r.track = e.id ∧ r.kind ∈ trackKinds)
  count : t.span.count = s.span.count
  trackEnds : t.span.counters.trackEnds = bump s.span.counters.trackEnds

theorem endTrack_span (s : State) (cause : CloseCause) (e : EndedTrack) : EndedSpan e s (endTrack s cause e) := by
  obtain ⟨runs, count, ends⟩ := closeBin_leaves s e.id cause
  have kept : KeepsBins (closeBin s e.id cause) (closeRuns (closeBin s e.id cause) e.id cause) := closeKinds_keepsBins ..
  rw [endTrack_eq]
  refine ⟨?_, ?_, ?_, ?_⟩ <;> rw [recordEnd_span]
  · rw [kept.bins, closeBin_bins]
    rfl
  · rw [← runs]
    exact closeKinds_runs e.id cause trackKinds _
  · rw [kept.count, count]
  · rw [kept.trackEnds, ends]

/-! ### A list of ended tracks (R158) -/

/-- The entries of a stop list end one after another. -/
def endTracks (s : State) (cause : CloseCause) (es : List EndedTrack) : State := es.foldl (fun s e => endTrack s cause e) s

/-- One bin of each ended track leaves the store. -/
def eraseTracks (es : List EndedTrack) (bins : List Bin) : List Bin :=
  es.foldl (fun bins e => bins.eraseP fun b => decide (b.track = e.id)) bins

theorem endTracks_bins (cause : CloseCause) (es : List EndedTrack) (s : State) :
    (endTracks s cause es).span.bins = eraseTracks es s.span.bins := by
  induction es generalizing s with
  | nil => rfl
  | cons e es ih => exact (ih _).trans (congrArg (eraseTracks es) (endTrack_span s cause e).bins)

theorem eraseTracks_sublist (es : List EndedTrack) (bins : List Bin) : (eraseTracks es bins).Sublist bins := by
  induction es generalizing bins with
  | nil => exact .refl _
  | cons e es ih => exact (ih _).trans List.eraseP_sublist

theorem erase_track (id : Nat) (bins : List Bin) :
    (bins.eraseP fun b => decide (b.track = id)).map (·.track) = (bins.map (·.track)).erase id := by
  rw [List.erase_eq_eraseP, List.eraseP_map]
  refine congrArg (fun p => (bins.eraseP p).map _) (funext fun b => ?_)
  exact decide_eq_decide.mpr eq_comm

/-- With keyed bins no ended track keeps one (R138, R158). -/
theorem eraseTracks_none (es : List EndedTrack) {bins : List Bin} (keyed : (bins.map (·.track)).Nodup) :
    ∀ e ∈ es, ∀ b ∈ eraseTracks es bins, b.track ≠ e.id := by
  induction es generalizing bins with
  | nil => exact fun e mem => absurd mem List.not_mem_nil
  | cons e es ih =>
    intro d mem b left
    rcases List.mem_cons.mp mem with rfl | later
    · intro same
      have held := List.mem_map_of_mem (f := (·.track)) ((eraseTracks_sublist es _).subset left)
      rw [erase_track, same] at held
      exact keyed.not_mem_erase held
    · exact ih (keyed.sublist (List.eraseP_sublist.map _)) d later b left

theorem mem_endTracks_runs (cause : CloseCause) (es : List EndedTrack) (s : State) (r : Run) :
    r ∈ (endTracks s cause es).span.runs ↔ r ∈ s.span.runs ∧ ∀ e ∈ es, r.track = e.id → r.kind = .count := by
  induction es generalizing s with
  | nil => simp [endTracks]
  | cons e es ih =>
    have kept : (!decide (r.track = e.id ∧ r.kind ∈ trackKinds)) = true ↔ (r.track = e.id → r.kind = .count) := by
      simp [mem_trackKinds, imp_iff_not_or]
    rw [endTracks, List.foldl_cons, ← endTracks, ih, (endTrack_span s cause e).runs, List.mem_filter, kept,
      List.forall_mem_cons, and_assoc]

theorem endTracks_count (cause : CloseCause) (es : List EndedTrack) (s : State) :
    (endTracks s cause es).span.count = s.span.count := by
  induction es generalizing s with
  | nil => rfl
  | cons e es ih => exact (ih _).trans (endTrack_span s cause e).count

theorem endTracks_trackEnds (cause : CloseCause) (es : List EndedTrack) (s : State) :
    (endTracks s cause es).span.counters.trackEnds = bumpBy s.span.counters.trackEnds es.length := by
  induction es generalizing s with
  | nil => exact (bumpBy_zero _).symm
  | cons e es ih =>
    rw [endTracks, List.foldl_cons, ← endTracks, ih, (endTrack_span s cause e).trackEnds, bump, bumpBy_bumpBy,
      List.length_cons, Nat.add_comm]

end Sys2Proof.Machine
end

section
/-! SUPPORT. The records that the end of a track offers, where there is room for them (R149, R156, R158). -/

namespace Sys2Proof.Machine

set_option Elab.async false

/-! ### Records that join the queue (R149, R156, R162) -/

/-- From s to t some records join the record queue, and the reply reservation stays. -/
structure Appends (fs : List Frame) (s t : State) : Prop where
  records : t.out.records = s.out.records ++ fs
  reserved : t.out.reserved = s.out.reserved

theorem Appends.nil {s t : State} (h : t.out = s.out := by rfl) : Appends [] s t := ⟨by rw [h, List.append_nil], by rw [h]⟩

theorem Appends.last {fs gs : List Frame} {s t u : State} (k : Appends gs t u) (h : Appends fs s t) : Appends (fs ++ gs) s u :=
  ⟨by rw [k.records, h.records, List.append_assoc], k.reserved.trans h.reserved⟩

theorem Appends.occupancy {fs : List Frame} {s t : State} (h : Appends fs s t) :
    t.out.occupancy = s.out.occupancy + fs.length := by
  rw [Output.occupancy, Output.occupancy, h.records, h.reserved, List.length_append]
  omega

/-- A record of class B that there is room for. -/
theorem offerB_appends {s : State} (room : s.out.occupancy < 60) (f : Frame) : Appends [f] s (offerB s f) := by
  rw [offerB_room room]
  exact ⟨rfl, rfl⟩

/-- A record of class A that there is room for (R162). -/
theorem offerA_appends {s : State} (room : s.out.occupancy < 52) (f : Frame) : Appends [f] s (offerA s f) := by
  have room : s.out.occupancy < Config.classALimit := room
  simp only [offerA, if_pos room, Output.join_eq_withRecord]
  exact ⟨rfl, rfl⟩

theorem closeBin_appends {s : State} (room : s.out.occupancy < 52) (id : Nat) (cause : CloseCause) :
    Appends ((s.span.bins.find? fun b => decide (b.track = id)).toList.map fun b =>
      ⟨kindWire, s.cmd.station.setWidth 8, b.wirePayload cause⟩) s (closeBin s id cause) := by
  have bin : s.span.binOf id = s.span.bins.find? fun b => decide (b.track = id) := rfl
  unfold closeBin
  rw [← bin]
  split
  · next b found =>
    rw [found]
    obtain ⟨records, reserved⟩ := offerA_appends room (s.record kindWire (b.wirePayload cause))
    exact ⟨records, reserved⟩
  · next none_ =>
    rw [none_]
    exact .nil

theorem openRun_eq (u : SpanUnit) (id : Nat) (kind : RunKind) : openRun u id kind = u.runOf id kind := (runOf_eq u id kind).symm

theorem reportRun_appends {s : State} (room : s.out.occupancy < 60) (r : Run) (cause : CloseCause) :
    Appends [exceedance s r cause] s (reportRun s r cause) := by
  obtain ⟨records, reserved⟩ := offerB_appends room (exceedance s r cause)
  exact ⟨records, reserved⟩

theorem closeRun_appends {s : State} (room : s.out.occupancy < 60) (id : Nat) (cause : CloseCause) (kind : RunKind) :
    Appends ((openRun s.span id kind).toList.map fun r => exceedance s r cause) s (closeRun s id cause kind) := by
  unfold closeRun
  rw [openRun_eq]
  split
  · next r found =>
    rw [found]
    obtain ⟨records, reserved⟩ := reportRun_appends room r cause
    exact ⟨records, reserved⟩
  · next none_ =>
    rw [none_]
    exact .nil

/-- Closing the runs of one kind leaves the track's run of another kind (R150, R156). -/
theorem openRun_closeRun {s : State} {id : Nat} {cause : CloseCause} {kind other : RunKind} (h : other ≠ kind) :
    openRun (closeRun s id cause kind).span id other = openRun s.span id other := by
  rw [openRun, openRun, closeRun_runs, List.find?_filter]
  refine congrArg (fun p => s.span.runs.find? p) (funext fun r => ?_)
  by_cases same : r.kind = other <;> simp [Run.isOf, same, h]

theorem exceedance_congr {s t : State} (h : t.cmd = s.cmd) : exceedance t = exceedance s := by
  funext r cause
  rw [exceedance, exceedance, h]

/-- The EXCEEDANCE records of a track's open runs of some kinds, in the order of the kinds. -/
def runRecords (s : State) (id : Nat) (cause : CloseCause) (kinds : List RunKind) : List Frame :=
  kinds.filterMap fun k => (openRun s.span id k).map fun r => exceedance s r cause

theorem runRecords_cons (s : State) (id : Nat) (cause : CloseCause) (kind : RunKind) (kinds : List RunKind) :
    runRecords s id cause (kind :: kinds) =
      ((openRun s.span id kind).toList.map fun r => exceedance s r cause) ++ runRecords s id cause kinds := by
  rw [runRecords, List.filterMap_cons, ← runRecords]
  cases openRun s.span id kind <;> rfl

theorem runRecords_closeRun {s : State} {id : Nat} {cause : CloseCause} {kind : RunKind} {kinds : List RunKind}
    (later : kind ∉ kinds) : runRecords (closeRun s id cause kind) id cause kinds = runRecords s id cause kinds := by
  refine List.filterMap_congr fun k mem => ?_
  have other : k ≠ kind := fun h => later (h ▸ mem)
  rw [openRun_closeRun other, exceedance_congr ((closeRun_changes s id cause kind).1 .cmd (by decide))]

theorem runRecords_length_le (s : State) (id : Nat) (cause : CloseCause) (kinds : List RunKind) :
    (runRecords s id cause kinds).length ≤ kinds.length := List.length_filterMap_le _ _

theorem closeKinds_appends (id : Nat) (cause : CloseCause) (kinds : List RunKind) (distinct : kinds.Nodup) (s : State)
    (room : s.out.occupancy + kinds.length ≤ 60) :
    Appends (runRecords s id cause kinds) s (kinds.foldl (fun s k => closeRun s id cause k) s) := by
  induction kinds generalizing s with
  | nil => exact .nil
  | cons kind kinds ih =>
    obtain ⟨later, distinct⟩ := List.nodup_cons.mp distinct
    rw [List.length_cons] at room
    have first := closeRun_appends (s := s) (by omega) id cause kind
    rw [runRecords_cons, ← runRecords_closeRun later]
    refine .last (ih distinct _ ?_) first
    have one : ((openRun s.span id kind).toList.map fun r => exceedance s r cause).length ≤ 1 := by
      cases openRun s.span id kind <;> simp
    have grown := first.occupancy
    omega

/-! ### The records of an ended track (R149, R158) -/

/-- The WIRE record of a track's open bin, if it has one. -/
def binRecords (s : State) (id : Nat) (cause : CloseCause) : List Frame :=
  (s.span.bins.find? fun b => decide (b.track = id)).toList.map fun b =>
    ⟨kindWire, s.cmd.station.setWidth 8, b.wirePayload cause⟩

theorem binRecords_length_le (s : State) (id : Nat) (cause : CloseCause) : (binRecords s id cause).length ≤ 1 := by
  unfold binRecords
  cases s.span.bins.find? fun b => decide (b.track = id) <;> simp

theorem endRecords_eq (s : State) (cause : CloseCause) (e : EndedTrack) :
    endRecords s cause e =
      binRecords s e.id cause ++ runRecords s e.id cause runKinds ++ [s.record kindTrackEnd e.payload] := rfl

theorem endRecords_length_le (s : State) (cause : CloseCause) (e : EndedTrack) : (endRecords s cause e).length ≤ 6 := by
  have bin := binRecords_length_le s e.id cause
  have runs := runRecords_length_le s e.id cause runKinds
  have kinds : runKinds.length = 4 := rfl
  rw [endRecords_eq, List.length_append, List.length_append, List.length_singleton]
  omega

theorem endTrack_appends {s : State} (room : s.out.occupancy < 52) (cause : CloseCause) (e : EndedTrack) :
    Appends (endRecords s cause e) s (endTrack s cause e) := by
  have bin : Appends (binRecords s e.id cause) s (closeBin s e.id cause) := closeBin_appends room e.id cause
  have one := binRecords_length_le s e.id cause
  have held := bin.occupancy
  have kinds : trackKinds.length = 4 := rfl
  have runs := closeKinds_appends e.id cause trackKinds (by decide) (closeBin s e.id cause) (by omega)
  have four := runRecords_length_le (closeBin s e.id cause) e.id cause trackKinds
  have held' := runs.occupancy
  have cmd : (closeBin s e.id cause).cmd = s.cmd := (closeBin_changes s e.id cause).1 .cmd (by decide)
  have same : runRecords (closeBin s e.id cause) e.id cause trackKinds = runRecords s e.id cause runKinds := by
    rw [runRecords, runRecords, exceedance_congr cmd]
    refine List.filterMap_congr fun k _ => ?_
    rw [openRun, openRun, (closeBin_leaves s e.id cause).1]
  have later : (closeRuns (closeBin s e.id cause) e.id cause).cmd = s.cmd := by
    rw [← cmd]
    exact (closeRuns_changes (closeBin s e.id cause) e.id cause).1 .cmd (by decide)
  have record : (closeRuns (closeBin s e.id cause) e.id cause).record kindTrackEnd e.payload =
      s.record kindTrackEnd e.payload := by
    rw [State.record, State.record, State.stationByte, State.stationByte, later]
  have last : Appends [s.record kindTrackEnd e.payload] (closeRuns (closeBin s e.id cause) e.id cause)
      (recordEnd (closeRuns (closeBin s e.id cause) e.id cause) e) := by
    rw [← record]
    obtain ⟨records, reserved⟩ := offerB_appends (s := closeRuns (closeBin s e.id cause) e.id cause)
      (show _ < 60 by rw [closeRuns]; omega) ((closeRuns (closeBin s e.id cause) e.id cause).record kindTrackEnd e.payload)
    exact ⟨records, reserved⟩
  rw [endRecords_eq, ← same, endTrack_eq]
  exact .last last (.last runs bin)

/-- Taking out what is not looked for leaves what is found. -/
theorem find?_eraseP_other {α : Type} {p q : α → Bool} (h : ∀ a, p a = true → q a = false) (l : List α) :
    (l.eraseP p).find? q = l.find? q := by
  induction l with
  | nil => rfl
  | cons a l ih =>
    by_cases hit : p a = true
    · rw [List.eraseP_cons_of_pos hit, List.find?_cons_of_neg (by simp [h a hit])]
    · rw [List.eraseP_cons_of_neg hit, List.find?_cons, List.find?_cons, ih]

/-- The end of one track leaves the records of another (R149). -/
theorem endRecords_other {s : State} {cause : CloseCause} {e d : EndedTrack} (h : d.id ≠ e.id) :
    endRecords (endTrack s cause e) cause d = endRecords s cause d := by
  have span := endTrack_span s cause e
  have cmd : (endTrack s cause e).cmd = s.cmd := (endTrack_changes s cause e).1 .cmd (by decide)
  have bin : (endTrack s cause e).span.bins.find? (fun b => decide (b.track = d.id)) =
      s.span.bins.find? fun b => decide (b.track = d.id) := by
    rw [span.bins]
    exact find?_eraseP_other (fun b erased => by simpa [of_decide_eq_true erased] using Ne.symm h) _
  have run : ∀ k, openRun (endTrack s cause e).span d.id k = openRun s.span d.id k := fun k => by
    rw [openRun, openRun, span.runs, List.find?_filter]
    refine congrArg (fun p => s.span.runs.find? p) (funext fun r => ?_)
    by_cases same : r.track = d.id <;> simp [same, h]
  simp only [endRecords, bin, run, cmd, exceedance_congr cmd]

theorem endTracks_appends (cause : CloseCause) (es : List EndedTrack) (distinct : (es.map (·.id)).Nodup) (s : State)
    (room : s.out.occupancy + 6 * es.length < 52) :
    Appends (es.flatMap (endRecords s cause)) s (endTracks s cause es) := by
  induction es generalizing s with
  | nil => exact .nil
  | cons e es ih =>
    rw [List.map_cons] at distinct
    obtain ⟨later, distinct⟩ := List.nodup_cons.mp distinct
    rw [List.length_cons] at room
    have first := endTrack_appends (s := s) (by omega) cause e
    have grown := first.occupancy
    have six := endRecords_length_le s cause e
    have same : es.flatMap (endRecords (endTrack s cause e) cause) = es.flatMap (endRecords s cause) :=
      List.flatMap_congr fun d mem => endRecords_other fun h => later (h ▸ List.mem_map_of_mem mem)
    rw [List.flatMap_cons, ← same]
    exact .last (ih distinct _ (by omega)) first

end Sys2Proof.Machine
end

section
/-! PROOF. The close of a drain: the drain close request, the stop list, the span closed report (O37). -/

namespace Sys2Proof.Machine

set_option Elab.async false

/-! ### The drain close request (R138) -/

theorem stopEntries_id (t : TrackTable) :
    (stopEntries t).map (·.id) =
      (t.slots.filterMap fun k => k.filter fun k => decide (k.state ≠ .tentative)).map (·.id) := by
  have reported : t.reported = t.slots.filterMap fun k => k.filter fun k => decide (k.state ≠ .tentative) := by
    have same : (fun k : Track => k.state != .tentative) = fun k => decide (k.state ≠ .tentative) :=
      funext fun k => by cases k.state <;> rfl
    rw [TrackTable.reported, TrackTable.live, List.filter_filterMap, same]
    rfl
  rw [stopEntries, List.map_map, reported]
  rfl

theorem mem_stopEntries {t : TrackTable} {e : EndedTrack} (h : e ∈ stopEntries t) :
    e.reason = .stop ∧ ∀ last, t.last = some last → e.endedAt = last.distance := by
  obtain ⟨k, -, rfl⟩ := List.mem_map.mp h
  refine ⟨rfl, fun last found => ?_⟩
  rw [found]
  rfl

theorem stopEntries_length (t : TrackTable) : (stopEntries t).length = t.reported.length := List.length_map _

theorem drainCloseRequest_waiting {s : State} (h : s.paths.drainRequest = true) :
    drainCloseRequest s =
      (s.onPaths fun p =>
        { p with drainRequest := false, toSpan := p.toSpan ++ [.stop ⟨stopEntries s.tracks, s.tracks.last⟩] }).onTracks
          TrackTable.closeDrain := by
  rw [drainCloseRequest, if_pos h]

/-! ### The stop list (R158) -/

/-- What closing the COUNT run leaves and takes (R155, R156). -/
structure CountClosed (s t : State) : Prop where
  bins : t.span.bins = s.span.bins
  runs : t.span.runs = s.span.runs
  count : t.span.count = none
  trackEnds : t.span.counters.trackEnds = s.span.counters.trackEnds

theorem closeCount_span (s : State) (cause : CloseCause) : CountClosed s (closeCount s cause) := by
  unfold closeCount
  split
  · refine ⟨?_, ?_, ?_, ?_⟩ <;> rw [State.onSpan_span]
    · rw [reportRun_span]
    · rw [reportRun_span]
    · rw [reportRun_span]
      exact SpanCounters.countClose_trackEnds _ _
  · next none_ => exact ⟨rfl, rfl, none_, rfl⟩

theorem closeCount_appends {s : State} (room : s.out.occupancy < 60) (cause : CloseCause) :
    Appends (s.span.count.toList.map fun r => exceedance s r cause) s (closeCount s cause) := by
  unfold closeCount
  split
  · next r found =>
    rw [found]
    obtain ⟨records, reserved⟩ := reportRun_appends room r cause
    exact ⟨records, reserved⟩
  · next none_ =>
    rw [none_]
    exact .nil

theorem endTracks_changes (cause : CloseCause) (es : List EndedTrack) (s : State) :
    OnlyChanges [.span, .out] s (endTracks s cause es) := .foldl (fun s e => endTrack_changes s cause e) es s

theorem flatMap_endRecords_length_le (s : State) (cause : CloseCause) (es : List EndedTrack) :
    (es.flatMap (endRecords s cause)).length ≤ 6 * es.length := by
  induction es with
  | nil => exact Nat.zero_le _
  | cons e es ih =>
    have six := endRecords_length_le s cause e
    rw [List.flatMap_cons, List.length_append, List.length_cons]
    omega

/-- The records of a stop list that there is class A room for, in the order of R158. -/
theorem spanClosing_appends {s : State} {l : StopList} (distinct : (l.entries.map (·.id)).Nodup)
    (room : s.out.occupancy + 6 * l.entries.length < 52) :
    Appends (l.entries.flatMap (endRecords s .stop) ++ s.span.count.toList.map fun r => exceedance s r .stop) s
      (spanClosing s l) := by
  have ends := endTracks_appends .stop l.entries distinct s room
  have grown := ends.occupancy
  have six := flatMap_endRecords_length_le s .stop l.entries
  have close := closeCount_appends (s := endTracks s .stop l.entries) (by omega) .stop
  have cmd : (endTracks s .stop l.entries).cmd = s.cmd := (endTracks_changes .stop l.entries s).1 .cmd (by decide)
  rw [endTracks_count, exceedance_congr cmd] at close
  exact .last close ends

/-- The state in which the span closed report of a stop list is sent. -/
def stopTaken (s : State) (l : StopList) (rest : List SpanArrival) : State :=
  spanWaits (spanClosing (s.onPaths fun p => { p with toSpan := rest }) l) false

theorem stopListArrival_stop {s : State} {l : StopList} {rest : List SpanArrival} (h : s.paths.toSpan = .stop l :: rest) :
    stopListArrival s = settleSpanClosed (spanWaits (stopTaken s l rest) true) := by
  rw [stopListArrival, h]
  rfl

theorem stopTaken_changes (s : State) (l : StopList) (rest : List SpanArrival) :
    OnlyChanges [.paths, .span, .out] s (stopTaken s l rest) :=
  OnlyChanges.last (u := stopTaken s l rest) (State.onPaths_changes _ fun p => { p with spanClosed := false })
    (.last (spanClosing_changes _ l) (s.onPaths_changes _).mono)

theorem stopTaken_paths (s : State) (l : StopList) (rest : List SpanArrival) :
    (stopTaken s l rest).paths = { s.paths with toSpan := rest, spanClosed := false } := by
  have same : (spanClosing (s.onPaths fun p => { p with toSpan := rest }) l).paths = { s.paths with toSpan := rest } :=
    (spanClosing_changes _ l).1 .paths (by decide)
  rw [stopTaken, spanWaits, same]

/-! ### The rows that a span closed report waits for (log entry 21) -/

theorem triggerArrival_settles {s : State} (h : 0 < s.seq.onWay) :
    triggerArrival s = settleSpanClosed (handleTrigger (s.onSeq fun q => { q with onWay := q.onWay - 1 })) := by
  rw [triggerArrival, if_pos h]

theorem runOpeningReport_settles {s : State} {n : Word16} {rest : List SpanReport}
    (h : s.paths.reports = .runOpened n :: rest) :
    runOpeningReport s =
      settleSpanClosed ((s.onPaths fun p => { p with reports := rest }).onZones fun z => z.countRun n) := by
  rw [runOpeningReport, h]

theorem scanFinishedReport_settles {s : State} {k : Word16} {rest : List SpanReport}
    (h : s.paths.reports = .scanFinished k :: rest) :
    scanFinishedReport s = settleSpanClosed (finishScan (s.onPaths fun p => { p with reports := rest }) k) := by
  rw [scanFinishedReport, h]

/-- Each row that a span closed report waits for does its own work and then lets the report go on or wait on. -/
theorem acts_settles {s : State} {c : Instr} (acts : ActsBeforeSpanClosed s c) :
    ∃ f, IgnoresSpanWaits f ∧ ∀ b, meaning c (spanWaits s b) = settleSpanClosed (f (spanWaits s b)) := by
  rcases acts with ⟨rfl, due⟩ | ⟨n, rest, rfl, head⟩ | ⟨k, rest, rfl, head⟩
  · exact ⟨fun s => handleTrigger (s.onSeq fun q => { q with onWay := q.onWay - 1 }), handleTrigger_ignores.comp fun _ _ => rfl,
      fun b => triggerArrival_settles (s := spanWaits s b) due⟩
  · exact ⟨fun s => (s.onPaths fun p => { p with reports := rest }).onZones fun z => z.countRun n, fun _ _ => rfl,
      fun b => runOpeningReport_settles (s := spanWaits s b) head⟩
  · exact ⟨fun s => finishScan (s.onPaths fun p => { p with reports := rest }) k, (finishScan_ignores k).comp fun _ _ => rfl,
      fun b => scanFinishedReport_settles (s := spanWaits s b) head⟩

/-! ### The statement -/

/-- Settles O37: the request, the stop list, and the rows that the span closed report waits for. -/
theorem drainCloses : Obligations.DrainCloses := by
  unfold Obligations.DrainCloses
  refine ⟨fun s released waiting => ?_, fun s l rest released head => ?_, fun s c released waiting acts => ?_⟩
  · refine ⟨_, ⟨stopEntries s.tracks, s.tracks.last⟩, exec_live _ released, ?_⟩
    rw [show meaning .drainCloseRequest s = drainCloseRequest s from rfl, drainCloseRequest_waiting waiting]
    refine ⟨.last (State.onTracks_changes _ _) (s.onPaths_changes _).mono, rfl, rfl, stopEntries_id s.tracks,
      fun e mem => (mem_stopEntries mem).1, fun last found e mem => (mem_stopEntries mem).2 last found,
      closeDrain_live s.tracks, List.length_map _, rfl, rfl, ?_⟩
    rw [stopEntries_length]
    rfl
  · refine ⟨stopTaken s l rest, _, exec_live _ released, stopTaken_changes s l rest, stopTaken_paths s l rest, ?_⟩
    rw [show meaning .stopListArrival s = stopListArrival s from rfl, stopListArrival_stop head]
    have closed := closeCount_span (endTracks (s.onPaths fun p => { p with toSpan := rest }) .stop l.entries) .stop
    have bins : (stopTaken s l rest).span.bins = eraseTracks l.entries s.span.bins :=
      closed.bins.trans (endTracks_bins .stop l.entries _)
    refine ⟨closed.count, bins, fun keyed => ?_, fun e mem r held => ?_, ?_, fun distinct _ room => ?_, ?_⟩
    · rw [bins]
      exact eraseTracks_none l.entries keyed
    · rw [show (stopTaken s l rest).span.runs = _ from closed.runs, mem_endTracks_runs] at held
      exact held.2 e mem
    · exact closed.trackEnds.trans (endTracks_trackEnds .stop l.entries _)
    · have records := (spanClosing_appends (s := s.onPaths fun p => { p with toSpan := rest }) distinct room).records
      rw [← List.append_assoc] at records
      exact records
    · have seq : (stopTaken s l rest).seq = s.seq := (stopTaken_changes s l rest).1 .seq (by decide)
      have settles := settle_waiting (stopTaken s l rest) rfl
      rw [stopTaken_paths, seq] at settles
      exact settles
  · obtain ⟨f, ignores, run⟩ := acts_settles acts
    have same : spanWaits s true = s := by rw [spanWaits, ← waiting]
    have run_waiting := run true
    rw [same] at run_waiting
    obtain ⟨nothing, settles⟩ := settles_after ignores waiting
    refine ⟨f (spanWaits s false), settleSpanClosed (f s), ?_, ?_, settles⟩
    · rw [← nothing, ← run false]
      exact exec_live c released
    · rw [← run_waiting]
      exact exec_live c released

end Sys2Proof.Machine
end

section
/-! SUPPORT. The odometer unit: what a line change does to it (R19 to R25), and what keeps it within its ranges (Table 2-1). -/

namespace Sys2Proof.Machine

set_option Elab.async false

/-! ### Numbers -/

theorem le_clamp {lo hi : Int} (h : lo ≤ hi) (x : Int) : lo ≤ clamp lo hi x := by
  unfold clamp
  split
  · exact Int.le_refl lo
  · split
    · exact h
    · omega

theorem clamp_le {lo hi : Int} (h : lo ≤ hi) (x : Int) : clamp lo hi x ≤ hi := by
  unfold clamp
  split
  · exact h
  · split
    · exact Int.le_refl hi
    · omega

/-- The bytes of a field spell a number below the power of 256 that their count gives (section 0.5). -/
theorem natOfBytes_lt (bs : List Byte) : natOfBytes bs < 256 ^ bs.length := by
  have folded : ∀ n, bs.foldl (fun n b => n * 256 + b.toNat) n < (n + 1) * 256 ^ bs.length := by
    induction bs with
    | nil => intro n; simp
    | cons b bs ih =>
      intro n
      have byte_lt : b.toNat < 256 := b.isLt
      calc (b :: bs).foldl (fun n b => n * 256 + b.toNat) n
          < (n * 256 + b.toNat + 1) * 256 ^ bs.length := ih _
        _ ≤ ((n + 1) * 256) * 256 ^ bs.length := Nat.mul_le_mul_right _ (by omega)
        _ = (n + 1) * 256 ^ (b :: bs).length := by rw [List.length_cons, Nat.pow_succ, Nat.mul_assoc, Nat.mul_comm 256]
  simpa [natOfBytes] using folded 0

/-- A signed field of four bytes is a 32-bit number (section 0.5). -/
theorem intField_four_range (bs : List Byte) (offset : Nat) :
    -2147483648 ≤ intField bs offset 4 ∧ intField bs offset 4 ≤ 2147483647 := by
  have below := natOfBytes_lt (field bs offset 4)
  have short : (field bs offset 4).length ≤ 4 := List.length_take_le _ _
  have power : 256 ^ (field bs offset 4).length ≤ 256 ^ 4 := Nat.pow_le_pow_right (by decide) short
  simp only [intField, intOfBytes]
  split <;> omega

/-! ### One step of the odometer (R20 to R22) -/

theorem step_units_range (o : Odometer) (sense : Sense) (stepLength : Nat) :
    -unitsLimit ≤ (o.step sense stepLength).units ∧ (o.step sense stepLength).units ≤ unitsLimit :=
  ⟨le_clamp (by decide) _, clamp_le (by decide) _⟩

theorem accumulate_odo (s : State) (sense : Sense) :
    (accumulate s sense).odo = s.odo.step sense s.cmd.params.stepLength := by
  unfold accumulate
  dsimp only
  split
  · exact offerStatus_odo _ _
  · rfl

/-! ### The divider (R25) -/

theorem countStep_idle {s : State} (op : s.cmd.op ≠ .running) : countStep s = s := if_neg (by simpa using op)

theorem countStep_down {s : State} (op : s.cmd.op = .running) (above : 2 ≤ s.odo.divider) :
    countStep s = s.onOdo fun o => { o with divider := o.divider - 1 } := by
  have more : ¬s.odo.divider ≤ 1 := by omega
  rw [countStep, if_pos (by simpa using op), State.onOdo, if_neg more]
  rfl

theorem countStep_raises {s : State} (op : s.cmd.op = .running) (last : s.odo.divider ≤ 1) :
    countStep s = s.onOdo fun o =>
      { o with divider := o.spacing, counters := { o.counters with triggers := bump o.counters.triggers } } := by
  rw [countStep, if_pos (by simpa using op), State.onOdo, if_pos last]
  rfl

/-! ### The ranges of Table 2-1 -/

theorem OdometerLegal.congr {s t : State} (h : OdometerLegal s) (units : t.odo.units = s.odo.units := by rfl)
    (spacing : t.odo.spacing = s.odo.spacing := by rfl) (divider : t.odo.divider = s.odo.divider := by rfl) :
    OdometerLegal t where
  low := by rw [units]; exact h.low
  high := by rw [units]; exact h.high
  spacing := by rw [spacing]; exact h.spacing
  divider := by rw [divider]; exact h.divider

theorem OdometerLegal.of_changes {parts : List Part} {s t : State} (k : OnlyChanges parts s t) (h : OdometerLegal s)
    (hp : .odo ∉ parts := by decide) : OdometerLegal t := by
  have odo : t.odo = s.odo := k.1 .odo hp
  exact h.congr (by rw [odo]) (by rw [odo]) (by rw [odo])

theorem OdometerLegal.quiet {s t : State} (k : Quiet s t) (h : OdometerLegal s) : OdometerLegal t := .of_changes k.changes h

theorem OdometerLegal.accumulate {s : State} (h : OdometerLegal s) (sense : Sense) : OdometerLegal (accumulate s sense) := by
  obtain ⟨low, high⟩ := step_units_range s.odo sense s.cmd.params.stepLength
  constructor
  · rwa [accumulate_odo]
  · rwa [accumulate_odo]
  · rw [accumulate_odo]; exact h.spacing
  · rw [accumulate_odo]; exact h.divider

theorem OdometerLegal.countStep {s : State} (h : OdometerLegal s) : OdometerLegal (countStep s) := by
  by_cases op : s.cmd.op = .running
  · by_cases last : s.odo.divider ≤ 1
    · rw [countStep_raises op last]
      exact ⟨h.low, h.high, h.spacing, h.spacing.2⟩
    · rw [countStep_down op (by omega)]
      exact ⟨h.low, h.high, h.spacing, (Nat.sub_le _ _).trans h.divider⟩
  · rwa [countStep_idle op]

theorem OdometerLegal.lineChange {s : State} (h : OdometerLegal s) (oda odb late : Bool) :
    OdometerLegal (lineChange s oda odb late) := by
  have moved : ∀ sense, OdometerLegal
      (Machine.countStep (Machine.accumulate (s.onOdo fun o => { o with oda := oda, odb := odb }) sense)) := fun sense =>
    (OdometerLegal.accumulate (s := s.onOdo fun o => { o with oda := oda, odb := odb }) h.congr sense).countStep
  unfold Machine.lineChange
  dsimp only
  split
  · exact h
  · split
    · exact h.congr
    · split
      · exact .of_changes (sendTrigger_changes _ late) (moved _)
      · exact moved _

theorem OdometerLegal.setScanSpacing {s : State} (h : OdometerLegal s) (args : List Byte) :
    OdometerLegal (setScanSpacing args s).1 := by
  unfold Machine.setScanSpacing
  dsimp only
  split
  · exact h
  · exact ⟨h.low, h.high, by dsimp only [State.onOdo]; omega, by dsimp only [State.onOdo]; omega⟩

/-- Every argument that SET_DISTANCE takes lies within the accumulator's range (R22, R23). -/
theorem OdometerLegal.setDistance {s : State} (h : OdometerLegal s) (args : List Byte) :
    OdometerLegal (setDistance args s).1 := by
  obtain ⟨-, most⟩ := intField_four_range args 0
  unfold Machine.setDistance
  dsimp only
  split
  · exact h
  · next least =>
    simp only [distanceArg, Config.distanceLimit] at least
    refine ⟨?_, ?_, h.spacing, h.divider⟩ <;>
      · simp only [State.onOdo, Odometer.load, distanceArg, Config.unitsPerMm]
        omega

theorem OdometerLegal.startRun {s : State} (h : OdometerLegal s) : OdometerLegal (startRun s).1 := by
  unfold Machine.startRun
  split
  · exact h
  · rw [beginRun_eq]
    exact .of_changes (offerStatus_changes _ _) ⟨h.low, h.high, h.spacing, h.spacing.2⟩

/-- The odometer unit after a reset: distance 0 and spacing 16 (R23, R26, R182, R183). -/
theorem odometerLegal_reset {s : State} (units : s.odo.units = 0 := by rfl) (spacing : s.odo.spacing = 16 := by rfl)
    (divider : s.odo.divider = 16 := by rfl) : OdometerLegal s := by
  constructor <;> simp [units, spacing, divider]

theorem meaning_odometerLegal (c : Instr) (s : State) (h : OdometerLegal s) : OdometerLegal (meaning c s) := by
  by_cases hc : Part.odo ∈ footprint c
  · cases c <;> simp only [footprint, List.mem_cons, List.not_mem_nil, reduceCtorEq, or_false, or_self] at hc
    case frameFailed r rx => exact .of_changes (frameFailed_changes s r rx) h (by cases r <;> simp [receiverPart])
    case lineChange oda odb late => exact h.lineChange oda odb late
    case clearCounters a tag args => exact command_keeps (c := .clearCounters a tag args) .quiet rfl (fun _ _ hu => hu.congr) h
    case setScanSpacing a tag args =>
      exact command_keeps (c := .setScanSpacing a tag args) .quiet rfl (fun _ _ hu => hu.setScanSpacing args) h
    case setDistance a tag args =>
      exact command_keeps (c := .setDistance a tag args) .quiet rfl (fun _ _ hu => hu.setDistance args) h
    case start a tag args => exact command_keeps (c := .start a tag args) .quiet rfl (fun _ _ hu => hu.startRun) h
    case reset a tag args => exact reset_keeps .quiet (fun _ => odometerLegal_reset) h
    case hardReset => exact odometerLegal_reset
    case hardResetEnd a m x y => exact .quiet (hardResetEnd_quiet s a m x y) odometerLegal_reset
  · exact .of_changes (meaning_changes c s) h hc

theorem odometerLegal_kept : Kept OdometerLegal :=
  kept_of_exec (fun _ _ h => h.congr) (fun _ _ h => h.congr) meaning_odometerLegal

end Sys2Proof.Machine
end

section
/-! SUPPORT. The plan store and the operating state: what moves them (R35 to R38, R179 to R181), and what keeps them as
PlansLegal says. -/

namespace Sys2Proof.Machine

set_option Elab.async false

/-! ### What PlansLegal reads -/

/-- What of a state PlansLegal reads. -/
def planView (s : State) :=
  (s.seq.active, s.seq.staged, s.roof.enabled, s.cmd.op, s.cmd.drain = DrainProgress.none)

theorem PlansLegal.congr {s t : State} (h : PlansLegal s) (view : planView t = planView s := by rfl) : PlansLegal t := by
  simp only [planView, Prod.mk.injEq] at view
  obtain ⟨active, staged, enabled, op, drain⟩ := view
  constructor
  · rw [active]; exact h.active
  · rw [staged]; exact h.staged
  · rw [op, active, enabled]; exact h.activeLength
  · rw [staged, enabled]; exact h.stagedLength
  · rw [op, staged]; exact h.standby
  · rw [op, drain]; exact h.drain

theorem planView_of_changes {parts : List Part} {s t : State} (k : OnlyChanges parts s t)
    (hs : .seq ∉ parts := by decide) (hr : .roof ∉ parts := by decide) (hc : .cmd ∉ parts := by decide) :
    planView t = planView s := by
  have seq : t.seq = s.seq := k.1 .seq hs
  have roof : t.roof = s.roof := k.1 .roof hr
  have cmd : t.cmd = s.cmd := k.1 .cmd hc
  simp only [planView, seq, roof, cmd]

theorem PlansLegal.of_changes {parts : List Part} {s t : State} (k : OnlyChanges parts s t) (h : PlansLegal s)
    (hs : .seq ∉ parts := by decide) (hr : .roof ∉ parts := by decide) (hc : .cmd ∉ parts := by decide) : PlansLegal t :=
  h.congr (planView_of_changes k hs hr hc)

theorem Quiet.planView {s t : State} (k : Quiet s t) : planView t = planView s := by
  obtain ⟨o, f, r, k, rfl⟩ := k
  rfl

theorem PlansLegal.quiet {s t : State} (k : Quiet s t) (h : PlansLegal s) : PlansLegal t := h.congr k.planView

/-! ### Rows that leave the plan store and the operating state -/

theorem testTally_planView (s : State) : planView (testTally s) = planView s := by
  rw [testTally_eq]
  split
  · next due => simp [planView, due.1]
  · rfl

theorem release_planView (s : State) : planView (release s) = planView s := by
  have view : planView (release s) =
      (s.seq.active, s.seq.staged, s.roof.enabled, (release s).cmd.op, (release s).cmd.drain = DrainProgress.none) := by
    have seq : (release s).seq = s.seq := (release_changes s).1 .seq (by decide)
    have roof : (release s).roof = s.roof := (release_changes s).1 .roof (by decide)
    rw [planView, seq, roof]
  rw [view, release_cmd]
  unfold CommandUnit.released
  split
  · rfl
  · dsimp only
    split
    · next waits => simp [planView, waits.2.2]
    · rfl

theorem assemble_planView (s : State) (v : Verdict) (prof : Profile) : planView (assemble s v prof) = planView s := by
  cases v with
  | accepted => exact release_planView _
  | _ => rfl

theorem settle_planView (s : State) (r : Receiver) (f : Frame) : planView (settle s r f) = planView s := by
  unfold settle
  split
  · rfl
  · split
    · cases r <;> rfl
    · cases r <;> rfl

theorem frameFailed_planView (s : State) (r : Receiver) (rx : Reception) : planView (frameFailed s r rx) = planView s := by
  unfold frameFailed
  dsimp only
  split
  · cases r <;> rfl
  · cases r <;> rfl
  · split
    · rfl
    · cases r <;> rfl

theorem goodFrame_planView (s : State) (p : Port) : planView (goodFrame s p) = planView s := by
  unfold goodFrame
  split
  · rfl
  · rfl
  · rfl
  · exact (planView_of_changes (offerStatus_changes _ _)).trans rfl

theorem forward_planView (s : State) (p : Port) (f : Frame) : planView (forward s p f) = planView s := by
  unfold forward
  dsimp only
  split
  · rfl
  · split
    · exact (planView_of_changes (offerRaw_changes _ _)).trans rfl
    · rfl

theorem takeProfile_planView (s : State) (p : Port) (f : Frame) : planView (takeProfile s p f) = planView s := by
  have judged : ∀ t k v prof k', planView ((assemble (State.countPort t p k) v prof).countPort p k') = planView t :=
    fun t k v prof _ => assemble_planView (t.countPort p k) v prof
  unfold takeProfile handProfile
  dsimp only
  split
  · rfl
  · rfl
  · split
    · exact (forward_planView _ p f).trans (judged _ _ _ _ _)
    · exact judged _ _ _ _ _

theorem profileFrame_planView (s : State) (p : Port) (address : Byte) (payload : List Byte) :
    planView (profileFrame s p address payload) = planView s := by
  have closed : ∀ f x, planView ((settle s (.roof p) f).countRx (.roof p) x) = planView s := fun f _ =>
    settle_planView s (.roof p) f
  unfold profileFrame
  dsimp only
  split
  · exact closed _ _
  · exact (takeProfile_planView _ p _).trans ((goodFrame_planView _ p).trans (closed _ _))

theorem headReplyFrame_planView (s : State) (p : Port) (address : Byte) (payload : List Byte) :
    planView (headReplyFrame s p address payload) = planView s := by
  have relayed : ∀ t f, planView (relayReply t p f) = planView t := fun t f => by
    unfold relayReply
    split
    · rfl
    · exact (planView_of_changes (offerB_changes _ f)).trans rfl
  have closed : ∀ f x, planView ((settle s (.roof p) f).countRx (.roof p) x) = planView s := fun f _ =>
    settle_planView s (.roof p) f
  unfold headReplyFrame
  dsimp only
  split
  · exact closed _ _
  · exact (relayed _ _).trans ((goodFrame_planView _ p).trans (closed _ _))

theorem silenceTimerExpiry_planView (s : State) (p : Port) : planView (silenceTimerExpiry s p) = planView s := by
  unfold silenceTimerExpiry
  split
  · refine (release_planView _).trans ?_
    exact (planView_of_changes (offerStatus_changes (s.onPort p RoofPort.lost) .portState)).trans rfl
  · rfl

theorem deadlineReached_planView (s : State) (scan : Word16) : planView (deadlineReached s scan) = planView s := by
  unfold deadlineReached
  split
  · exact release_planView _
  · rfl

theorem slotStart_planView (s : State) (p : Port) : planView (slotStart s p) = planView s := by
  unfold slotStart
  split <;> rfl

theorem exposureEnd_planView (s : State) (p : Port) : planView (exposureEnd s p) = planView s := by
  unfold exposureEnd
  split <;> rfl

theorem busyWindowClose_planView (s : State) : planView (busyWindowClose s) = planView s := by
  unfold busyWindowClose
  split <;> rfl

theorem clusterListArrival_planView (s : State) : planView (clusterListArrival s) = planView s := by
  unfold clusterListArrival
  split
  · exact testTally_planView _
  · rfl

/-! ### The staged plan becomes active (R38) -/

/-- A staged plan, if there is one, becomes the active plan (R38). -/
def Sequencer.takeStaged (q : Sequencer) : Sequencer := { q with active := q.nextPlan, staged := none }

theorem PlansLegal.takeStaged {s : State} (h : PlansLegal s) : PlansLegal (s.onSeq Sequencer.takeStaged) := by
  have cases_ : s.seq.nextPlan = s.seq.active ∨ s.seq.staged = some s.seq.nextPlan := by
    unfold Sequencer.nextPlan
    cases s.seq.staged
    · exact .inl rfl
    · exact .inr rfl
  exact {
    active := by
      show s.seq.nextPlan.InRange
      rcases cases_ with same | taken
      · rw [same]
        exact h.active
      · exact h.staged _ taken
    staged := nofun
    activeLength := fun op => by
      show s.seq.nextPlan.length s.roof.enabled ≤ 4000
      rcases cases_ with same | taken
      · rw [same]
        exact h.activeLength op
      · exact h.stagedLength _ taken
    stagedLength := nofun
    standby := fun _ => rfl
    drain := h.drain }

/-- The part at rest, with no staged plan (R38, R181). -/
theorem PlansLegal.atRest {s : State} (h : PlansLegal s) (staged : s.seq.staged = none) :
    PlansLegal (s.onCmd fun c => { c with op := .standby, drain := .none }) where
  active := h.active
  staged := h.staged
  activeLength op := absurd rfl op
  stagedLength := h.stagedLength
  standby _ := staged
  drain := iff_of_true rfl nofun

theorem startScan_planView (s : State) : planView (startScan s) = planView (s.onSeq Sequencer.takeStaged) := by
  unfold startScan
  dsimp only
  split
  · exact release_planView _
  · rfl

theorem PlansLegal.handleTrigger {s : State} (h : PlansLegal s) : PlansLegal (handleTrigger s) := by
  unfold Machine.handleTrigger
  split
  · exact h.congr
  · split
    · exact h.congr
    · exact h.takeStaged.congr (startScan_planView s)

theorem PlansLegal.lineChange {s : State} (h : PlansLegal s) (oda odb late : Bool) : PlansLegal (lineChange s oda odb late) := by
  have moved : ∀ f k, PlansLegal (countStep (accumulate (s.onOdo f) k)) := fun f k =>
    .of_changes (countStep_changes _) (.of_changes (accumulate_changes _ k) (h.of_changes (s.onOdo_changes f)))
  unfold Machine.lineChange sendTrigger
  dsimp only
  split
  · exact h
  · split
    · exact h.congr
    · split
      · split
        · exact (moved _ _).congr
        · exact (moved _ _).handleTrigger
      · exact moved _ _

/-- A span closed report moves a drain on, or ends it with the staged plan active (R38, R181). -/
theorem PlansLegal.settleSpanClosed {s : State} (h : PlansLegal s) : PlansLegal (settleSpanClosed s) := by
  rcases settleSpanClosed_cases s with same | ⟨-, -, -, closed⟩
  · rwa [same]
  · generalize Machine.settleSpanClosed s = t at closed
    cases closed with
    | other => exact h.congr
    | assembly drain => exact h.congr (by simp [planView, show s.cmd.drain = _ from drain])
    | pipeline drain => exact h.congr (by simp [planView, show s.cmd.drain = _ from drain])
    | again => exact h.congr
    | standby => exact .quiet (enterStandby_quiet _) ((h.takeStaged.atRest rfl).congr)

theorem PlansLegal.triggerArrival {s : State} (h : PlansLegal s) : PlansLegal (triggerArrival s) := by
  unfold Machine.triggerArrival
  split
  · exact (PlansLegal.handleTrigger (h.congr)).settleSpanClosed
  · exact h

/-! ### The commands -/

/-- Without a staged plan, the mask is free in STANDBY (R6, R36). -/
theorem PlansLegal.setHeads {s : State} (h : PlansLegal s) (op : s.cmd.op = .standby) (args : List Byte) :
    PlansLegal (setHeads args s).1 := by
  have masked : ∀ mask, PlansLegal (s.onRoof fun r => r.withMask mask) := fun mask => {
    active := h.active
    staged := h.staged
    activeLength := fun k => absurd op k
    stagedLength := fun p staged => by
      rw [show (s.onRoof _).seq.staged = s.seq.staged from rfl, h.standby op] at staged
      cases staged
    standby := h.standby
    drain := h.drain }
  unfold Machine.setHeads
  dsimp only
  split
  · exact h
  · split
    · exact masked _
    · exact .of_changes (offerStatus_changes _ _) (masked _)

/-- The arguments that SET_STROBE does not refuse make a plan in range once its exposures are cut (R35, R37). -/
theorem clamped_inRange {plan : Plan} (passes : strobeFailure plan = none) : plan.clamped.InRange := by
  have checks : (∀ k, plan.exposure.get k ≠ 0) ∧ plan.guard ≤ 255 ∧ plan.firstDelay ≤ 1000 := by
    simp [strobeFailure, firstFailing, numbered, Port.all, List.range'] at passes
    obtain ⟨h0, h1, h2, h3, guard, delay⟩ := passes
    exact ⟨fun k => by cases k <;> assumption, guard, delay⟩
  obtain ⟨exposed, guard, delay⟩ := checks
  refine ⟨fun k => ?_, guard, delay⟩
  have some_ := exposed k
  rw [Plan.clamped, Quad.get_ofFn]
  omega

/-- A plan in range and short enough may be taken: as the active one in STANDBY, and staged otherwise (R38). -/
theorem PlansLegal.accept {s : State} (h : PlansLegal s) {plan : Plan} (range : plan.InRange)
    (short : plan.length s.roof.enabled ≤ 4000) : PlansLegal (s.onSeq fun q => q.accept s.cmd.op plan) := by
  unfold Sequencer.accept
  by_cases op : s.cmd.op = .standby
  · simp only [if_pos op]
    exact ⟨range, h.staged, fun _ => short, h.stagedLength, h.standby, h.drain⟩
  · simp only [if_neg op]
    refine ⟨h.active, fun p staged => ?_, h.activeLength, fun p staged => ?_, fun k => absurd k op, h.drain⟩
    · cases staged
      exact range
    · cases staged
      exact short

theorem PlansLegal.setStrobe {s : State} (h : PlansLegal s) (args : List Byte) : PlansLegal (setStrobe args s).1 := by
  unfold Machine.setStrobe
  dsimp only
  split
  · exact h
  · next passes =>
    split
    · exact h
    · next short => exact h.accept (clamped_inRange passes) (Nat.not_lt.1 short)

/-- START refuses a plan that is too long (R179). -/
theorem startFailure_none_length {s : State} (h : startFailure s = none) : s.seq.active.length s.roof.enabled ≤ 4000 := by
  unfold startFailure at h
  split at h
  · cases h
  · split at h
    · cases h
    · split at h
      · cases h
      · split at h
        · cases h
        · split at h
          · cases h
          · next short => exact Nat.not_lt.1 short

theorem PlansLegal.startRun {s : State} (h : PlansLegal s) (op : s.cmd.op = .standby) : PlansLegal (startRun s).1 := by
  unfold Machine.startRun
  split
  · exact h
  · next passes =>
    rw [beginRun_eq]
    have run : PlansLegal (runningState s) := {
      active := h.active
      staged := h.staged
      activeLength := fun _ => startFailure_none_length passes
      stagedLength := h.stagedLength
      standby := nofun
      drain := iff_of_true (h.drain.2 (by simp [op])) nofun }
    exact .of_changes (offerStatus_changes _ _) run

theorem PlansLegal.stopRun {s : State} (h : PlansLegal s) : PlansLegal (stopRun s).1 := by
  unfold Machine.stopRun
  split
  · next op =>
    have drains : ∀ drain, drain ≠ .none → PlansLegal (s.onCmd fun c => { c with op := .draining, drain := drain }) :=
      fun drain some_ =>
        ⟨h.active, h.staged, fun _ => h.activeLength (by simp [op]), h.stagedLength, nofun, iff_of_false some_ (by simp [State.onCmd])⟩
    have told : PlansLegal (offerStatus (s.onCmd fun c => { c with op := .draining, drain := .waitingAssembly })
        .operatingState) := .of_changes (offerStatus_changes _ _) (drains _ nofun)
    show PlansLegal (beginDrain s)
    unfold beginDrain assemblyDrained
    dsimp only
    split
    · split
      · refine told.congr ((testTally_planView _).trans ?_)
        simp [planView, State.onCmd]
      · exact told
    · exact told
  · exact h
  · exact h

theorem setRunParams_planView (args : List Byte) (s : State) : planView (setRunParams args s).1 = planView s := by
  unfold setRunParams
  split <;> rfl

theorem loadHeadCal_planView (args : List Byte) (s : State) : planView (loadHeadCal args s).1 = planView s := by
  unfold loadHeadCal
  dsimp only
  split
  · rfl
  · split <;> rfl

theorem headPass_planView (args : List Byte) (s : State) : planView (headPass args s).1 = planView s := by
  unfold headPass
  split
  · rfl
  · split
    · rfl
    · split <;> rfl

theorem clearAll_planView (s : State) : planView (clearAll s) = planView s := by
  simp only [planView, clearAll, State.onRoof, State.onMotion, State.onOdo, State.onSeq, State.onAsm, State.onZones,
    State.onGeo, State.onMerge, State.onTracks, State.onSpan, State.onOut, State.onCmd]

theorem PlansLegal.body {c : Instr} {row : CommandRow} (hc : commandRow c = some row) {s : State} (h : PlansLegal s)
    (allowed : row.allowed s.cmd.op = true) : PlansLegal (row.body s).1 := by
  cases c <;> cases hc <;> dsimp only
  case identify => exact h
  case getState => exact h
  case getCounters => exact h
  case clearCounters => exact h.congr (clearAll_planView s)
  case setHeads args => exact h.setHeads (standbyOnly_iff.1 allowed) args
  case loadHeadCal args => exact h.congr (loadHeadCal_planView args s)
  case loadWireType args => exact h.of_changes (loadWireType_changes args s)
  case setRunParams args => exact h.congr (setRunParams_planView args s)
  case setScanSpacing args => exact h.of_changes (setScanSpacing_changes args s)
  case setStrobe args => exact h.setStrobe args
  case setDistance args => exact h.of_changes (setDistance_changes args s)
  case zoneAppend args => exact h.of_changes (zoneAppend_changes args s)
  case zoneFlush => exact h.of_changes (zoneFlush_changes s)
  case headPass args => exact h.congr (headPass_planView args s)
  case start => exact h.startRun (standbyOnly_iff.1 allowed)
  case stop => exact h.stopRun

/-! ### Every row -/

/-- A soft reset keeps the active plan and ends what runs (R35, R183). -/
theorem PlansLegal.softReset {s : State} (h : PlansLegal s) : PlansLegal (softReset s) where
  active := h.active
  staged := nofun
  activeLength op := absurd rfl op
  stagedLength := nofun
  standby _ := rfl
  drain := iff_of_true rfl nofun

/-- A hard reset puts the default plan in place (R35, R182). -/
theorem plansLegal_hard {s : State} (seq : s.seq = {} := by rfl) (op : s.cmd.op = .standby := by rfl)
    (drain : s.cmd.drain = .none := by rfl) : PlansLegal s where
  active := by rw [seq]; exact reset_plansLegal.active
  staged p h := by rw [seq] at h; cases h
  activeLength k := absurd op k
  stagedLength p h := by rw [seq] at h; cases h
  standby _ := by rw [seq]
  drain := iff_of_true drain (by simp [op])

theorem meaning_plansLegal (c : Instr) (s : State) (h : PlansLegal s) : PlansLegal (meaning c s) := by
  by_cases rows : ∃ row, commandRow c = some row
  · obtain ⟨row, hc⟩ := rows
    exact command_keeps PlansLegal.quiet hc (fun u allowed hu => hu.body hc allowed) h
  · cases c <;> simp only [commandRow, reduceCtorEq, exists_false, Option.some.injEq, exists_eq', not_true_eq_false] at rows
    case profileFrame p a b => exact h.congr (profileFrame_planView s p a b)
    case headReplyFrame p a b => exact h.congr (headReplyFrame_planView s p a b)
    case motionFrame a b => exact h.of_changes (motionFrame_changes s a b)
    case frameFailed r rx => exact h.congr (frameFailed_planView s r rx)
    case lineChange oda odb late => exact h.lineChange oda odb late
    case silenceTimerExpiry p => exact h.congr (silenceTimerExpiry_planView s p)
    case slotStart p => exact h.congr (slotStart_planView s p)
    case exposureEnd p => exact h.congr (exposureEnd_planView s p)
    case busyWindowClose => exact h.congr (busyWindowClose_planView s)
    case deadlineReached scan => exact h.congr (deadlineReached_planView s scan)
    case holdAgeExpiry => exact h.of_changes (holdAgeExpiry_changes s)
    case downlinkEndDelimiter p => exact h.congr
    case scanResolution => exact h.of_changes (scanResolution_changes s)
    case geometryScan => exact h.of_changes (geometryScan_changes s)
    case rawListArrival => exact h.of_changes (rawListArrival_changes s)
    case clusterListArrival => exact h.congr (clusterListArrival_planView s)
    case trackListArrival => exact h.of_changes (trackListArrival_changes s)
    case runOpeningReport =>
      show PlansLegal (runOpeningReport s)
      unfold runOpeningReport
      split
      · exact PlansLegal.settleSpanClosed h.congr
      · exact h
    case scanFinishedReport =>
      show PlansLegal (scanFinishedReport s)
      unfold scanFinishedReport
      split
      · exact PlansLegal.settleSpanClosed (.of_changes (finishScan_changes _ _) h.congr)
      · exact h
    case drainCloseRequest => exact h.of_changes (drainCloseRequest_changes s)
    case stopListArrival =>
      show PlansLegal (stopListArrival s)
      unfold stopListArrival
      split
      · exact PlansLegal.settleSpanClosed (.of_changes (State.onPaths_changes _ _)
          (.of_changes (spanClosing_changes _ _) h.congr))
      · exact h
    case trunkEndDelimiter => exact h.of_changes (s.onOut_changes _)
    case linkUp => exact h.of_changes (s.onOut_changes _)
    case linkDown => exact h.of_changes (s.onOut_changes _)
    case triggerArrival => exact h.triggerArrival
    case reset a tag args => exact reset_keeps .quiet (fun hu => hu.softReset) h
    case unknownCommand a code tag args => exact h.quiet (unknownRow_quiet s a code tag args)
    case hardReset => exact plansLegal_hard
    case hardResetEnd a m x y => exact .quiet (hardResetEnd_quiet s a m x y) plansLegal_hard

theorem plansLegal_kept : Kept PlansLegal :=
  kept_of_exec (fun _ _ h => h.congr) (fun _ _ h => h.congr) meaning_plansLegal

end Sys2Proof.Machine
end

section
/-! PROOF. Every step keeps the odometer, the plans and the drain legal, and STANDBY queues no record of a measurement (O59;
R157, Law 10). -/

namespace Sys2Proof.Machine

set_option Elab.async false

/-! ### No record of a measurement -/

/-- From s to t no WIRE, TRACK_END, EXCEEDANCE or ZONE record has joined the record queue: of those held, some may have been
sent. -/
def QueuesNone (s t : State) : Prop := t.out.records.filter measures <:+ s.out.records.filter measures

theorem QueuesNone.last {s t u : State} (k : QueuesNone t u) (h : QueuesNone s t) : QueuesNone s u := List.IsSuffix.trans k h

theorem QueuesNone.of_records {s t : State} (h : t.out.records = s.out.records := by rfl) : QueuesNone s t := by
  rw [QueuesNone, h]

theorem QueuesNone.of_changes {parts : List Part} {s t : State} (h : OnlyChanges parts s t)
    (hp : .out ∉ parts := by decide) : QueuesNone s t := .of_records (congrArg Output.records (h.1 .out hp))

theorem QueuesNone.of_empty {s t : State} (h : t.out.records = [] := by rfl) : QueuesNone s t := by
  rw [QueuesNone, h]
  exact List.nil_suffix

theorem QueuesNone.ite {s t u : State} {c : Prop} [Decidable c] (h : QueuesNone s t) (k : QueuesNone s u) :
    QueuesNone s (if c then t else u) := by
  split
  · exact h
  · exact k

/-- A record of another kind joins the queue. -/
theorem QueuesNone.joins {s t : State} {f : Frame} (other : measures f = false)
    (joined : t.out.records = s.out.records ++ [f]) : QueuesNone s t := by
  rw [QueuesNone, joined, List.filter_append, List.filter_cons_of_neg (by simp [other]), List.filter_nil, List.append_nil]

/-! ### Offers -/

theorem offerLossStatus_queuesNone (s : State) : QueuesNone s (offerLossStatus s) := by
  unfold offerLossStatus
  split
  · exact .joins (f := s.statusRecord .recordLoss) rfl (Output.join_records _ _)
  · exact .of_records

theorem lose_queuesNone (s : State) : QueuesNone s (lose s) := by
  unfold lose
  dsimp only
  split
  · exact (offerLossStatus_queuesNone _).last .of_records
  · exact .of_records

theorem offerB_queuesNone (s : State) {f : Frame} (other : measures f = false) : QueuesNone s (offerB s f) := by
  unfold offerB
  split
  · exact .joins other (Output.join_records _ _)
  · exact (lose_queuesNone _).last .of_records

theorem offerStatus_queuesNone (s : State) (cause : StatusCause) : QueuesNone s (offerStatus s cause) := by
  unfold offerStatus
  split
  · exact .joins (f := s.statusRecord cause) rfl (Output.join_records _ _)
  · exact (lose_queuesNone _).last .of_records

theorem offerRaw_queuesNone (s : State) (f : Frame) : QueuesNone s (offerRaw s f) := by
  unfold offerRaw
  split
  · exact .of_records (Output.kick_records _)
  · exact .of_records

theorem queueReply_queuesNone (s : State) (code tag : Byte) (r : Reply) : QueuesNone s (queueReply s code tag r) := by
  rw [queueReply_eq]
  exact .joins (f := replyFrame s.cmd.station code tag r) rfl rfl

/-! ### Frames at the roof ports and line changes -/

theorem goodFrame_queuesNone (s : State) (p : Port) : QueuesNone s (goodFrame s p) := by
  unfold goodFrame
  split
  · exact .of_records
  · exact .of_records
  · exact .of_records
  · exact (offerStatus_queuesNone _ _).last .of_records

theorem forward_queuesNone (s : State) (p : Port) (f : Frame) : QueuesNone s (forward s p f) :=
  .ite .of_records (.ite ((offerRaw_queuesNone _ f).last .of_records) .of_records)

theorem takeProfile_queuesNone (s : State) (p : Port) (f : Frame) : QueuesNone s (takeProfile s p f) := by
  have judged : ∀ k l v prof k', QueuesNone s ((assemble ((s.countPort p k).countPort p l) v prof).countPort p k') :=
    fun k l v prof k' =>
      (QueuesNone.of_changes (State.countPort_changes _ p k')).last ((QueuesNone.of_changes (assemble_changes _ v prof)).last
        .of_records)
  unfold takeProfile handProfile
  dsimp only
  split
  · exact .of_records
  · exact .of_records
  · split
    · exact (forward_queuesNone _ p f).last (judged _ _ _ _ _)
    · exact judged _ _ _ _ _

theorem profileFrame_queuesNone (s : State) (p : Port) (address : Byte) (payload : List Byte) :
    QueuesNone s (profileFrame s p address payload) := by
  unfold profileFrame
  dsimp only
  split
  · exact .of_changes (closeRoof_changes s p _ _)
  · exact (takeProfile_queuesNone _ p _).last ((goodFrame_queuesNone _ p).last (.of_changes (closeRoof_changes s p _ _)))

/-- A frame that passes the receive checks is the frame that was checked (R3). -/
theorem checkIntact_good {rule : PortRule} {f g : Frame} (h : checkIntact rule f = .good g) : g = f := by
  unfold checkIntact at h
  split at h
  · cases h
  · split at h
    · cases h
    · split at h
      · cases h
      · exact (RxResult.good.inj h).symm

theorem headReplyFrame_queuesNone (s : State) (p : Port) (address : Byte) (payload : List Byte) :
    QueuesNone s (headReplyFrame s p address payload) := by
  have relayed : ∀ t, QueuesNone t (relayReply t p ⟨kindHeadReply, address, payload⟩) := fun t => by
    unfold relayReply
    split
    · exact .of_records
    · exact (offerB_queuesNone _ rfl).last .of_records
  unfold headReplyFrame
  dsimp only
  split
  · exact .of_changes (closeRoof_changes s p _ _)
  · next f good =>
    rw [checkIntact_good good]
    exact (relayed _).last ((goodFrame_queuesNone _ p).last (.of_changes (closeRoof_changes s p _ _)))

theorem accumulate_queuesNone (s : State) (sense : Sense) : QueuesNone s (accumulate s sense) :=
  .ite ((offerStatus_queuesNone _ _).last .of_records) .of_records

theorem lineChange_queuesNone (s : State) (oda odb late : Bool) : QueuesNone s (lineChange s oda odb late) := by
  have moved : ∀ f k, QueuesNone s (countStep (accumulate (s.onOdo f) k)) := fun f k =>
    (QueuesNone.of_changes (countStep_changes _)).last ((accumulate_queuesNone _ k).last .of_records)
  exact .ite .of_records (.ite .of_records
    (.ite ((QueuesNone.of_changes (sendTrigger_changes _ late)).last (moved _ _)) (moved _ _)))

theorem silenceTimerExpiry_queuesNone (s : State) (p : Port) : QueuesNone s (silenceTimerExpiry s p) :=
  .ite ((QueuesNone.of_changes (release_changes _)).last ((QueuesNone.of_changes (State.onAsm_changes _ _)).last
    ((offerStatus_queuesNone _ _).last .of_records))) .of_records

/-! ### The pipeline in STANDBY, where nothing is under way -/

theorem standby_quiet {s : State} (h : DrainLegal s) (op : s.cmd.op = .standby) :
    s.paths.toZone = [] ∧ s.paths.toSpan = [] ∧ s.paths.reports = [] ∧ s.seq.onWay = 0 := by
  obtain ⟨toZone, -⟩ := h.standby_pipeline op
  obtain ⟨-, -, toSpan, reports, onWay, -⟩ := h.standby op
  exact ⟨toZone, toSpan, reports, onWay⟩

theorem scanResolution_none {s : State} (h : s.paths.toZone = []) : scanResolution s = s := by rw [scanResolution, h]

theorem trackListArrival_none {s : State} (h : s.paths.toSpan = []) : trackListArrival s = s := by rw [trackListArrival, h]

theorem stopListArrival_none {s : State} (h : s.paths.toSpan = []) : stopListArrival s = s := by rw [stopListArrival, h]

theorem runOpeningReport_none {s : State} (h : s.paths.reports = []) : runOpeningReport s = s := by rw [runOpeningReport, h]

theorem scanFinishedReport_none {s : State} (h : s.paths.reports = []) : scanFinishedReport s = s := by
  rw [scanFinishedReport, h]

theorem triggerArrival_none {s : State} (h : s.seq.onWay = 0) : triggerArrival s = s := by
  rw [triggerArrival, if_neg (by simp [h])]

/-! ### Commands in STANDBY -/

theorem setHeads_queuesNone (args : List Byte) (s : State) : QueuesNone s (setHeads args s).1 := by
  unfold setHeads
  dsimp only
  split
  · exact .of_records
  · exact .ite .of_records ((offerStatus_queuesNone _ _).last .of_records)

/-- ZONE_FLUSH in STANDBY offers no record (R72). -/
theorem zoneFlush_queuesNone {s : State} (op : s.cmd.op = .standby) : QueuesNone s (zoneFlush s).1 := by
  unfold zoneFlush
  simp only [if_pos op]
  split
  · exact .of_records
  · exact .of_records

theorem startRun_queuesNone (s : State) : QueuesNone s (startRun s).1 := by
  unfold startRun
  split
  · exact .of_records
  · rw [beginRun_eq]
    exact (offerStatus_queuesNone _ _).last .of_records

theorem stopRun_standby {s : State} (op : s.cmd.op = .standby) : (stopRun s).1 = s := by rw [stopRun, op]

theorem body_queuesNone {c : Instr} {row : CommandRow} (hc : commandRow c = some row) {s : State}
    (op : s.cmd.op = .standby) : QueuesNone s (row.body s).1 := by
  cases c <;> cases hc <;> dsimp only
  case identify => exact .of_records
  case getState => exact .of_records
  case getCounters => exact .of_records
  case clearCounters => exact .of_records (by rw [clearAll_out])
  case setHeads args => exact setHeads_queuesNone args s
  case loadHeadCal args => exact .of_changes (loadHeadCal_changes args s)
  case loadWireType args => exact .of_changes (loadWireType_changes args s)
  case setRunParams args => exact .of_changes (setRunParams_changes args s)
  case setScanSpacing args => exact .of_changes (setScanSpacing_changes args s)
  case setStrobe args => exact .of_changes (setStrobe_changes args s)
  case setDistance args => exact .of_changes (setDistance_changes args s)
  case zoneAppend args => exact .of_changes (zoneAppend_changes args s)
  case zoneFlush => exact zoneFlush_queuesNone op
  case headPass args => exact .of_changes (headPass_changes args s)
  case start => exact startRun_queuesNone s
  case stop => exact .of_records (by rw [stopRun_standby op])

theorem Opened.op {s u : State} (h : Opened s u) : u.cmd.op = s.cmd.op := by
  obtain ⟨r, rfl, -⟩ := h
  rfl

theorem Opened.queuesNone {s u : State} (h : Opened s u) : QueuesNone s u := by
  obtain ⟨r, rfl, -⟩ := h
  exact .of_records

theorem TurnedAway.queuesNone {s t : State} (h : TurnedAway s t) : QueuesNone s t := .of_records (by rw [h.out])

theorem command_queuesNone {c : Instr} {row : CommandRow} (hc : commandRow c = some row) {s : State}
    (op : s.cmd.op = .standby) : QueuesNone s (meaning c s) := by
  rw [meaning_command hc]
  have ends := row.ends s
  generalize row.run s = t at ends
  cases ends with
  | turned away => exact away.queuesNone
  | refused opened r => exact (queueReply_queuesNone _ _ _ r).last opened.queuesNone
  | done opened _ =>
    exact (queueReply_queuesNone _ _ _ _).last ((body_queuesNone hc (opened.op.trans op)).last opened.queuesNone)

theorem unknownRow_queuesNone (s : State) (address code tag : Byte) (args : List Byte) :
    QueuesNone s (unknownRow address code tag args s) := by
  rcases unknownRow_cases s address code tag args with same | away | ⟨u, opened, ran⟩
  · exact .of_records (by rw [same])
  · exact away.queuesNone
  · rw [ran]
    exact (queueReply_queuesNone _ _ _ _).last opened.queuesNone

theorem resetRow_queuesNone (s : State) (address tag : Byte) (args : List Byte) :
    QueuesNone s (resetRow address tag args s) := by
  rcases resetRow_cases s address tag args with away | ⟨u, opened, ran | ran⟩
  · exact away.queuesNone
  · rw [ran]
    have replied : ∀ r, QueuesNone s (queueReply (softReset u) 0x4F tag r) := fun r =>
      (queueReply_queuesNone _ _ _ r).last .of_empty
    unfold resetCommand
    exact .ite (replied _) ((offerStatus_queuesNone _ _).last (replied _))
  · rw [ran]
    exact (queueReply_queuesNone _ _ _ _).last opened.queuesNone

/-! ### The trunk -/

theorem Output.up_records (o : Output) : o.up.records = o.records := by
  unfold Output.up
  split
  · rfl
  · exact Output.kick_records _

theorem Output.down_records (o : Output) : o.down.records = o.records := by
  unfold Output.down
  split <;> rfl

/-- The transmitter takes nothing but the oldest record out of the queue (R161, R166). -/
theorem Output.endFrame_records (o : Output) : o.endFrame.records = o.records ∨ o.endFrame.records = o.records.tail := by
  unfold Output.endFrame
  split
  · exact .inl rfl
  · exact .inr (Output.kick_records _)
  · exact .inl (Output.kick_records _)

theorem endFrame_queuesNone (s : State) : QueuesNone s (s.onOut Output.endFrame) := by
  rcases s.out.endFrame_records with same | tail
  · exact .of_records same
  · rw [QueuesNone, State.onOut_out, tail]
    exact (List.tail_suffix _).filter _

/-! ### Every row, and the statement -/

theorem meaning_queuesNone (c : Instr) {s : State} (h : DrainLegal s) (op : s.cmd.op = .standby) :
    QueuesNone s (meaning c s) := by
  obtain ⟨toZone, toSpan, reports, onWay⟩ := standby_quiet h op
  by_cases rows : ∃ row, commandRow c = some row
  · obtain ⟨row, hc⟩ := rows
    exact command_queuesNone hc op
  · by_cases hc : Part.out ∈ footprint c
    · cases c <;> simp only [footprint, List.mem_cons, List.not_mem_nil, reduceCtorEq, or_false, or_self] at hc <;>
        simp only [commandRow, reduceCtorEq, exists_false, Option.some.injEq, exists_eq', not_true_eq_false] at rows
      case profileFrame p a b => exact profileFrame_queuesNone s p a b
      case headReplyFrame p a b => exact headReplyFrame_queuesNone s p a b
      case frameFailed r rx => exact .of_changes (frameFailed_changes s r rx) (by cases r <;> simp [receiverPart])
      case lineChange oda odb late => exact lineChange_queuesNone s oda odb late
      case silenceTimerExpiry p => exact silenceTimerExpiry_queuesNone s p
      case scanResolution => exact .of_records (congrArg (·.out.records) (scanResolution_none toZone))
      case trackListArrival => exact .of_records (congrArg (·.out.records) (trackListArrival_none toSpan))
      case stopListArrival => exact .of_records (congrArg (·.out.records) (stopListArrival_none toSpan))
      case runOpeningReport => exact .of_records (congrArg (·.out.records) (runOpeningReport_none reports))
      case scanFinishedReport => exact .of_records (congrArg (·.out.records) (scanFinishedReport_none reports))
      case triggerArrival => exact .of_records (congrArg (·.out.records) (triggerArrival_none onWay))
      case trunkEndDelimiter => exact endFrame_queuesNone s
      case linkUp =>
        refine .of_records ?_
        show (if s.held = true then _ else _ : Output).records = _
        split
        · rfl
        · exact s.out.up_records
      case linkDown =>
        refine .of_records ?_
        show (if s.held = true then _ else _ : Output).records = _
        split
        · rfl
        · exact s.out.down_records
      case unknownCommand a code tag args => exact unknownRow_queuesNone s a code tag args
      case reset a tag args => exact resetRow_queuesNone s a tag args
      case hardReset => exact .of_empty
      case hardResetEnd a m x y => exact (offerStatus_queuesNone _ _).last .of_empty
    · exact .of_changes (meaning_changes c s) hc

/-- No step from STANDBY queues a record of a measurement (R157, Law 10). -/
theorem step_queuesNone {s t : State} (h : DrainLegal s) (op : s.cmd.op = .standby) (run : step s = .next t) :
    QueuesNone s t := by
  unfold step at run
  split at run
  · next c rest _ =>
    have kept : QueuesNone s (s.onPending fun _ => rest) := .of_records
    exact exec_keeps (P := QueuesNone s) run kept
      ((meaning_queuesNone c (s := s.onPending fun _ => rest) h.congr op).last kept)
  · cases run
    unfold idle
    dsimp only
    exact .ite .of_records .of_records

/-- Settles O59. -/
theorem odometerAndPlansKept : Obligations.OdometerAndPlansKept :=
  ⟨odometerLegal_kept, plansLegal_kept, drainLegal_kept, fun _ _ h op run => step_queuesNone h op run⟩

end Sys2Proof.Machine
end

section
/-! PROOF. LINE_CHANGE: an odometer error, a step, a step beyond a limit, and the step that raises a trigger
(O15, O16, O17). -/

namespace Sys2Proof.Machine

set_option Elab.async false

/-! ### The sense and the length of a step (R20, R21) -/

/-- The sense of a change of one line in the words of Table 2-2 and the odometer sense. -/
theorem stepSense_eq (a b oda odb : Bool) (odo : OdoSense) :
    stepSense (decide ((oda, odb) = nextALeads a b)) odo =
      if (a, b, oda, odb) ∈
          [(false, false, true, false), (true, false, true, true), (true, true, false, true),
            (false, true, false, false)] ↔
        odo = .aLeadsIncreasing then .increasing else .decreasing := by
  cases odo <;> revert a b oda odb <;> decide

/-- The accumulator after a step, before it is held to the limits (R21). -/
def movedBy (units : Int) (sense : Sense) (stepLength : Nat) : Int :=
  if sense = .increasing then units + stepLength else units - stepLength

/-- A distance in units lies beyond a limit (R22). -/
def PassesLimit (units : Int) : Prop := 2147483647 * 65536 < units ∨ units < -(2147483647 * 65536)

theorem stepSaturates_iff (units : Int) (sense : Sense) (stepLength : Nat) :
    stepSaturates units sense stepLength = true ↔ PassesLimit (movedBy units sense stepLength) := by
  cases sense <;>
    · simp only [stepSaturates, Bool.or_eq_true, decide_eq_true_eq]
      exact or_comm

theorem movedUnits_eq (units : Int) (sense : Sense) (stepLength : Nat) :
    movedUnits units sense stepLength =
      if 2147483647 * 65536 < movedBy units sense stepLength then 2147483647 * 65536
      else if movedBy units sense stepLength < -(2147483647 * 65536) then -(2147483647 * 65536)
      else movedBy units sense stepLength := by
  have held : ∀ x : Int, clamp (-(2147483647 * 65536)) (2147483647 * 65536) x =
      if 2147483647 * 65536 < x then 2147483647 * 65536
      else if x < -(2147483647 * 65536) then -(2147483647 * 65536) else x :=
    fun x => by unfold clamp; split_ifs <;> omega
  cases sense <;> exact held _

theorem movedUnits_within {units : Int} {sense : Sense} {stepLength : Nat}
    (within : ¬PassesLimit (movedBy units sense stepLength)) :
    movedUnits units sense stepLength = movedBy units sense stepLength := by
  rw [movedUnits_eq, if_neg fun above => within (.inl above), if_neg fun below => within (.inr below)]

/-- The step counters after a step (R20, R28). -/
theorem step_counters (o : Odometer) (sense : Sense) (stepLength : Nat) :
    (o.step sense stepLength).counters =
      { o.counters with
        increasing := if sense = .increasing then bump o.counters.increasing else o.counters.increasing
        decreasing := if sense = .increasing then o.counters.decreasing else bump o.counters.decreasing } := by
  cases sense <;> rfl

/-! ### The accumulator (R22) -/

/-- A step that sets the saturated flag offers a STATUS record. -/
theorem accumulate_saturates {s : State} {sense : Sense} (clear : s.odo.saturated = false)
    (passes : stepSaturates s.odo.units sense s.cmd.params.stepLength = true) :
    accumulate s sense = offerStatus (s.onOdo fun o => o.step sense s.cmd.params.stepLength) .distanceSaturated := by
  unfold accumulate
  exact if_pos (by simp [Odometer.step, clear, passes])

/-- A step that leaves the saturated flag as it is offers none. -/
theorem accumulate_unsaturated {s : State} {sense : Sense}
    (same : s.odo.saturated = true ∨ stepSaturates s.odo.units sense s.cmd.params.stepLength = false) :
    accumulate s sense = s.onOdo fun o => o.step sense s.cmd.params.stepLength := by
  unfold accumulate
  refine if_neg ?_
  rcases same with flagged | within
  · simp [flagged]
  · cases flag : s.odo.saturated <;> simp [Odometer.step, within, flag]

/-! ### A change of both lines, and a change of one (R19, R25) -/

/-- The sense of a change of one line (R20). -/
def lineSense (s : State) (oda odb : Bool) : Sense :=
  stepSense (decide ((oda, odb) = nextALeads s.odo.oda s.odo.odb)) s.cmd.params.odoSense

/-- The state with the levels of both lines taken as the reference pair (R19). -/
def withLines (s : State) (oda odb : Bool) : State := s.onOdo fun o => { o with oda := oda, odb := odb }

/-- The state in which the step of a line change has reached the accumulator, before the divider counts it. -/
def lineMoved (s : State) (oda odb : Bool) : State :=
  accumulate (withLines s oda odb) (lineSense s oda odb)

/-- The state in which the divider has counted the step of a line change. -/
def lineStepped (s : State) (oda odb : Bool) : State := countStep (lineMoved s oda odb)

theorem lineChange_error {s : State} {oda odb : Bool} (a : oda ≠ s.odo.oda) (b : odb ≠ s.odo.odb) (late : Bool) :
    lineChange s oda odb late =
      s.onOdo fun o =>
        { o with oda := oda, odb := odb, counters := { o.counters with errors := bump o.counters.errors } } := by
  rw [lineChange, if_neg fun same => a same.1]
  exact if_pos ⟨a, b⟩

theorem lineChange_step {s : State} {oda odb : Bool} (one : oda = s.odo.oda ↔ odb ≠ s.odo.odb) (late : Bool) :
    lineChange s oda odb late =
      if raisesTrigger (lineMoved s oda odb) then sendTrigger (lineStepped s oda odb) late else lineStepped s oda odb := by
  rw [lineChange, if_neg fun same => one.1 same.1 same.2]
  exact if_neg fun both => both.1 (one.2 both.2)

theorem lineMoved_changes (s : State) (oda odb : Bool) : OnlyChanges [.odo, .out] s (lineMoved s oda odb) :=
  .last (accumulate_changes _ _) (s.onOdo_changes _).mono

theorem lineMoved_cmd (s : State) (oda odb : Bool) : (lineMoved s oda odb).cmd = s.cmd :=
  (lineMoved_changes s oda odb).1 .cmd (by decide)

theorem lineMoved_odo (s : State) (oda odb : Bool) :
    (lineMoved s oda odb).odo =
      { s.odo with oda := oda, odb := odb }.step (lineSense s oda odb) s.cmd.params.stepLength := accumulate_odo _ _

theorem lineMoved_divider (s : State) (oda odb : Bool) : (lineMoved s oda odb).odo.divider = s.odo.divider := by
  rw [lineMoved_odo]
  rfl

theorem lineMoved_saturated (s : State) (oda odb : Bool) :
    (lineMoved s oda odb).odo.saturated =
      (s.odo.saturated || stepSaturates s.odo.units (lineSense s oda odb) s.cmd.params.stepLength) := by
  rw [lineMoved_odo]
  rfl

theorem lineMoved_unsaturated {s : State} {oda odb : Bool}
    (same : s.odo.saturated = true ∨ stepSaturates s.odo.units (lineSense s oda odb) s.cmd.params.stepLength = false) :
    OnlyChanges [.odo] s (lineMoved s oda odb) := by
  rw [lineMoved, accumulate_unsaturated (s := withLines s oda odb) same]
  exact .last (State.onOdo_changes _ _) (s.onOdo_changes _)

/-- A step that sets the saturated flag tells it in a STATUS record, which class B room admits (R22, R162). -/
theorem lineMoved_saturates {s : State} {oda odb : Bool} (clear : s.odo.saturated = false)
    (passes : stepSaturates s.odo.units (lineSense s oda odb) s.cmd.params.stepLength = true) (room : s.out.occupancy < 60) :
    ∃ f, ShowsStatus f s.cmd.station .distanceSaturated s.cmd.op s.roof ∧
      (lineMoved s oda odb).out = withStatus s.out f := by
  rw [lineMoved, accumulate_saturates (s := withLines s oda odb) clear passes, offerStatus_room (by exact room)]
  have told := showsStatus
    ((withLines s oda odb).onOdo fun o => o.step (lineSense s oda odb) s.cmd.params.stepLength) .distanceSaturated
  exact ⟨_, told, rfl⟩

/-! ### The step that raises no trigger (R25) -/

theorem countStep_quiet {s : State} (above : s.cmd.op = .running → 2 ≤ s.odo.divider) :
    countStep s = s.onOdo fun o => { o with divider := if s.cmd.op = .running then o.divider - 1 else o.divider } := by
  by_cases op : s.cmd.op = .running
  · simp only [if_pos op]
    exact countStep_down op (above op)
  · simp only [if_neg op]
    exact countStep_idle op

theorem lineStepped_quiet {s : State} (above : s.cmd.op = .running → 2 ≤ s.odo.divider) (oda odb : Bool) :
    lineStepped s oda odb =
      (lineMoved s oda odb).onOdo fun o =>
        { o with divider := if s.cmd.op = .running then o.divider - 1 else o.divider } := by
  rw [lineStepped, countStep_quiet (by rwa [lineMoved_cmd, lineMoved_divider]), lineMoved_cmd]

theorem lineChange_quiet {s : State} {oda odb : Bool} (one : oda = s.odo.oda ↔ odb ≠ s.odo.odb)
    (above : s.cmd.op = .running → 2 ≤ s.odo.divider) (late : Bool) :
    lineChange s oda odb late = lineStepped s oda odb := by
  rw [lineChange_step one]
  refine if_neg ?_
  simp only [raisesTrigger, lineMoved_cmd, lineMoved_divider, Bool.and_eq_true, beq_iff_eq, decide_eq_true_eq, not_and]
  intro op
  have := above op
  omega

/-- Settles O15: a change of both lines is counted as an error; a change of one moves the accumulator and the divider. -/
theorem lineChangeCounts : Obligations.LineChangeCounts := by
  unfold Obligations.LineChangeCounts
  intro s oda odb late released
  refine ⟨fun a b => ⟨_, exec_live _ released, ?_⟩, fun one above => ?_⟩
  · rw [show meaning (.lineChange oda odb late) s = lineChange s oda odb late from rfl, lineChange_error a b]
    exact ⟨s.onOdo_changes _, rfl⟩
  · intro aLeads sense moved high low
    have sense_eq : lineSense s oda odb = sense := stepSense_eq _ _ _ _ _
    have within : ¬PassesLimit (movedBy s.odo.units (lineSense s oda odb) s.cmd.params.stepLength) := by
      rw [sense_eq]
      exact fun passes => passes.elim (Int.not_lt.2 high) (Int.not_lt.2 low)
    have unsaturated : stepSaturates s.odo.units (lineSense s oda odb) s.cmd.params.stepLength = false := by
      rw [← Bool.not_eq_true, stepSaturates_iff]
      exact within
    have units : (lineMoved s oda odb).odo.units = moved := by
      rw [lineMoved_odo, show moved = movedBy s.odo.units sense s.cmd.params.stepLength from rfl, ← sense_eq]
      exact movedUnits_within within
    refine ⟨_, exec_live _ released, ?_⟩
    rw [show meaning (.lineChange oda odb late) s = lineChange s oda odb late from rfl, lineChange_quiet one above,
      lineStepped_quiet above oda odb]
    refine ⟨.last (State.onOdo_changes _ _) (lineMoved_unsaturated (.inr unsaturated)),
      ?_, ?_, ?_, ?_, ?_, ?_, ?_, ?_, ?_, ?_, ?_⟩
    · rw [State.onOdo_odo, lineMoved_odo]; rfl
    · rw [State.onOdo_odo, lineMoved_odo]; rfl
    · rw [State.onOdo_odo, lineMoved_odo]; exact sense_eq
    · simp only [State.onOdo_odo, Odometer.mm, Odometer.fraction, units, Config.unitsPerMm]
      omega
    · exact Int.emod_nonneg _ (by decide)
    · exact Int.emod_lt_of_pos _ (by decide)
    · rw [← lineMoved_divider s oda odb]; rfl
    · rw [State.onOdo_odo]
      exact (lineMoved_saturated s oda odb).trans (by rw [unsaturated, Bool.or_false])
    · rw [State.onOdo_odo, lineMoved_odo]; rfl
    · rw [State.onOdo_odo, lineMoved_odo]; rfl
    · rw [State.onOdo_odo, lineMoved_odo]
      refine (step_counters _ _ s.cmd.params.stepLength).trans ?_
      rw [sense_eq]
      split <;> rfl

/-! ### The step beyond a limit (R22) -/

theorem mm_of_limit {o : Odometer} {limit : Int} (units : o.units = limit * 65536) : o.mm = limit ∧ o.fraction = 0 := by
  simp only [Odometer.mm, Odometer.fraction, units, Config.unitsPerMm]
  omega

/-- Settles O16: the accumulator stops at the limit that the step passes, and only a flag that changes is told. -/
theorem distanceSaturates : Obligations.DistanceSaturates := by
  unfold Obligations.DistanceSaturates
  intro s oda odb late released one above
  have odo : ∀ f, ((lineMoved s oda odb).onOdo f).odo = f (lineMoved s oda odb).odo := fun _ => rfl
  have sense : (lineMoved s oda odb).odo.sense = lineSense s oda odb := by rw [lineMoved_odo]; rfl
  have units : (lineMoved s oda odb).odo.units = movedUnits s.odo.units (lineSense s oda odb) s.cmd.params.stepLength := by
    rw [lineMoved_odo]; rfl
  have saturates : PassesLimit (movedBy s.odo.units (lineSense s oda odb) s.cmd.params.stepLength) →
      (lineMoved s oda odb).odo.saturated = true := fun passes => by
    rw [lineMoved_saturated, (stepSaturates_iff _ _ _).2 passes, Bool.or_true]
  refine ⟨_, exec_live _ released, ?_⟩
  rw [show meaning (.lineChange oda odb late) s = lineChange s oda odb late from rfl, lineChange_quiet one above,
    lineStepped_quiet above oda odb]
  have rest : ∀ f, OnlyChanges [.odo] (lineMoved s oda odb) ((lineMoved s oda odb).onOdo f) := fun f =>
    State.onOdo_changes _ f
  simp only [odo]
  refine ⟨by rw [lineMoved_divider], fun up beyond => ?_, fun down beyond => ?_, fun same => ?_, fun other room => ?_⟩
  · rw [sense] at up
    have passes : 2147483647 * 65536 < movedBy s.odo.units (lineSense s oda odb) s.cmd.params.stepLength := by
      rw [movedBy, if_pos up]
      exact beyond
    obtain ⟨mm, fraction⟩ := mm_of_limit (o := (lineMoved s oda odb).odo)
      (units.trans (by rw [movedUnits_eq, if_pos passes]))
    exact ⟨mm, fraction, saturates (.inl passes)⟩
  · rw [sense] at down
    have passes : movedBy s.odo.units (lineSense s oda odb) s.cmd.params.stepLength < -(2147483647 * 65536) := by
      rw [movedBy, down]
      exact beyond
    obtain ⟨mm, fraction⟩ := mm_of_limit (o := (lineMoved s oda odb).odo) (limit := -2147483647)
      (units.trans (by rw [movedUnits_eq, if_neg (by omega), if_pos passes]; rfl))
    exact ⟨mm, fraction, saturates (.inr passes)⟩
  · refine .last (rest _) (lineMoved_unsaturated ?_)
    rw [lineMoved_saturated] at same
    cases flag : s.odo.saturated
    · rw [flag, Bool.false_or] at same
      exact .inr same
    · exact .inl rfl
  · rw [lineMoved_saturated] at other
    have clear : s.odo.saturated = false := by
      cases flag : s.odo.saturated
      · rfl
      · exact absurd (by rw [flag, Bool.true_or]) other
    have passes : stepSaturates s.odo.units (lineSense s oda odb) s.cmd.params.stepLength = true := by
      simpa [clear] using other
    exact ⟨.last (rest _) (lineMoved_changes s oda odb), lineMoved_saturates clear passes room⟩

/-! ### The step that raises a trigger (R25) -/

theorem handleTrigger_spanClosed {s : State} (none_ : s.paths.spanClosed = false) :
    (handleTrigger s).paths.spanClosed = false := by
  have same : spanWaits s false = s := by rw [spanWaits, ← none_]
  rw [← same, handleTrigger_ignores]
  rfl

/-- With no span closed report waiting, a trigger on its way is handled and nothing else happens (log entry 21). -/
theorem triggerArrival_plain {s : State} (some_ : 0 < s.seq.onWay) (none_ : s.paths.spanClosed = false) :
    triggerArrival s = handleTrigger (s.onSeq fun q => { q with onWay := q.onWay - 1 }) := by
  rw [triggerArrival_settles some_]
  exact settleSpanClosed_none (handleTrigger_spanClosed none_)

theorem lineStepped_raises {s : State} (op : s.cmd.op = .running) (last : s.odo.divider = 1) (oda odb : Bool) :
    lineStepped s oda odb =
      (lineMoved s oda odb).onOdo fun o =>
        { o with divider := o.spacing, counters := { o.counters with triggers := bump o.counters.triggers } } :=
  countStep_raises (by rwa [lineMoved_cmd]) (by rw [lineMoved_divider, last])

theorem lineChange_raises {s : State} {oda odb : Bool} (one : oda = s.odo.oda ↔ odb ≠ s.odo.odb)
    (op : s.cmd.op = .running) (last : s.odo.divider = 1) (late : Bool) :
    lineChange s oda odb late = sendTrigger (lineStepped s oda odb) late := by
  rw [lineChange_step one]
  exact if_pos (by simp [raisesTrigger, lineMoved_cmd, lineMoved_divider, op, last])

/-- A trigger that is sent late and then arrives is handled as one that is handled at once (R25, R40, log entry 6). -/
theorem triggerArrival_sendTrigger {s : State} (none_ : s.paths.spanClosed = false) :
    triggerArrival (sendTrigger s true) = sendTrigger s false :=
  triggerArrival_plain (Nat.succ_pos s.seq.onWay) none_

theorem lineStepped_changes (s : State) (oda odb : Bool) : OnlyChanges [.odo, .out] s (lineStepped s oda odb) :=
  .last (countStep_changes _) (lineMoved_changes s oda odb)

/-- Settles O17: the step is counted, its trigger stays on its way, and TRIGGER_ARRIVAL handles it as LINE_CHANGE would. -/
theorem dividerRaisesTrigger : Obligations.DividerRaisesTrigger := by
  unfold Obligations.DividerRaisesTrigger
  intro s oda odb released one op last none_ aLeads sense moved limit passes c
  have sense_eq : lineSense s oda odb = sense := stepSense_eq _ _ _ _ _
  have stepped := lineStepped_changes s oda odb
  have raised := lineStepped_raises op last oda odb
  have saturates : stepSaturates s.odo.units (lineSense s oda odb) s.cmd.params.stepLength = decide passes := by
    rw [Bool.eq_iff_iff, stepSaturates_iff, sense_eq, decide_eq_true_iff]
    exact Iff.rfl
  have late := exec_live (.lineChange oda odb true) released
  have atOnce := exec_live (.lineChange oda odb false) released
  rw [show meaning (.lineChange oda odb true) s = _ from lineChange_raises one op last true] at late
  rw [show meaning (.lineChange oda odb false) s = _ from lineChange_raises one op last false] at atOnce
  refine ⟨_, late, ?_, ?_, fun same => ?_, fun clear beyond => ⟨?_, fun room => ?_⟩, ?_⟩
  · show (lineStepped s oda odb).odo = _
    have units : (if limit < moved then limit else if moved < -limit then -limit else moved) =
        movedUnits s.odo.units sense s.cmd.params.stepLength := (movedUnits_eq _ _ _).symm
    rw [raised, State.onOdo_odo, lineMoved_odo, sense_eq, step_counters, units, ← saturates, sense_eq]
    rfl
  · show { (lineStepped s oda odb).seq with onWay := (lineStepped s oda odb).seq.onWay + 1 } = _
    rw [stepped.1 .seq (by decide)]
  · refine .last (State.onSeq_changes _ _) ?_
    rw [raised]
    refine .last (State.onOdo_changes _ _) ((lineMoved_unsaturated ?_).mono)
    rw [saturates, decide_eq_false_iff_not]
    exact same
  · exact .last (State.onSeq_changes _ _) stepped.mono
  · show ∃ f, _ ∧ (lineStepped s oda odb).out = _
    rw [raised, ← op]
    exact lineMoved_saturates clear (saturates.trans (decide_eq_true beyond)) room
  · have held : (lineStepped s oda odb).held = s.held := stepped.1 .held (by decide)
    have free : (sendTrigger (lineStepped s oda odb) true).held = false := held.trans released
    have quiet : (lineStepped s oda odb).paths.spanClosed = false := by
      rw [stepped.1 .paths (by decide)]
      exact none_
    rw [atOnce, exec_live .triggerArrival free]
    exact congrArg Host.Outcome.next (triggerArrival_sendTrigger quiet).symm

end Sys2Proof.Machine
end

section
/-! PROOF. Commands of the odometer unit: SET_SCAN_SPACING and SET_DISTANCE (O46, O47). -/

namespace Sys2Proof.Machine

set_option Elab.async false

/-! ### SET_SCAN_SPACING (R26) -/

theorem setScanSpacing_refuses {args : List Byte} (out : natField args 0 2 = 0 ∨ 256 < natField args 0 2) (s : State) :
    setScanSpacing args s = (s, { result := .badArgument }) := if_pos out

theorem setScanSpacing_loads {args : List Byte} (low : 1 ≤ natField args 0 2) (high : natField args 0 2 ≤ 256)
    (s : State) :
    setScanSpacing args s =
      (s.onOdo fun o => { o with spacing := natField args 0 2, divider := natField args 0 2 }, { result := .done }) :=
  if_neg fun out => out.elim (Nat.ne_of_gt low) (Nat.not_lt.2 high)

/-- Settles O46: the argument decides between the refusal and the loading of spacing and count. -/
theorem spacingSet : Obligations.SpacingSet := by
  unfold Obligations.SpacingSet
  intro s address tag args taken len
  refine ⟨_, exec_taken (c := .setScanSpacing address tag args) rfl taken (beq_iff_eq.2 len) rfl,
    fun out => ?_, fun low high => ?_⟩
  · have refuses := setScanSpacing_refuses out (takenState s)
    rw [show CommandRow.body _ _ = _ from refuses]
    exact onlyAnswers_taken s _ _ _
  · have loads := setScanSpacing_loads low high (takenState s)
    rw [show CommandRow.body _ _ = _ from loads]
    exact ⟨taken_changes ((State.onOdo_changes _ _).mono) _ _ _, answered_of_body rfl rfl _ _ _, rfl⟩

/-! ### SET_DISTANCE (R23) -/

/-- Of the arguments that four octets hold, the least one alone lies outside the accumulator's range. -/
theorem distanceArg_outside (args : List Byte) :
    distanceArg args < -Config.distanceLimit ↔ intField args 0 4 = -2147483648 := by
  have := intField_four_range args 0
  simp only [distanceArg, Config.distanceLimit]
  omega

theorem setDistance_refuses {args : List Byte} (least : intField args 0 4 = -2147483648) (s : State) :
    setDistance args s = (s, { result := .badArgument }) := if_pos ((distanceArg_outside args).2 least)

theorem setDistance_loads {args : List Byte} (other : intField args 0 4 ≠ -2147483648) (s : State) :
    setDistance args s =
      (s.onOdo fun o => o.load (intField args 0 4), { result := .done, data := [s.odo.epoch + 1] }) :=
  if_neg (mt (distanceArg_outside args).1 other)

/-- Settles O47: the argument decides between the refusal and the loading of the accumulator. -/
theorem distanceSet : Obligations.DistanceSet := by
  unfold Obligations.DistanceSet
  intro s address tag args taken len
  refine ⟨_, exec_taken (c := .setDistance address tag args) rfl taken (beq_iff_eq.2 len) rfl,
    fun least => ?_, fun other => ?_⟩
  · have refuses := setDistance_refuses least (takenState s)
    rw [show CommandRow.body _ _ = _ from refuses]
    exact onlyAnswers_taken s _ _ _
  · have loads := setDistance_loads other (takenState s)
    obtain ⟨mm, fraction⟩ := mm_of_limit (o := s.odo.load (intField args 0 4)) rfl
    rw [show CommandRow.body _ _ = _ from loads]
    exact ⟨taken_changes ((State.onOdo_changes _ _).mono) _ _ _, answered_of_body rfl rfl _ _ _,
      mm, fraction, rfl, rfl, rfl, rfl, rfl, rfl, rfl, rfl⟩

end Sys2Proof.Machine
end

section
/-! PROOF. A MOTION frame, and the ends that time brings (O18, O23). -/

namespace Sys2Proof.Machine

set_option Elab.async false

/-! ### A MOTION frame (R30, R31) -/

/-- A MOTION frame of 13 octets to the motion receiver's own address passes the receive checks (R3). -/
theorem checkIntact_motion {s : State} {payload : List Byte} (len : payload.length = 13) :
    checkIntact (s.portRule .motion) ⟨kindMotion, s.cmd.params.motionId, payload⟩ =
      .good ⟨kindMotion, s.cmd.params.motionId, payload⟩ := by
  simp [checkIntact, State.portRule, kindLengthOk, kindMotion, kindProfile, kindHeadReply, Config.maxPayload, len]

theorem motionFrame_good {s : State} {payload : List Byte} (clear : s.motion.frame = none) (len : payload.length = 13) :
    motionFrame s s.cmd.params.motionId payload =
      s.onMotion fun m =>
        { m with rx := { m.rx with good := bump m.rx.good } }.take (motionValues payload) s.timebase := by
  unfold motionFrame
  rw [settle_none (r := .motion) clear]
  simp only [checkIntact_motion len]
  rfl

theorem MotionPort.take_rx (m : MotionPort) (v : MotionValues) (now : Time) : (m.take v now).rx = m.rx := by
  unfold MotionPort.take
  split <;> rfl

theorem MotionPort.take_sample {v : MotionValues} (valid : v.quality ≤ 1) (m : MotionPort) (now : Time) :
    m.take v now =
      { m with
        held := some (clampedSample v now)
        sinceStart := true
        counters :=
          { m.counters with
            taken := bump m.counters.taken
            clamped := if (clampedSample v now).clamped then bump m.counters.clamped else m.counters.clamped
            degraded := if (clampedSample v now).degraded then bump m.counters.degraded else m.counters.degraded } } :=
  if_pos valid

theorem MotionPort.take_invalid {v : MotionValues} (invalid : 2 ≤ v.quality) (m : MotionPort) (now : Time) :
    m.take v now = { m with counters := { m.counters with invalid := bump m.counters.invalid } } :=
  if_neg (Nat.not_le.2 invalid)

theorem clamp_eq_max_min {lo hi : Int} (ordered : lo ≤ hi) (x : Int) : clamp lo hi x = max lo (min hi x) := by
  unfold clamp
  split_ifs <;> omega

/-- A value is cut exactly when it lies outside its range. -/
theorem clamp_ne_self {lo hi : Int} (x : Int) : clamp lo hi x ≠ x ↔ ¬(lo ≤ x ∧ x ≤ hi) := by
  unfold clamp
  split_ifs <;> omega

theorem clampedSample_clamped (v : MotionValues) (now : Time) :
    (clampedSample v now).clamped = true ↔
      ¬((-50000 ≤ v.roll ∧ v.roll ≤ 50000) ∧ (-500000 ≤ v.shift ∧ v.shift ≤ 500000) ∧
        (0 ≤ v.vertical ∧ v.vertical ≤ 8000000)) := by
  simp only [clampedSample, Bool.or_eq_true, bne_iff_ne, clamp_ne_self]
  tauto

/-- Settles O18: the quality code decides whether the hold takes the sample. -/
theorem motionFrameTaken : Obligations.MotionFrameTaken := by
  unfold Obligations.MotionFrameTaken
  intro s payload released clear len roll shift vertical cut
  have low : 0 ≤ vertical := Int.natCast_nonneg _
  have run : meaning (.motionFrame s.cmd.params.motionId payload) s = _ := motionFrame_good clear len
  refine ⟨_, exec_live _ released, ?_, ?_, fun valid => ?_, fun invalid => ?_⟩
  · exact motionFrame_changes _ _ _
  · rw [run]
    exact MotionPort.take_rx _ _ _
  · rw [run, State.onMotion_motion, MotionPort.take_sample valid]
    refine ⟨_, rfl, rfl, ?_, ?_, ?_, ?_, rfl, rfl, beq_iff_eq, rfl⟩
    · exact clamp_eq_max_min (by omega) roll
    · exact clamp_eq_max_min (by omega) shift
    · refine (clamp_eq_max_min (lo := 0) (hi := 8000000) (by omega) vertical).trans ?_
      omega
    · rw [clampedSample_clamped]
      show ¬((-50000 ≤ roll ∧ roll ≤ 50000) ∧ (-500000 ≤ shift ∧ shift ≤ 500000) ∧
        (0 ≤ vertical ∧ vertical ≤ 8000000)) ↔ cut
      simp only [cut, low, true_and, and_assoc]
  · rw [run, State.onMotion_motion, MotionPort.take_invalid invalid]
    exact ⟨rfl, rfl, rfl⟩

/-! ### The ends that time brings (R32, R39, R44) -/

theorem exposureEnd_due {s : State} {q : SlotSequence} {k : Slot} (slots : s.seq.slots = some q)
    (current : q.current = some k) (due : k.offset + k.exposure ≤ elapsed s.timebase q.trigger) :
    exposureEnd s k.port =
      s.onSeq fun m =>
        { m with
          slots := if q.remaining = [] then none else some { q with current := none }
          lines := m.lines.set k.port false } := by
  have ends : exposureDue s k.port = some q := by
    simp only [exposureDue, slots, current]
    exact if_pos ⟨trivial, due⟩
  simp only [exposureEnd, ends, List.isEmpty_iff]

theorem busyWindowClose_due {s : State} {w : BusyWindow} (busy : s.seq.busy = some w)
    (due : w.length ≤ elapsed s.timebase w.trigger) :
    busyWindowClose s = s.onSeq fun q => { q with busy := none } :=
  if_pos (by simp [busyDue, busy, due])

theorem holdAgeExpiry_due {s : State} {h : MotionSample} (held : s.motion.held = some h) (young : h.old = false)
    (due : 1000000 ≤ elapsed s.timebase h.arrival) :
    holdAgeExpiry s = s.onMotion fun m => { m with held := some { h with old := true } } := by
  have reached : holdDue s = true := by simp [holdDue, held, young, Config.holdAge, due]
  rw [holdAgeExpiry, if_pos reached]
  simp [State.onMotion, held]

/-- Settles O23: each of the three ends, from its time on. -/
theorem timedEnds : Obligations.TimedEnds := by
  unfold Obligations.TimedEnds
  intro s released
  refine ⟨fun q k slots current due => ?_, fun w busy due => ?_, fun h held young due => ?_⟩
  · exact ⟨_, (exec_live (.exposureEnd k.port) released).trans (congrArg _ (exposureEnd_due slots current due)),
      s.onSeq_changes _, rfl⟩
  · exact ⟨_, (exec_live .busyWindowClose released).trans (congrArg _ (busyWindowClose_due busy due)),
      s.onSeq_changes _, rfl⟩
  · exact ⟨_, (exec_live .holdAgeExpiry released).trans (congrArg _ (holdAgeExpiry_due held young due)),
      s.onMotion_changes _, rfl⟩

end Sys2Proof.Machine
end

section
/-! PROOF. A trigger that starts a scan (O21). -/

namespace Sys2Proof.Machine

set_option Elab.async false

/-! ### The context of a scan that starts (R42, R49, R60) -/

/-- A port that a scan starting now awaits: strobed, and SEEKING or ACTIVE (R42). -/
def AwaitedNow (s : State) (p : Port) : Prop :=
  s.roof.enabled.get p = true ∧ ((s.port p).state = .seeking ∨ (s.port p).state = .active)

theorem awaitable_iff (k : PortState) : k.awaitable = true ↔ k = .seeking ∨ k = .active := by
  cases k <;> simp [PortState.awaitable]

theorem newContext_awaited (s : State) (p : Port) : (newContext s).awaited.get p = true ↔ AwaitedNow s p := by
  rw [newContext, Quad.get_ofFn, Bool.and_eq_true, awaitable_iff, AwaitedNow]

theorem newContext_awaited_isEmpty (s : State) : (newContext s).awaited.isEmpty = true ↔ ∀ p, ¬AwaitedNow s p := by
  rw [Quad.isEmpty_iff]
  exact forall_congr' fun p => by rw [← newContext_awaited, Bool.not_eq_true]

/-- With nothing delivered yet, completion finds every strobed port missing (R60). -/
theorem newContext_completed_missing (s : State) : (newContext s).completed.missing = s.roof.enabled :=
  Quad.ext_get fun p => by
    rw [completed_missing]
    cases p <;> exact Bool.and_true _

/-- The context as its scan start leaves it: with no port awaited it is COMPLETE at once (R49). -/
def ScanContext.opened (c : ScanContext) : ScanContext :=
  { c with
    complete := c.awaited.isEmpty
    missing := if c.awaited.isEmpty then c.completed.missing else c.missing }

theorem ScanContext.opened_of_awaited {c : ScanContext} (collecting : c.complete = false)
    (some_ : c.awaited.isEmpty = false) :
    c.opened = c := by
  rw [ScanContext.opened, some_, if_neg Bool.false_ne_true, ← collecting]

theorem ScanContext.opened_of_none {c : ScanContext} (none_ : c.awaited.isEmpty = true) : c.opened = c.completed := by
  simp [ScanContext.opened, none_, ScanContext.completed]

/-- Where no other context in use has its number, a collecting context at the tail is the only one to complete (R60). -/
theorem completeWhere_tail {a : Assembler} {c : ScanContext} (collecting : c.complete = false)
    (distinct : ∀ k ∈ a.contexts, k.scan ≠ c.scan) :
    completeWhere (fun k => k.scan == c.scan) { a with contexts := a.contexts ++ [c] } =
      { a with
        contexts := a.contexts ++ [c.completed]
        missing := Quad.ofFn fun p =>
          if c.completed.missing.get p = true then bump (a.missing.get p) else a.missing.get p } := by
  have passed : ∀ k ∈ a.contexts, (!k.complete && k.scan == c.scan) = false := fun k mem => by simp [distinct k mem]
  have others : a.contexts.filter (fun k => !k.complete && k.scan == c.scan) = [] :=
    List.filter_eq_nil_iff.2 fun k mem => by simp [passed k mem]
  have same : a.contexts.map (fun k => if !k.complete && k.scan == c.scan then k.completed else k) = a.contexts :=
    (List.map_congr_left fun k mem => by rw [passed k mem]; rfl).trans (List.map_id _)
  have counted : ∀ p, bumpBy (a.missing.get p) (List.countP (fun k : ScanContext => k.missing.get p) [c.completed]) =
      if c.completed.missing.get p = true then bump (a.missing.get p) else a.missing.get p := fun p => by
    cases missing : c.completed.missing.get p <;> simp [missing, bumpBy_zero, bump]
  simp only [completeWhere, List.map_append, List.filter_append, same, others, ← counted]
  simp [collecting]

/-! ### The snapshot (R24, R33) -/

theorem motionReading_none {m : MotionPort} (none_ : m.sinceStart = false ∨ m.held = none) (params : RunParams)
    (now : Time) :
    motionReading m params now = ⟨0, 0, params.roofHeight, { noMotion := true }⟩ := by
  unfold motionReading
  rcases none_ with h | h <;> simp [h]

theorem motionReading_held {m : MotionPort} {h : MotionSample} (started : m.sinceStart = true) (held : m.held = some h)
    (params : RunParams) (now : Time) :
    motionReading m params now =
      ⟨h.roll, h.shift, h.vertical,
        { motionStale := h.staleAt now params.motionMaxAge
          motionDegraded := h.degraded
          motionClamped := h.clamped }⟩ := by
  simp only [motionReading, started, held]

theorem staleAt_iff (h : MotionSample) (now : Time) (maxAge : Nat) :
    h.staleAt now maxAge = true ↔ h.old = true ∨ maxAge < elapsed now h.arrival := by
  rw [MotionSample.staleAt, Bool.or_eq_true, decide_eq_true_iff]

/-! ### The scan start in two steps: what it always does, and the release of a scan that awaits no port -/

/-- The state in which the scan has begun and its context collects. -/
def scanBegun (s : State) : State :=
  ((s.onMotion fun m => m.countSnapshot (newContext s).snapshot.motion).onSeq fun q =>
    q.startScan s.timebase s.roof.enabled).onAsm fun a => { a with contexts := a.contexts ++ [newContext s] }

theorem scanBegun_changes (s : State) : OnlyChanges [.motion, .seq, .asm] s (scanBegun s) :=
  .last (State.onAsm_changes _ _) (.last (State.onSeq_changes _ _) (s.onMotion_changes _).mono)

theorem startScan_awaits {s : State} (some_ : (newContext s).awaited.isEmpty = false) : startScan s = scanBegun s :=
  if_neg (by simp [some_])

theorem startScan_complete {s : State} (none_ : (newContext s).awaited.isEmpty = true) :
    startScan s = release ((scanBegun s).onAsm (completeWhere fun k => k.scan == (newContext s).scan)) :=
  if_pos none_

/-- With ports awaited or with none, the scan has begun; what follows stays in the assembler and what a release reaches. -/
theorem startScan_begun (s : State) : OnlyChanges [.asm, .paths, .cmd] (scanBegun s) (startScan s) :=
  .ite (.last (release_changes _) (State.onAsm_changes _ _).mono) .rfl

theorem startScan_seq (s : State) : (startScan s).seq = s.seq.startScan s.timebase s.roof.enabled :=
  (startScan_begun s).1 .seq (by decide)

theorem startScan_motion (s : State) : (startScan s).motion = s.motion.countSnapshot (newContext s).snapshot.motion :=
  (startScan_begun s).1 .motion (by decide)

/-- What a scan start that awaits no port hands to release control (R49, R60, R61). -/
theorem startScan_completed {s : State} (none_ : (newContext s).awaited.isEmpty = true)
    (distinct : ∀ k ∈ s.asm.contexts, k.scan ≠ s.seq.scanCounter) :
    ∃ u, startScan s = release u ∧ u.paths = s.paths ∧ u.cmd = s.cmd ∧
      u.asm =
        { s.asm with
          contexts := s.asm.contexts ++ [(newContext s).completed]
          missing := Quad.ofFn fun p =>
            if s.roof.enabled.get p = true then bump (s.asm.missing.get p) else s.asm.missing.get p } := by
  refine ⟨_, startScan_complete none_, rfl, rfl, ?_⟩
  have completed := completeWhere_tail (a := s.asm) (c := newContext s) rfl distinct
  rw [newContext_completed_missing] at completed
  exact completed

/-- The state in which a trigger on its way has come to the sequencer (log entry 6). -/
def triggerTaken (s : State) : State := s.onSeq fun q => { q with onWay := q.onWay - 1 }

theorem triggerArrival_starts {s : State} (onWay : 0 < s.seq.onWay) (quiet : s.paths.spanClosed = false)
    (closed : ∀ w, s.seq.busy = some w → w.length ≤ elapsed s.timebase w.trigger) (free : s.asm.contexts.length < 4) :
    triggerArrival s = startScan (triggerTaken s) := by
  have idle : s.seq.busyAt s.timebase = false := by
    unfold Sequencer.busyAt
    cases busy : s.seq.busy with
    | none => rfl
    | some w => simpa using closed w busy
  rw [triggerArrival_plain onWay quiet]
  exact (if_neg (ne_true_of_eq_false idle)).trans (if_neg (Nat.not_le.2 free))

/-- A trigger's way to the sequencer leaves alone what the context is made of. -/
theorem triggerTaken_newContext (s : State) : newContext (triggerTaken s) = newContext s := rfl

/-- The slot sequence of the scan, as the statement writes it out. -/
theorem Sequencer.startScan_eq (q : Sequencer) (now : Time) (enabled : PortSet) :
    q.startScan now enabled =
      let plan := match q.staged with
        | some p => p
        | none => q.active
      let slots := plan.slots enabled
      { active := plan
        staged := none
        busy := some ⟨now, plan.length enabled⟩
        scanCounter := q.scanCounter + 1
        slots := if slots = [] then none else some ⟨q.scanCounter, now, none, slots⟩
        lines := ⟨false, false, false, false⟩
        onWay := q.onWay
        counters := { q.counters with started := bump q.counters.started } } := by
  unfold Sequencer.startScan Sequencer.nextPlan
  cases q.staged <;> simp only [List.isEmpty_iff, Option.getD_some, Option.getD_none] <;> rfl

/-- Settles O21: the scan's context, and what becomes of it with a port awaited and with none. -/
theorem triggerStartsScan : Obligations.TriggerStartsScan := by
  unfold Obligations.TriggerStartsScan
  intro s released onWay quiet closed free awaits
  have run := exec_live .triggerArrival released
  rw [show meaning .triggerArrival s = startScan (triggerTaken s) from triggerArrival_starts onWay quiet closed free] at run
  have taken : OnlyChanges [.seq] s (triggerTaken s) := s.onSeq_changes _
  have motion : (startScan (triggerTaken s)).motion = s.motion.countSnapshot (takeSnapshot s).motion := startScan_motion _
  refine ⟨_, (newContext s).opened, run, .last (startScan_changes _) taken.mono, fun some_ => ?_, fun none_ distinct => ?_,
    rfl, rfl, rfl, rfl, newContext_awaited s, fun p => Quad.get_replicate _ p, rfl, rfl, rfl, fun unsampled => ?_,
    fun h started held => ?_, ?_⟩
  · have awaited : (newContext s).awaited.isEmpty = false := by
      obtain ⟨p, hp⟩ := some_
      rw [← Bool.not_eq_true, newContext_awaited_isEmpty]
      exact fun none_ => none_ p hp
    rw [startScan_awaits (s := triggerTaken s) awaited, ScanContext.opened_of_awaited rfl awaited]
    exact ⟨.last (scanBegun_changes _) taken.mono, rfl, rfl, fun p => Quad.get_replicate _ p⟩
  · have awaited : (newContext s).awaited.isEmpty = true := (newContext_awaited_isEmpty s).2 none_
    obtain ⟨u, started, paths, cmd, asm⟩ := startScan_completed (s := triggerTaken s) awaited distinct
    intro after gone rest
    have contexts : u.asm.contexts = after := by
      rw [asm, triggerTaken_newContext, ← ScanContext.opened_of_none awaited]
      rfl
    have kept : after.dropWhile (·.complete) = rest := by
      rw [← List.drop_left (l₁ := gone) (l₂ := after.dropWhile (·.complete)), List.takeWhile_append_dropWhile]
    rw [started, release_asm, release_paths, release_cmd, contexts, kept, paths, cmd, asm,
      ScanContext.opened_of_none awaited]
    exact ⟨rfl, newContext_completed_missing s, rfl, rfl, rfl, rfl, rfl, fun p => Quad.get_ofFn _ p, rfl, rfl⟩
  · have reading := motionReading_none unsampled s.cmd.params s.timebase
    rw [motion]
    simp only [ScanContext.opened, newContext, takeSnapshot, reading]
    exact ⟨trivial, trivial, trivial, trivial, rfl⟩
  · have reading := motionReading_held started held s.cmd.params s.timebase
    intro stale
    have flag : h.staleAt s.timebase s.cmd.params.motionMaxAge = decide stale := by
      rw [Bool.eq_iff_iff, staleAt_iff, decide_eq_true_iff]
      exact Iff.rfl
    rw [motion]
    simp only [ScanContext.opened, newContext, takeSnapshot, reading, flag]
    refine ⟨trivial, trivial, trivial, trivial, fun old => ?_, fun fresh => ?_⟩
    · simp only [MotionPort.countSnapshot, old, decide_true]
      rfl
    · simp only [MotionPort.countSnapshot, fresh, decide_false]
      rfl
  · rw [startScan_seq, Sequencer.startScan_eq]
    rfl

end Sys2Proof.Machine
end

section
/-! PROOF. The slots of a scan, and the two overruns of a trigger (O19, O20). -/

namespace Sys2Proof.Machine

set_option Elab.async false

/-! ### The layout of slots (R43) -/

theorem layoutSlots_ports (plan : Plan) (ps : List Port) (start : Nat) :
    (layoutSlots plan ps start).map (·.port) = ps := by
  induction ps generalizing start with
  | nil => rfl
  | cons p ps ih => exact congrArg (p :: ·) (ih _)

/-- No slot begins before the offset from which the layout starts, and each lasts its port's exposure. -/
theorem layoutSlots_mem {plan : Plan} {ps : List Port} {start : Nat} {k : Slot} (h : k ∈ layoutSlots plan ps start) :
    start ≤ k.offset ∧ k.exposure = plan.exposure.get k.port := by
  induction ps generalizing start with
  | nil => cases h
  | cons p ps ih =>
    rcases List.mem_cons.1 h with rfl | later
    · exact ⟨Nat.le_refl _, rfl⟩
    · obtain ⟨after, exposure⟩ := ih later
      exact ⟨by omega, exposure⟩

/-- The slots laid out after one begin at its end and the guard, or later: this is Law 9. -/
theorem layoutSlots_pairwise (plan : Plan) (ps : List Port) (start : Nat) :
    (layoutSlots plan ps start).Pairwise fun a b => a.offset + a.exposure + plan.guard ≤ b.offset := by
  induction ps generalizing start with
  | nil => exact .nil
  | cons p ps ih => exact .cons (fun _ later => (layoutSlots_mem later).1) (ih _)

/-- Where a layout ends: after every exposure, with the guard between each two (R36). -/
theorem layoutSlots_last {plan : Plan} {ps : List Port} {start : Nat} {k : Slot}
    (h : (layoutSlots plan ps start).getLast? = some k) :
    k.offset + k.exposure = start + (ps.map plan.exposure.get).sum + (ps.length - 1) * plan.guard := by
  induction ps generalizing start with
  | nil => cases h
  | cons p ps ih =>
    cases ps with
    | nil =>
      obtain rfl : ⟨p, start, plan.exposure.get p⟩ = k := Option.some.inj h
      simp
    | cons q qs =>
      have rest := ih (start := start + plan.exposure.get p + plan.guard) (by simpa [layoutSlots] using h)
      rw [rest]
      simp only [List.map_cons, List.sum_cons, List.length_cons, Nat.add_sub_cancel, Nat.succ_mul]
      omega

/-- Settles O19: the laws of the layout, over the strobed ports and from the first delay on. -/
theorem slotsNeverOverlap : Obligations.SlotsNeverOverlap := by
  unfold Obligations.SlotsNeverOverlap
  intro plan ports
  exact ⟨layoutSlots_ports plan ports.members plan.firstDelay, fun _ => layoutSlots_mem,
    layoutSlots_pairwise plan ports.members plan.firstDelay, fun _ => layoutSlots_last⟩

/-! ### The overruns of a trigger (R40, R41) -/

theorem busyAt_iff (q : Sequencer) (now : Time) :
    q.busyAt now = true ↔ ∃ w, q.busy = some w ∧ elapsed now w.trigger < w.length := by
  simp only [Sequencer.busyAt, Option.any_eq_true, decide_eq_true_eq]

theorem handleTrigger_busy {s : State} (busy : s.seq.busyAt s.timebase = true) :
    handleTrigger s =
      s.onSeq fun q => { q with counters := { q.counters with overrunBusy := bump q.counters.overrunBusy } } :=
  if_pos busy

theorem handleTrigger_full {s : State} (idle : ¬s.seq.busyAt s.timebase = true) (full : 4 ≤ s.asm.contexts.length) :
    handleTrigger s =
      s.onSeq fun q => { q with counters := { q.counters with overrunContext := bump q.counters.overrunContext } } :=
  (if_neg idle).trans (if_pos full)

/-- Settles O20: a trigger comes to the sequencer, and there either overrun counts it. -/
theorem triggerOverrun : Obligations.TriggerOverrun := by
  unfold Obligations.TriggerOverrun
  intro s released onWay quiet open_
  have run : exec .triggerArrival s = .next (handleTrigger (triggerTaken s)) :=
    (exec_live .triggerArrival released).trans (congrArg _ (triggerArrival_plain onWay quiet))
  have busy_iff : (triggerTaken s).seq.busyAt (triggerTaken s).timebase = true ↔ open_ := busyAt_iff _ _
  have taken : OnlyChanges [.seq] s (triggerTaken s) := s.onSeq_changes _
  refine ⟨fun busy => ?_, fun idle full => ?_⟩
  · rw [handleTrigger_busy (busy_iff.2 busy)] at run
    exact ⟨_, run, .last (State.onSeq_changes _ _) taken, rfl⟩
  · rw [handleTrigger_full (mt busy_iff.1 idle) full] at run
    exact ⟨_, run, .last (State.onSeq_changes _ _) taken, rfl⟩

end Sys2Proof.Machine
end

section
/-! PROOF. SET_STROBE (O48). -/

namespace Sys2Proof.Machine

set_option Elab.async false

/-! ### The plan length (R36) -/

theorem members_sum (ports : PortSet) (f : Port → Nat) :
    let on (p : Port) : Nat := if ports.get p = true then 1 else 0
    (ports.members.map f).sum = on .h0 * f .h0 + on .h1 * f .h1 + on .h2 * f .h2 + on .h3 * f .h3 := by
  have weighted (ps : List Port) :
      ((ps.filter ports.get).map f).sum = (ps.map fun p => (if ports.get p = true then 1 else 0) * f p).sum := by
    induction ps with
    | nil => rfl
    | cons p ps ih => cases on : ports.get p <;> simp [on, ih]
  intro on
  rw [Quad.members, weighted]
  simp only [Port.all, List.map_cons, List.map_nil, List.sum_cons, List.sum_nil, Nat.add_zero, Nat.add_assoc, on]

theorem members_length (ports : PortSet) :
    let on (p : Port) : Nat := if ports.get p = true then 1 else 0
    ports.members.length = on .h0 + on .h1 + on .h2 + on .h3 := by
  have counted := members_sum ports fun _ => 1
  simpa using counted

theorem Plan.length_eq (plan : Plan) (ports : PortSet) :
    let on (p : Port) : Nat := if ports.get p = true then 1 else 0
    plan.length ports =
      plan.firstDelay + (on .h0 * plan.exposure.h0 + on .h1 * plan.exposure.h1 + on .h2 * plan.exposure.h2 +
        on .h3 * plan.exposure.h3) + (on .h0 + on .h1 + on .h2 + on .h3 - 1) * plan.guard := by
  intro on
  rw [Plan.length, members_sum, members_length]
  rfl

/-! ### The checks in their order (R37) -/

theorem strobeFailure_exposure {plan : Plan} {p : Port} (zero : plan.exposure.get p = 0)
    (least : ∀ q : Port, q.index < p.index → plan.exposure.get q ≠ 0) : strobeFailure plan = some p.index := by
  unfold strobeFailure firstFailing
  cases p
  case h0 => simp [numbered, Port.all, List.range', zero, Port.index]
  case h1 => simp [numbered, Port.all, List.range', zero, Port.index, least .h0 (by decide)]
  case h2 => simp [numbered, Port.all, List.range', zero, Port.index, least .h0 (by decide), least .h1 (by decide)]
  case h3 =>
    simp [numbered, Port.all, List.range', zero, Port.index, least .h0 (by decide), least .h1 (by decide),
      least .h2 (by decide)]

/-- With every exposure above 0, the guard is judged, and then the first delay. -/
theorem strobeFailure_exposed {plan : Plan} (exposed : ∀ p, plan.exposure.get p ≠ 0) :
    strobeFailure plan =
      if 255 < plan.guard then some 4 else if 1000 < plan.firstDelay then some 5 else none := by
  have judged : strobeFailure plan =
      firstFailing [(4, decide (plan.guard ≤ 255)), (5, decide (plan.firstDelay ≤ 1000))] := by
    simp [strobeFailure, firstFailing, numbered, Port.all, List.range', exposed]
  rw [judged, firstFailing]
  split
  · next guard => simp [Nat.not_le.2 guard]
  · next guard =>
    split
    · next delay => simp [Nat.not_lt.1 guard, Nat.not_le.2 delay]
    · next delay => simp [Nat.not_lt.1 guard, Nat.not_lt.1 delay]

/-! ### The cut (R37) -/

theorem Plan.clamped_eq_iff (plan : Plan) :
    plan.clamped = plan ↔
      plan.exposure.h0 ≤ 2000 ∧ plan.exposure.h1 ≤ 2000 ∧ plan.exposure.h2 ≤ 2000 ∧ plan.exposure.h3 ≤ 2000 := by
  obtain ⟨⟨e0, e1, e2, e3⟩, guard, delay⟩ := plan
  simp [Plan.clamped, Quad.ofFn, Quad.get]

/-! ### What the command does (R37, R38) -/

theorem setStrobe_refuses {args : List Byte} {i : Nat} (fails : strobeFailure (strobePlan args) = some i) (s : State) :
    setStrobe args s = (s, { result := .badArgument, detail := i }) := by
  simp only [setStrobe, fails]

theorem setStrobe_tooLong {args : List Byte} (passes : strobeFailure (strobePlan args) = none) {s : State}
    (long : 4000 < (strobePlan args).clamped.length s.roof.enabled) :
    setStrobe args s = (s, { result := .planTooLong }) := by
  simp only [setStrobe, passes]
  exact if_pos long

/-- Where an accepted plan went, as the reply's last byte has it. -/
theorem byte_placed (op : OpState) : byte (if op = .standby then 0 else 1) = [if op = .standby then 0 else 1] := by
  cases op <;> rfl

theorem setStrobe_accepts {args : List Byte} (passes : strobeFailure (strobePlan args) = none) {s : State}
    (fits : (strobePlan args).clamped.length s.roof.enabled ≤ 4000) :
    let e := (strobePlan args).exposure
    setStrobe args s =
      (s.onSeq fun q => q.accept s.cmd.op (strobePlan args).clamped,
        { result := if e.h0 ≤ 2000 ∧ e.h1 ≤ 2000 ∧ e.h2 ≤ 2000 ∧ e.h3 ≤ 2000 then .done else .clamped
          data := natBytes16 ((strobePlan args).clamped.length s.roof.enabled) ++
            [if s.cmd.op = .standby then 0 else 1] }) := by
  simp only [setStrobe, passes, Plan.clamped_eq_iff, byte_placed]
  exact if_neg (Nat.not_lt.2 fits)

/-- Settles O48: the checks in their order, and the plan that passes them. -/
theorem strobeSet : Obligations.StrobeSet := by
  unfold Obligations.StrobeSet
  intro s address tag args taken len x plan inRange on length
  have exposure (p : Port) : (strobePlan args).exposure.get p = x p := by cases p <;> rfl
  have exposed (h : ∀ p, x p ≠ 0) := strobeFailure_exposed (plan := strobePlan args) fun p => exposure p ▸ h p
  have passes (h : inRange) : strobeFailure (strobePlan args) = none := by
    obtain ⟨some_, guard, delay⟩ := h
    exact (exposed some_).trans ((if_neg (Nat.not_lt.2 guard)).trans (if_neg (Nat.not_lt.2 delay)))
  have measured : (strobePlan args).clamped.length s.roof.enabled = length := Plan.length_eq plan s.roof.enabled
  have refuses {i : Nat} (fails : strobeFailure (strobePlan args) = some i) :=
    setStrobe_refuses fails (takenState s)
  refine ⟨_, exec_taken (c := .setStrobe address tag args) rfl taken (beq_iff_eq.2 len) rfl, ?_⟩
  dsimp only
  refine ⟨fun p zero least => ?_, fun some_ guard => ?_, fun some_ guard delay => ?_, fun ranged long => ?_,
    fun ranged fits => ?_⟩
  · rw [refuses (strobeFailure_exposure ((exposure p).trans zero) fun q below => exposure q ▸ least q below)]
    exact onlyAnswers_taken s _ _ _
  · rw [refuses ((exposed some_).trans (if_pos guard))]
    exact onlyAnswers_taken s _ _ _
  · rw [refuses ((exposed some_).trans ((if_neg (Nat.not_lt.2 guard)).trans (if_pos delay)))]
    exact onlyAnswers_taken s _ _ _
  · rw [setStrobe_tooLong (passes ranged) (s := takenState s) (measured ▸ long)]
    exact onlyAnswers_taken s _ _ _
  · have accepts := setStrobe_accepts (passes ranged) (s := takenState s) (measured ▸ fits)
    rw [show (strobePlan args).clamped.length (takenState s).roof.enabled = length from measured] at accepts
    rw [accepts]
    exact ⟨taken_changes ((State.onSeq_changes _ _).mono) _ _ _, answered_of_body rfl rfl _ _ _, rfl⟩

end Sys2Proof.Machine
end

section
/-! SUPPORT. The contexts in use while a unit works on them: each one legal by itself and all numbered up to the scan number
counter, and the release that makes the oldest one collecting again (R48, R49, R52, R57, R60, R61). -/

namespace Sys2Proof.Machine

set_option Elab.async false

/-! ### Numbering (R42, R48) -/

/-- The contexts, oldest first, carry the numbers that end just below `next`. -/
def NumberedTo (next : Word16) (cs : List ScanContext) : Prop :=
  ∀ i (h : i < cs.length), cs[i].scan = next - BitVec.ofNat 16 (cs.length - i)

theorem NumberedTo.map {next : Word16} {cs : List ScanContext} (h : NumberedTo next cs) {g : ScanContext → ScanContext}
    (same : ∀ c ∈ cs, (g c).scan = c.scan) : NumberedTo next (cs.map g) := fun i hi => by
  have older : i < cs.length := by simpa using hi
  simp only [List.getElem_map, List.length_map, same _ (List.getElem_mem older), h i older]

theorem NumberedTo.suffix {next : Word16} {cs rest : List ScanContext} (h : NumberedTo next cs) (tail : rest <:+ cs) :
    NumberedTo next rest := fun i hi => by
  obtain ⟨gone, rfl⟩ := tail
  have at_ := h (gone.length + i) (by rw [List.length_append]; omega)
  rw [List.getElem_append_right (Nat.le_add_right _ _)] at at_
  simp only [Nat.add_sub_cancel_left, List.length_append, Nat.add_sub_add_left] at at_
  exact at_

theorem NumberedTo.concat {next : Word16} {cs : List ScanContext} (h : NumberedTo next cs) {c : ScanContext}
    (scan : c.scan = next) : NumberedTo (next + 1) (cs ++ [c]) := fun i hi => by
  rw [List.length_append, List.length_singleton] at hi ⊢
  rcases Nat.lt_succ_iff_lt_or_eq.1 hi with older | rfl
  · rw [List.getElem_append_left older, h i older, Nat.sub_add_comm older.le, BitVec.ofNat_add]
    bv_omega
  · rw [List.getElem_concat_length rfl, scan, Nat.add_sub_cancel_left]
    bv_omega

/-- Contexts that are numbered in order have different numbers, as long as the numbers do not come around. -/
theorem NumberedTo.distinct {next : Word16} {cs : List ScanContext} (h : NumberedTo next cs) (few : cs.length ≤ 4) :
    (cs.map (·.scan)).Nodup := by
  rw [List.nodup_iff_getElem?_ne_getElem?]
  intro i j below hj same
  rw [List.length_map] at hj
  rw [List.getElem?_map, List.getElem?_map, List.getElem?_eq_getElem hj, List.getElem?_eq_getElem (below.trans hj)] at same
  simp only [Option.map_some, Option.some.injEq, h i (below.trans hj), h j hj] at same
  have numbers := congrArg BitVec.toNat same
  simp only [BitVec.toNat_sub, BitVec.toNat_ofNat] at numbers
  have := next.isLt
  omega

/-! ### One context -/

/-- A context legal by itself: a collecting one awaits a port, awaited ports are strobed, and in a collecting context none of
them has delivered (R49, R52, R60). -/
structure ScanContext.Legal (c : ScanContext) : Prop where
  waits : c.complete = false → ∃ p, c.awaited.get p = true
  strobed : ∀ p, c.awaited.get p = true → c.strobed.get p = true
  absent : c.complete = false → ∀ p, c.awaited.get p = true → c.deliveries.get p = .absent

/-- Awaited ports are strobed and have not delivered: what a change of the awaited set keeps, though it may empty it. -/
structure ScanContext.AwaitsLegally (c : ScanContext) : Prop where
  strobed : ∀ p, c.awaited.get p = true → c.strobed.get p = true
  absent : c.complete = false → ∀ p, c.awaited.get p = true → c.deliveries.get p = .absent

theorem ScanContext.Legal.awaits {c : ScanContext} (h : c.Legal) : c.AwaitsLegally := ⟨h.strobed, h.absent⟩

theorem ScanContext.AwaitsLegally.completed {c : ScanContext} (h : c.AwaitsLegally) : c.completed.Legal :=
  ⟨fun k => Bool.noConfusion k, h.strobed, fun k => Bool.noConfusion k⟩

theorem ScanContext.AwaitsLegally.legal {c : ScanContext} (h : c.AwaitsLegally)
    (some_ : c.complete = false → c.awaited.isEmpty = false) : c.Legal where
  waits collecting := by
    by_contra none_
    have empty : c.awaited.isEmpty = true := (Quad.isEmpty_iff _).2 fun p =>
      eq_false_of_ne_true fun awaited => none_ ⟨p, awaited⟩
    rw [some_ collecting] at empty
    exact Bool.noConfusion empty
  strobed := h.strobed
  absent := h.absent

/-- The context after the completion of the contexts that a condition selects (R60). -/
def ScanContext.completedIf (sel : ScanContext → Bool) (c : ScanContext) : ScanContext :=
  if !c.complete && sel c then c.completed else c

theorem completeWhere_eq (sel : ScanContext → Bool) (a : Assembler) :
    completeWhere sel a =
      { a with
        contexts := a.contexts.map (ScanContext.completedIf sel)
        missing := Quad.ofFn fun p =>
          bumpBy (a.missing.get p)
            (((a.contexts.filter fun c => !c.complete && sel c).map ScanContext.completed).countP fun c => c.missing.get p) } :=
  rfl

theorem completeWhere_contexts (sel : ScanContext → Bool) (a : Assembler) :
    (completeWhere sel a).contexts = a.contexts.map (ScanContext.completedIf sel) := rfl

theorem ScanContext.completedIf_scan (sel : ScanContext → Bool) (c : ScanContext) : (c.completedIf sel).scan = c.scan := by
  unfold ScanContext.completedIf
  split
  · rfl
  · rfl

/-- Completion leaves a context legal if it reaches every collecting context that awaits no port any more. -/
theorem ScanContext.AwaitsLegally.completedIf {c : ScanContext} (h : c.AwaitsLegally) {sel : ScanContext → Bool}
    (reached : c.complete = false → c.awaited.isEmpty = true → sel c = true) : (c.completedIf sel).Legal := by
  unfold ScanContext.completedIf
  split
  · exact h.completed
  · next left =>
    refine h.legal fun collecting => eq_false_of_ne_true fun empty => left ?_
    rw [collecting, reached collecting empty]
    rfl

theorem ScanContext.Legal.isEmpty {c : ScanContext} (h : c.Legal) (collecting : c.complete = false) :
    c.awaited.isEmpty = false := by
  obtain ⟨p, awaited⟩ := h.waits collecting
  exact eq_false_of_ne_true fun empty => by simp [(Quad.isEmpty_iff _).1 empty p] at awaited

theorem ScanContext.Legal.completedIf {c : ScanContext} (h : c.Legal) (sel : ScanContext → Bool) : (c.completedIf sel).Legal :=
  h.awaits.completedIf fun collecting empty => by simp [h.isEmpty collecting] at empty

/-- Without one of its awaited ports a context may await none, and nothing else changes (R52, R57). -/
theorem ScanContext.Legal.unawait {c : ScanContext} (h : c.Legal) (p : Port) : (c.unawait p).AwaitsLegally := by
  have fewer : ∀ q, (c.awaited.set p false).get q = true → c.awaited.get q = true := fun q awaited => by
    rw [Quad.get_set] at awaited
    split at awaited
    · exact Bool.noConfusion awaited
    · exact awaited
  exact ⟨fun q awaited => h.strobed q (fewer q awaited), fun collecting q awaited => h.absent collecting q (fewer q awaited)⟩

/-- A delivery takes its port out of the awaited set, so the ports still awaited have not delivered (R52). -/
theorem ScanContext.Legal.deliver {c : ScanContext} (h : c.Legal) (p : Profile) : (c.deliver p).AwaitsLegally where
  strobed := (h.unawait p.port).strobed
  absent collecting q awaited := by
    have other : q ≠ p.port := by
      rintro rfl
      have gone : (c.awaited.set p.port false).get p.port = true := awaited
      rw [Quad.get_set_self] at gone
      exact Bool.noConfusion gone
    show (c.deliveries.set p.port p.delivery).get q = .absent
    rw [Quad.get_set_ne _ _ other]
    exact (h.unawait p.port).absent collecting q awaited

/-- An accepted profile as each context takes it: the collecting one with its number stores it (R52). -/
def ScanContext.taken (p : Profile) (c : ScanContext) : ScanContext :=
  if !c.complete && c.scan == p.scan then c.deliver p else c

/-- An accepted profile completes the contexts with its number that await no port any more (R60). -/
def ScanContext.filledBy (p : Profile) (c : ScanContext) : Bool := c.scan == p.scan && c.awaited.isEmpty

theorem acceptProfile_contexts (p : Profile) (a : Assembler) :
    (acceptProfile p a).contexts = a.contexts.map fun c => (c.taken p).completedIf (ScanContext.filledBy p) :=
  List.map_map ..

theorem ScanContext.taken_scan (p : Profile) (c : ScanContext) : (c.taken p).scan = c.scan := by
  unfold ScanContext.taken
  split
  · rfl
  · rfl

theorem ScanContext.Legal.taken {c : ScanContext} (h : c.Legal) (p : Profile) :
    ((c.taken p).completedIf (ScanContext.filledBy p)).Legal := by
  unfold ScanContext.taken
  split
  · next takes =>
    refine (h.deliver p).completedIf fun _ empty => ?_
    show (c.scan == p.scan && (c.deliver p).awaited.isEmpty) = true
    rw [empty, Bool.and_true]
    exact (Bool.and_eq_true_iff.1 takes).2
  · exact h.completedIf _

theorem ScanContext.pruned_scan (p : Port) (c : ScanContext) : (c.pruned p).scan = c.scan := by
  unfold ScanContext.pruned
  split
  · split
    · rfl
    · rfl
  · rfl

/-- The loss of a port leaves a context legal: the one it empties is COMPLETE (R57, R60). -/
theorem ScanContext.Legal.pruned {c : ScanContext} (h : c.Legal) (p : Port) : (c.pruned p).Legal := by
  unfold ScanContext.pruned
  split
  · split
    · exact (h.unawait p).completed
    · next some_ => exact (h.unawait p).legal fun _ => eq_false_of_ne_true some_
  · exact h

/-- The context of a scan that starts now awaits only strobed ports, and none has delivered (R42, R49). -/
theorem newContext_awaitsLegally (s : State) : (newContext s).AwaitsLegally where
  strobed p awaited := ((newContext_awaited s p).1 awaited).1
  absent _ p _ := Quad.get_replicate _ p

/-! ### The contexts in use -/

/-- The contexts in use before release control has looked at them: the oldest one may be COMPLETE. -/
structure ContextsOrdered (s : State) : Prop where
  four : s.asm.contexts.length ≤ 4
  numbers : NumberedTo s.seq.scanCounter s.asm.contexts
  each : ∀ c ∈ s.asm.contexts, c.Legal

theorem contextsLegal_iff (s : State) :
    ContextsLegal s ↔ ContextsOrdered s ∧ ∀ c, s.asm.contexts.head? = some c → c.complete = false := by
  constructor
  · rintro ⟨four, numbers, oldest, waits, strobed, absent⟩
    exact ⟨⟨four, numbers, fun c mem => ⟨waits c mem, strobed c mem, absent c mem⟩⟩, oldest⟩
  · rintro ⟨⟨four, numbers, each⟩, oldest⟩
    exact ⟨four, numbers, oldest, fun c mem => (each c mem).waits, fun c mem => (each c mem).strobed,
      fun c mem => (each c mem).absent⟩

theorem ContextsLegal.ordered {s : State} (h : ContextsLegal s) : ContextsOrdered s := ((contextsLegal_iff s).1 h).1

theorem ContextsLegal.congr {s t : State} (h : ContextsLegal s) (contexts : t.asm.contexts = s.asm.contexts := by rfl)
    (counter : t.seq.scanCounter = s.seq.scanCounter := by rfl) : ContextsLegal t := by
  rw [contextsLegal_iff] at h ⊢
  obtain ⟨⟨four, numbers, each⟩, oldest⟩ := h
  exact ⟨⟨contexts ▸ four, by rw [contexts, counter]; exact numbers, contexts ▸ each⟩, contexts ▸ oldest⟩

theorem ContextsLegal.of_changes {parts : List Part} {s t : State} (k : OnlyChanges parts s t) (h : ContextsLegal s)
    (ha : .asm ∉ parts := by decide) (hs : .seq ∉ parts := by decide) : ContextsLegal t :=
  h.congr (congrArg _ (k.1 .asm ha)) (congrArg _ (k.1 .seq hs))

theorem ContextsLegal.quiet {s t : State} (k : Quiet s t) (h : ContextsLegal s) : ContextsLegal t := h.of_changes k.changes

/-- With no context in use there is nothing to keep. -/
theorem contextsLegal_none {s : State} (none_ : s.asm.contexts = [] := by rfl) : ContextsLegal s := by
  refine (contextsLegal_iff s).2 ⟨⟨?_, ?_, ?_⟩, ?_⟩ <;> rw [none_]
  · exact Nat.zero_le 4
  · exact fun i hi => absurd hi (Nat.not_lt_zero i)
  · exact fun c mem => absurd mem List.not_mem_nil
  · exact fun c head => by cases head

/-- A unit that changes each context by itself, keeping its number and keeping it legal. -/
theorem ContextsOrdered.onAsm {s : State} (h : ContextsOrdered s) {f : Assembler → Assembler} {g : ScanContext → ScanContext}
    (contexts : (f s.asm).contexts = s.asm.contexts.map g) (scan : ∀ c ∈ s.asm.contexts, (g c).scan = c.scan)
    (legal : ∀ c ∈ s.asm.contexts, c.Legal → (g c).Legal) : ContextsOrdered (s.onAsm f) where
  four := by
    show (f s.asm).contexts.length ≤ 4
    rw [contexts, List.length_map]
    exact h.four
  numbers := by
    show NumberedTo _ (f s.asm).contexts
    rw [contexts]
    exact h.numbers.map scan
  each := by
    show ∀ c ∈ (f s.asm).contexts, c.Legal
    rw [contexts, List.forall_mem_map]
    exact fun c mem => legal c mem (h.each c mem)

/-- Release takes the COMPLETE contexts off the head, so the oldest one left is collecting (R61). -/
theorem ContextsOrdered.release {s : State} (h : ContextsOrdered s) : ContextsLegal (release s) := by
  have contexts : (Machine.release s).asm.contexts = s.asm.contexts.dropWhile (·.complete) := by rw [release_asm]
  have counter : (Machine.release s).seq = s.seq := (release_changes s).1 .seq (by decide)
  have tail := List.dropWhile_suffix (l := s.asm.contexts) fun c => c.complete
  rw [contextsLegal_iff, contexts]
  refine ⟨⟨?_, ?_, ?_⟩, fun c head => ?_⟩
  · rw [contexts]
    exact tail.length_le.trans h.four
  · rw [contexts, counter]
    exact h.numbers.suffix tail
  · rw [contexts]
    exact fun c mem => h.each c (tail.subset mem)
  · exact eq_false_of_ne_true fun complete => by
      have := List.head?_dropWhile_not (fun c : ScanContext => c.complete) s.asm.contexts
      simp [head, complete] at this

end Sys2Proof.Machine
end

section
/-! PROOF. Every step keeps the contexts in use consecutive, at most four, the oldest one collecting (O57). -/

namespace Sys2Proof.Machine

set_option Elab.async false

/-! ### The units -/

theorem ContextsLegal.assemble {s : State} (h : ContextsLegal s) (v : Verdict) (prof : Profile) :
    ContextsLegal (assemble s v prof) := by
  cases v with
  | accepted =>
    exact (h.ordered.onAsm (acceptProfile_contexts prof _)
      (fun c _ => (ScanContext.completedIf_scan _ _).trans (c.taken_scan prof)) fun c _ legal => legal.taken prof).release
  | duplicate => exact h
  | late => exact h
  | stray => exact h

theorem ContextsLegal.deadlineReached {s : State} (h : ContextsLegal s) (scan : Word16) :
    ContextsLegal (deadlineReached s scan) := by
  unfold Machine.deadlineReached
  split
  · exact (h.ordered.onAsm (f := fun a => completeWhere (fun c => c.scan == scan) { a with deadlines := bump a.deadlines })
      (completeWhere_contexts _ _) (fun c _ => c.completedIf_scan _) fun c _ legal => legal.completedIf _).release
  · exact h

theorem ContextsLegal.silenceTimerExpiry {s : State} (h : ContextsLegal s) (p : Port) :
    ContextsLegal (silenceTimerExpiry s p) := by
  unfold Machine.silenceTimerExpiry
  split
  · have told (f : RoofPort → RoofPort) : ContextsLegal (offerStatus (s.onPort p f) .portState) :=
      .of_changes (offerStatus_changes _ _) (h.of_changes (s.onPort_changes p f))
    have ordered := (told RoofPort.lost).ordered
    exact (ordered.onAsm (prunePort_contexts (ordered.numbers.distinct ordered.four) p)
      (fun c _ => c.pruned_scan p) fun c _ legal => legal.pruned p).release
  · exact h

theorem ContextsLegal.takeProfile {s : State} (h : ContextsLegal s) (p : Port) (f : Frame) :
    ContextsLegal (takeProfile s p f) := by
  have counted (k : PortCounters → PortCounters) : ContextsLegal (s.countPort p k) := h.of_changes (s.countPort_changes p k)
  have judged (u : State) (hu : ContextsLegal u) (k : PortCounters → PortCounters) (v : Verdict) (prof : Profile)
      (k' : PortCounters → PortCounters) : ContextsLegal ((Machine.assemble (u.countPort p k) v prof).countPort p k') :=
    .of_changes (State.countPort_changes _ p k') ((hu.of_changes (u.countPort_changes p k)).assemble v prof)
  unfold Machine.takeProfile handProfile
  dsimp only
  split
  · exact (counted _).of_changes (State.countPort_changes _ p _)
  · exact (counted _).of_changes (State.countPort_changes _ p _)
  · split
    · exact .of_changes (forward_changes _ p f) (judged _ (counted _) _ _ _ _)
    · exact judged _ (counted _) _ _ _ _

theorem ContextsLegal.profileFrame {s : State} (h : ContextsLegal s) (p : Port) (address : Byte) (payload : List Byte) :
    ContextsLegal (profileFrame s p address payload) := by
  unfold Machine.profileFrame
  dsimp only
  split
  · exact h.of_changes (closeRoof_changes s p _ _)
  · exact (ContextsLegal.of_changes (goodFrame_changes _ p) (h.of_changes (closeRoof_changes s p _ _))).takeProfile p _

/-! ### Triggers -/

/-- A context that joins the tail with the next number and is legal by itself. -/
theorem ContextsOrdered.concat {s t : State} (h : ContextsOrdered s) (free : s.asm.contexts.length < 4) {c : ScanContext}
    (contexts : t.asm.contexts = s.asm.contexts ++ [c]) (counter : t.seq.scanCounter = s.seq.scanCounter + 1)
    (scan : c.scan = s.seq.scanCounter) (legal : c.Legal) : ContextsOrdered t := by
  refine ⟨?_, ?_, ?_⟩ <;> rw [contexts]
  · rw [List.length_append]
    exact free
  · rw [counter]
    exact h.numbers.concat scan
  · exact List.forall_mem_append.2 ⟨h.each, List.forall_mem_singleton.2 legal⟩

/-- No context in use has the number that the next scan takes. -/
theorem ContextsOrdered.next_free {s : State} (h : ContextsOrdered s) (free : s.asm.contexts.length < 4) :
    ∀ k ∈ s.asm.contexts, k.scan ≠ s.seq.scanCounter := fun k mem same => by
  have apart := (h.numbers.concat (c := newContext s) rfl).distinct (by rw [List.length_append]; exact free)
  rw [List.map_append, List.nodup_append] at apart
  exact apart.2.2 _ (List.mem_map_of_mem mem) _ (List.mem_singleton_self _) same

/-- A scan that starts takes the next number, and its context collects or is released at once (R42, R49). -/
theorem ContextsLegal.startScan {s : State} (h : ContextsLegal s) (free : s.asm.contexts.length < 4) :
    ContextsLegal (startScan s) := by
  obtain ⟨ordered, oldest⟩ := (contextsLegal_iff s).1 h
  have fresh := newContext_awaitsLegally s
  cases awaited : (newContext s).awaited.isEmpty with
  | false =>
    rw [startScan_awaits awaited, contextsLegal_iff]
    refine ⟨ordered.concat free rfl rfl rfl (fresh.legal fun _ => awaited), fun c head => ?_⟩
    replace head : (s.asm.contexts ++ [newContext s]).head? = some c := head
    rw [List.head?_append, Option.or_eq_some_iff] at head
    rcases head with older | ⟨-, alone⟩
    · exact oldest c older
    · exact Option.some.inj alone ▸ rfl
  | true =>
    obtain ⟨u, started, -, -, asm⟩ := startScan_completed awaited (ordered.next_free free)
    have seq : u.seq = s.seq.startScan s.timebase s.roof.enabled := by
      rw [← startScan_seq, started]
      exact ((release_changes u).1 .seq (by decide)).symm
    rw [started]
    exact (ordered.concat free (by rw [asm]) (by rw [seq]; rfl) rfl fresh.completed).release

theorem ContextsLegal.handleTrigger {s : State} (h : ContextsLegal s) : ContextsLegal (handleTrigger s) := by
  unfold Machine.handleTrigger
  split
  · exact h.congr
  · split
    · exact h.congr
    · next free => exact h.startScan (Nat.lt_of_not_le free)

theorem ContextsLegal.lineChange {s : State} (h : ContextsLegal s) (oda odb late : Bool) :
    ContextsLegal (lineChange s oda odb late) := by
  have moved (f : Odometer → Odometer) (k : Sense) : ContextsLegal (countStep (accumulate (s.onOdo f) k)) :=
    .of_changes (countStep_changes _) (.of_changes (accumulate_changes _ k) (h.of_changes (s.onOdo_changes f)))
  unfold Machine.lineChange sendTrigger
  dsimp only
  split
  · exact h
  · split
    · exact h.congr
    · split
      · split
        · exact (moved _ _).congr
        · exact (moved _ _).handleTrigger
      · exact moved _ _

theorem ContextsLegal.settleSpanClosed {s : State} (h : ContextsLegal s) : ContextsLegal (settleSpanClosed s) := by
  obtain ⟨active, staged, seq⟩ := settleSpanClosed_seq s
  exact h.congr (congrArg _ ((settleSpanClosed_changes s).1 .asm (by decide))) (by rw [seq])

theorem ContextsLegal.triggerArrival {s : State} (h : ContextsLegal s) : ContextsLegal (triggerArrival s) := by
  unfold Machine.triggerArrival
  split
  · exact (ContextsLegal.handleTrigger (s := s.onSeq fun q => { q with onWay := q.onWay - 1 }) h.congr).settleSpanClosed
  · exact h

/-- A plan is staged or becomes active; the scan number counter stays (R38). -/
theorem ContextsLegal.setStrobe {s : State} (h : ContextsLegal s) (args : List Byte) : ContextsLegal (setStrobe args s).1 := by
  have accepted (op : OpState) (plan : Plan) : ContextsLegal (s.onSeq fun q => q.accept op plan) := by
    refine h.congr rfl ?_
    simp only [State.onSeq_seq, Sequencer.accept]
    split
    · rfl
    · rfl
  unfold Machine.setStrobe
  dsimp only
  split
  · exact h
  · split
    · exact h
    · exact accepted _ _

/-! ### Every row -/

/-- Rows that reach the assembler or the scan number counter. -/
theorem meaning_contextsLegal (c : Instr) (s : State) (h : ContextsLegal s) : ContextsLegal (meaning c s) := by
  by_cases hc : Part.asm ∈ footprint c ∨ Part.seq ∈ footprint c
  · cases c <;> simp only [footprint, List.mem_cons, List.not_mem_nil, reduceCtorEq, or_false, or_true, or_self] at hc
    case profileFrame p a b => exact h.profileFrame p a b
    case frameFailed r rx =>
      exact h.of_changes (frameFailed_changes s r rx) (by cases r <;> simp [receiverPart]) (by cases r <;> simp [receiverPart])
    case lineChange oda odb late => exact h.lineChange oda odb late
    case silenceTimerExpiry p => exact h.silenceTimerExpiry p
    case slotStart p =>
      show ContextsLegal (slotStart s p)
      unfold slotStart
      split
      · exact .of_changes (State.onPort_changes _ p _) h.congr
      · exact h
    case exposureEnd p =>
      show ContextsLegal (exposureEnd s p)
      unfold exposureEnd
      split
      · exact h.congr
      · exact h
    case busyWindowClose =>
      show ContextsLegal (if busyDue s = true then _ else s)
      split
      · exact h.congr
      · exact h
    case deadlineReached scan => exact h.deadlineReached scan
    case triggerArrival => exact h.triggerArrival
    case runOpeningReport =>
      show ContextsLegal (runOpeningReport s)
      unfold runOpeningReport
      split
      · exact ContextsLegal.settleSpanClosed h.congr
      · exact h
    case scanFinishedReport =>
      show ContextsLegal (scanFinishedReport s)
      unfold scanFinishedReport
      split
      · exact (ContextsLegal.of_changes (finishScan_changes _ _) h.congr).settleSpanClosed
      · exact h
    case stopListArrival =>
      show ContextsLegal (stopListArrival s)
      unfold stopListArrival
      split
      · exact ((ContextsLegal.of_changes (spanClosing_changes _ _) h.congr).of_changes
          (State.onPaths_changes _ _)).settleSpanClosed
      · exact h
    case clearCounters a tag args =>
      exact command_keeps (c := .clearCounters a tag args) ContextsLegal.quiet rfl (fun _ _ hu => hu.congr) h
    case setStrobe a tag args =>
      exact command_keeps (c := .setStrobe a tag args) ContextsLegal.quiet rfl (fun _ _ hu => hu.setStrobe args) h
    case reset a tag args => exact reset_keeps ContextsLegal.quiet (fun _ => contextsLegal_none) h
    case hardReset => exact contextsLegal_none
    case hardResetEnd a m x y => exact .quiet (hardResetEnd_quiet s a m x y) contextsLegal_none
  · exact h.of_changes (meaning_changes c s) (fun k => hc (.inl k)) fun k => hc (.inr k)

/-- Settles O57: after each row's meaning the contexts are legal, and the clock and the queue of commands read none. -/
theorem contextsKept : Obligations.ContextsKept :=
  kept_of_exec (fun _ _ h => h.congr) (fun _ _ h => h.congr) meaning_contextsLegal

end Sys2Proof.Machine
end

section
/-! PROOF. Profiles and deadlines at the assembler: the classifier, an accepted profile, the deadline of the oldest context
(O24, O25, O26). -/

namespace Sys2Proof.Machine

set_option Elab.async false

/-! ### The classifier (R51) -/

theorem classify_match {contexts : List ScanContext} {scan : Word16} {c : ScanContext}
    (found : contexts.find? (fun k => k.scan == scan) = some c) (next : Word16) (p : Port) :
    classify contexts next p scan =
      if c.deliveries.get p ≠ .absent then .duplicate
      else if c.complete = false ∧ c.strobed.get p = true then .accepted else .stray := by
  simp only [classify, found]
  by_cases absent : c.deliveries.get p = .absent
  · cases c.complete <;> simp [absent]
  · cases c.complete <;> simp [absent]

theorem classify_none {contexts : List ScanContext} {scan : Word16} (none_ : ∀ c ∈ contexts, c.scan ≠ scan) (next : Word16)
    (p : Port) :
    classify contexts next p scan =
      if 1 ≤ (next - scan).toNat ∧ (next - scan).toNat ≤ 32767 then .late else .stray := by
  have missed : contexts.find? (fun k => k.scan == scan) = none := List.find?_eq_none.2 fun c mem => by simp [none_ c mem]
  simp only [classify, missed]

/-- Settles O24: the classifier with a matching context in use, and with none. -/
theorem verdictOfProfile : Obligations.VerdictOfProfile := fun _ next _ p =>
  ⟨fun _ found => classify_match found next p, fun none_ => classify_none none_ next p⟩

/-! ### The scan that release hands on (R62) -/

theorem usableDelivery_eq_some {p : Port} {d : Delivery} {x : PortDelivery} :
    usableDelivery p d = some x ↔ x.port = p ∧ d = .delivered x.degraded x.segments := by
  obtain ⟨port, degraded, segments⟩ := x
  cases d with
  | absent => simp [usableDelivery]
  | failed => simp [usableDelivery]
  | delivered b g => simp [usableDelivery, eq_comm]

/-- A released scan carries exactly the usable deliveries of its strobed ports. -/
theorem mem_toReleased (c : ScanContext) (x : PortDelivery) :
    x ∈ c.toReleased.deliveries ↔
      c.strobed.get x.port = true ∧ c.deliveries.get x.port = .delivered x.degraded x.segments := by
  simp only [ScanContext.toReleased, List.mem_filterMap, usableDelivery_eq_some, Quad.mem_members]
  constructor
  · rintro ⟨p, strobed, rfl, delivered⟩
    exact ⟨strobed, delivered⟩
  · rintro ⟨strobed, delivered⟩
    exact ⟨x.port, strobed, rfl, delivered⟩

theorem members_pairwise (q : PortSet) : q.members.Pairwise fun a b => a.index < b.index :=
  List.Pairwise.filter _ (by decide)

/-- A released scan carries its deliveries in ascending port index. -/
theorem toReleased_pairwise (c : ScanContext) :
    c.toReleased.deliveries.Pairwise fun a b => a.port.index < b.port.index := by
  refine List.Pairwise.filterMap _ (fun p q below x hx y hy => ?_) (members_pairwise c.strobed)
  rw [(usableDelivery_eq_some.1 hx).1, (usableDelivery_eq_some.1 hy).1]
  exact below

/-! ### Completion and release of the oldest context alone (R60, R61) -/

section Unselected

variable {sel : ScanContext → Bool} {cs : List ScanContext}

theorem map_completedIf_unselected (none_ : ∀ c ∈ cs, sel c = false) : cs.map (ScanContext.completedIf sel) = cs :=
  (List.map_congr_left fun c mem => by
    rw [ScanContext.completedIf, none_ c mem, Bool.and_false, if_neg Bool.false_ne_true, id]).trans (List.map_id _)

theorem filter_unselected (none_ : ∀ c ∈ cs, sel c = false) : cs.filter (fun c => !c.complete && sel c) = [] :=
  List.filter_eq_nil_iff.2 fun c mem => by rw [none_ c mem, Bool.and_false]; exact Bool.false_ne_true

end Unselected

theorem completeWhere_none {sel : ScanContext → Bool} {a : Assembler} (none_ : ∀ c ∈ a.contexts, sel c = false) :
    completeWhere sel a = a := by
  have missing : (Quad.ofFn fun p => bumpBy (a.missing.get p) 0) = a.missing :=
    Quad.ext_get fun p => by rw [Quad.get_ofFn, bumpBy_zero]
  simp only [completeWhere_eq, map_completedIf_unselected none_, filter_unselected none_, List.map_nil, List.countP_nil,
    missing]

/-- Where a condition selects the oldest context and no other, that one completes and its missing ports are counted. -/
theorem completeWhere_oldest {sel : ScanContext → Bool} {a : Assembler} {c : ScanContext} {rest : List ScanContext}
    (contexts : a.contexts = c :: rest) (collecting : c.complete = false) (hit : sel c = true)
    (others : ∀ k ∈ rest, sel k = false) :
    completeWhere sel a =
      { a with
        contexts := c.completed :: rest
        missing := Quad.ofFn fun p =>
          if c.completed.missing.get p = true then bump (a.missing.get p) else a.missing.get p } := by
  have selected : (!c.complete && sel c) = true := by rw [collecting, hit]; rfl
  have counted (p : Port) : bumpBy (a.missing.get p) (List.countP (fun k : ScanContext => k.missing.get p) [c.completed]) =
      if c.completed.missing.get p = true then bump (a.missing.get p) else a.missing.get p := by
    cases missing : c.completed.missing.get p <;> simp [missing, bumpBy_zero, bump]
  rw [completeWhere_eq, contexts, List.map_cons, map_completedIf_unselected others, ScanContext.completedIf,
    if_pos selected, List.filter_cons_of_pos (p := fun k => !k.complete && sel k) selected, filter_unselected others,
    List.map_singleton]
  simp only [counted]

/-- The oldest context completes, and the next one still collects: it is the only release (R60, R61, R63, R172, R181). -/
theorem release_oldest {s : State} {sel : ScanContext → Bool} {a : Assembler} {c : ScanContext} {rest : List ScanContext}
    (contexts : a.contexts = c :: rest) (collecting : c.complete = false) (hit : sel c = true)
    (others : ∀ k ∈ rest, sel k = false) (next : ∀ k, rest.head? = some k → k.complete = false) :
    release (s.onAsm fun _ => completeWhere sel a) =
      { s with
        asm :=
          { a with
            contexts := rest
            released := bump a.released
            missing := Quad.ofFn fun p =>
              if c.completed.missing.get p = true then bump (a.missing.get p) else a.missing.get p }
        paths := { s.paths with toZone := s.paths.toZone ++ [c.completed.toReleased] }
        cmd := s.cmd.released 1 rest.isEmpty } := by
  rw [completeWhere_oldest contexts collecting hit others]
  have complete : c.completed.complete = true := rfl
  refine release_eq _ [c.completed] rest ?_ ?_ (List.cons_ne_nil _ _)
  · rw [State.onAsm_asm, List.takeWhile_cons_of_pos complete]
    cases rest with
    | nil => rfl
    | cons k rest => rw [List.takeWhile_cons_of_neg (by simp [next k rfl])]
  · rw [State.onAsm_asm, List.dropWhile_cons_of_pos complete]
    cases rest with
    | nil => rfl
    | cons k rest => rw [List.dropWhile_cons_of_neg (by simp [next k rfl])]

/-! ### The deadline of the oldest context (R59) -/

theorem deadlineReached_due {s : State} {c : ScanContext} (mem : c ∈ s.asm.contexts) (collecting : c.complete = false)
    (due : (c.deadline - c.trigger).toNat ≤ (s.timebase - c.trigger).toNat) :
    deadlineReached s c.scan =
      release (s.onAsm fun _ => completeWhere (fun k => k.scan == c.scan) { s.asm with deadlines := bump s.asm.deadlines }) := by
  have reached : deadlineDue s.timebase c = true := by
    rw [deadlineDue, collecting]
    exact decide_eq_true due
  exact if_pos (List.any_eq_true.2 ⟨c, mem, by rw [reached, beq_self_eq_true]; rfl⟩)

/-- A completed context counts as missing the strobed ports without a usable delivery (R60). -/
theorem completed_missing_iff (c : ScanContext) (p : Port) :
    c.completed.missing.get p = true ↔ c.strobed.get p = true ∧ ∀ b g, c.deliveries.get p ≠ .delivered b g := by
  rw [completed_missing, Bool.and_eq_true]
  cases c.deliveries.get p <;> simp

/-- Settles O26: the oldest context completes at its deadline, and release hands its scan on in the same step. -/
theorem deadlineCompletes : Obligations.DeadlineCompletes := by
  unfold Obligations.DeadlineCompletes
  intro s c rest live contexts collecting distinct next due
  have step := exec_live (.deadlineReached c.scan) live
  have ran := deadlineReached_due (contexts ▸ List.mem_cons_self) collecting due
  have changes := deadlineReached_changes s c.scan
  have others : ∀ k ∈ rest, (k.scan == c.scan) = false := fun k mem => beq_eq_false_iff_ne.2 (distinct k mem)
  rw [release_oldest (a := { s.asm with deadlines := bump s.asm.deadlines }) (sel := fun k => k.scan == c.scan) contexts
    collecting (beq_self_eq_true _) others next] at ran
  rw [show meaning (.deadlineReached c.scan) s = deadlineReached s c.scan from rfl, ran] at step
  rw [ran] at changes
  exact ⟨_, c.completed.toReleased, step, changes, rfl, rfl, rfl, rfl, rfl, rfl, rfl, rfl, rfl, rfl,
    mem_toReleased c.completed, completed_missing_iff c, fun p => Quad.get_ofFn _ p, rfl⟩

/-! ### An accepted profile (R52, R53) -/

/-- The assembler with a profile stored in its only context. -/
def Assembler.withDelivery (a : Assembler) (c : ScanContext) (prof : Profile) : Assembler :=
  { a with
    contexts := [c.deliver prof]
    failed := if prof.condition == .failed then a.failed.modify prof.port bump else a.failed }

theorem withDelivery_failed (a : Assembler) (c : ScanContext) (prof : Profile) (p : Port) :
    (a.withDelivery c prof).failed.get p =
      if p = prof.port ∧ prof.condition = .failed then bump (a.failed.get p) else a.failed.get p := by
  rw [Assembler.withDelivery]
  by_cases failed : prof.condition = .failed
  · simp only [failed, beq_self_eq_true, if_true, and_true, Quad.get_modify]
    split
    · next same => rw [same]
    · rfl
  · simp [failed]

theorem acceptProfile_alone {a : Assembler} {c : ScanContext} {prof : Profile} (alone : a.contexts = [c])
    (collecting : c.complete = false) (scan : c.scan = prof.scan) :
    acceptProfile prof a = completeWhere (ScanContext.filledBy prof) (a.withDelivery c prof) := by
  have takes : (!c.complete && c.scan == prof.scan) = true := by rw [collecting, scan, beq_self_eq_true]; rfl
  simp only [acceptProfile, alone, List.map_singleton, takes, if_true]
  rfl

theorem filledBy_deliver {c : ScanContext} {prof : Profile} (scan : c.scan = prof.scan) :
    (c.deliver prof).filledBy prof = true ↔ ∀ p, p ≠ prof.port → c.awaited.get p = false := by
  have same : ((c.deliver prof).scan == prof.scan) = true := beq_iff_eq.2 scan
  rw [ScanContext.filledBy, same, Bool.true_and, Quad.isEmpty_iff]
  refine forall_congr' fun p => ?_
  show (c.awaited.set prof.port false).get p = false ↔ _
  rw [Quad.get_set]
  split
  · next h => simp [h]
  · next h => simp [h]

/-- While another port is awaited the profile is stored, and nothing is released. -/
theorem assemble_stores {s : State} {c : ScanContext} {prof : Profile} (alone : s.asm.contexts = [c])
    (collecting : c.complete = false) (scan : c.scan = prof.scan) (waits : ¬(c.deliver prof).filledBy prof = true) :
    assemble s .accepted prof = s.onAsm fun a => a.withDelivery c prof := by
  have kept : acceptProfile prof s.asm = s.asm.withDelivery c prof :=
    (acceptProfile_alone alone collecting scan).trans
      (completeWhere_none (List.forall_mem_singleton.2 (eq_false_of_ne_true waits)))
  show release (s.onAsm fun a => acceptProfile prof a) = _
  rw [State.onAsm, kept]
  exact release_collecting (c := c.deliver prof) rfl collecting

/-- The last profile completes the context, and its scan is released (R60, R61). -/
theorem assemble_fills {s : State} {c : ScanContext} {prof : Profile} (alone : s.asm.contexts = [c])
    (collecting : c.complete = false) (scan : c.scan = prof.scan) (filled : (c.deliver prof).filledBy prof = true) :
    assemble s .accepted prof =
      { s with
        asm :=
          { s.asm.withDelivery c prof with
            contexts := []
            released := bump s.asm.released
            missing := Quad.ofFn fun p =>
              if (c.deliver prof).completed.missing.get p = true then bump (s.asm.missing.get p) else s.asm.missing.get p }
        paths := { s.paths with toZone := s.paths.toZone ++ [(c.deliver prof).completed.toReleased] }
        cmd := s.cmd.released 1 true } := by
  have taken : s.onAsm (acceptProfile prof) =
      s.onAsm fun _ => completeWhere (ScanContext.filledBy prof) (s.asm.withDelivery c prof) := by
    rw [State.onAsm, acceptProfile_alone alone collecting scan]
    rfl
  show release (s.onAsm (acceptProfile prof)) = _
  rw [taken]
  exact release_oldest (a := s.asm.withDelivery c prof) rfl collecting filled (fun k mem => absurd mem List.not_mem_nil)
    fun k head => by cases head

/-- Settles O25: the profile is stored, and where no other port is awaited the context completes and its scan is released. -/
theorem acceptedProfileDelivers : Obligations.AcceptedProfileDelivers := by
  unfold Obligations.AcceptedProfileDelivers
  intro s c prof alone collecting scan _ _ d failed t
  have missing (p : Port) := completed_missing (c.deliver prof) p
  by_cases filled : (c.deliver prof).filledBy prof = true
  · have ran : t = _ := assemble_fills alone collecting scan filled
    have none_ := (filledBy_deliver scan).1 filled
    rw [ran]
    refine ⟨withDelivery_failed s.asm c prof, rfl, rfl, fun ⟨p, other, awaited⟩ => ?_, fun _ => ?_⟩
    · rw [none_ p other] at awaited
      exact Bool.noConfusion awaited
    · refine ⟨rfl, rfl, rfl, fun p => ?_, _, rfl, rfl, rfl, rfl, rfl, missing, mem_toReleased (c.deliver prof).completed,
        toReleased_pairwise _⟩
      rw [Quad.get_ofFn, missing]
      rfl
  · have ran : t = _ := assemble_stores alone collecting scan filled
    rw [ran]
    exact ⟨withDelivery_failed s.asm c prof, rfl, rfl, fun _ => ⟨rfl, rfl, rfl, rfl, rfl⟩,
      fun none_ => absurd ((filledBy_deliver scan).2 none_) filled⟩

end Sys2Proof.Machine
end

section
/-! PROOF. STOP: the drain that it begins in RUNNING, and its answers elsewhere (O53). -/

namespace Sys2Proof.Machine

set_option Elab.async false

/-! ### The drain begins (R63, R180, R181) -/

/-- The state in which the part drains and waits for assembly, before its STATUS record. -/
def drainingState (s : State) : State := { s with cmd := { s.cmd with op := .draining, drain := .waitingAssembly } }

/-- The same state with its STATUS record offered. -/
def drainTold (s : State) : State := offerStatus (drainingState s) .operatingState

theorem drainTold_changes (s : State) : OnlyChanges [.out, .cmd] s (drainTold s) :=
  have draining : OnlyChanges [.cmd] s (drainingState s) :=
    s.onCmd_changes fun c => { c with op := .draining, drain := .waitingAssembly }
  .last (offerStatus_changes _ _) draining.mono

theorem drainTold_cmd (s : State) : (drainTold s).cmd = (drainingState s).cmd := offerStatus_cmd _ _

theorem drainTold_paths (s : State) : (drainTold s).paths = s.paths := offerStatus_paths _ _

theorem drainTold_contexts (s : State) : (drainTold s).asm.contexts = s.asm.contexts := by
  rw [(drainTold_changes s).1 .asm (by decide)]

theorem beginDrain_used {s : State} (used : s.asm.contexts ≠ []) : beginDrain s = drainTold s := by
  have some_ : ¬(drainTold s).asm.contexts.isEmpty = true := by rw [drainTold_contexts, List.isEmpty_iff]; exact used
  exact if_neg some_

/-- With no scan in assembly the tally is tested at once. -/
theorem beginDrain_free {s : State} (free : s.asm.contexts = []) :
    beginDrain s = testTally ((drainTold s).onCmd fun c => { c with drain := .waitingPipeline }) := by
  have empty : (drainTold s).asm.contexts.isEmpty = true := by rw [drainTold_contexts, free]; rfl
  have waits : ((drainTold s).cmd.drain == .waitingAssembly) = true := by rw [drainTold_cmd]; rfl
  exact (if_pos empty).trans (if_pos waits)

theorem beginDrain_busy {s : State} (free : s.asm.contexts = []) (busy : s.cmd.tally ≠ 0) :
    beginDrain s = (drainTold s).onCmd fun c => { c with drain := .waitingPipeline } := by
  rw [beginDrain_free free, testTally_eq]
  refine if_neg fun ⟨_, done⟩ => busy ?_
  rw [State.onCmd_cmd, drainTold_cmd] at done
  exact done

theorem beginDrain_done {s : State} (free : s.asm.contexts = []) (done : s.cmd.tally = 0) :
    beginDrain s =
      ((drainTold s).onPaths fun p => { p with drainRequest := true }).onCmd fun c =>
        { c with drain := .waitingSpan, lateMark := false } := by
  rw [beginDrain_free free, testTally_eq]
  refine (if_pos ⟨rfl, ?_⟩).trans rfl
  rw [State.onCmd_cmd, drainTold_cmd]
  exact done

/-- After its STATUS record the part moves in drain control alone. -/
theorem beginDrain_drainOnly (s : State) : DrainOnly (drainTold s) (beginDrain s) := by
  by_cases free : s.asm.contexts = []
  · rw [beginDrain_free free]
    exact DrainOnly.trans ⟨_, _, _, rfl⟩ (testTally_drainOnly _)
  · rw [beginDrain_used free]
    exact .of_eq rfl

theorem beginDrain_station (s : State) : (beginDrain s).cmd.station = s.cmd.station := by
  obtain ⟨_, _, _, cmd⟩ := beginDrain_drainOnly s
  rw [cmd, drainTold_cmd]
  rfl


theorem beginDrain_out (s : State) : (beginDrain s).out = (drainTold s).out := by
  have rest : OnlyChanges [.paths, .cmd] (drainTold s) (beginDrain s) := .ite (assemblyDrained_changes _) .rfl
  exact rest.1 .out (by decide)

/-! ### STOP in each operating state (R180) -/

theorem stopRun_running {s : State} (op : s.cmd.op = .running) : stopRun s = (beginDrain s, { result := .done }) := by
  rw [stopRun, op]

theorem stopRun_draining {s : State} (op : s.cmd.op = .draining) : stopRun s = (s, { result := .done }) := by rw [stopRun, op]

theorem stopRun_standby_refused {s : State} (op : s.cmd.op = .standby) : stopRun s = (s, { result := .refusedState }) := by
  rw [stopRun, op]

/-- Settles O53: the two states that STOP only answers in, and the drain that it begins in RUNNING. -/
theorem runStops : Obligations.RunStops := by
  unfold Obligations.RunStops
  intro s address tag taken
  refine ⟨_, exec_taken (c := .stop address tag []) rfl taken rfl rfl, fun op => ?_, fun op => ?_, fun op => ?_⟩
  · dsimp only
    rw [stopRun_standby_refused (s := takenState s) op]
    exact onlyAnswers_taken s _ tag _
  · dsimp only
    rw [stopRun_draining (s := takenState s) op]
    exact onlyAnswers_taken s _ tag _
  · dsimp only
    rw [stopRun_running (s := takenState s) op]
    refine ⟨(taken_changes (beginDrain_changes _) _ _ _).mono, fun used => ?_, fun free busy => ?_, fun free done => ?_,
      fun room => ?_⟩
    · rw [beginDrain_used (s := takenState s) used, queueReply_eq, drainTold_cmd, drainTold_paths]
      exact ⟨rfl, rfl⟩
    · rw [beginDrain_busy (s := takenState s) free busy, queueReply_eq, State.onCmd_cmd, drainTold_cmd]
      exact ⟨drainTold_paths _, rfl⟩
    · rw [beginDrain_done (s := takenState s) free done, queueReply_eq, State.onCmd_cmd, State.onPaths_cmd, drainTold_cmd]
      refine ⟨?_, rfl⟩
      show { (drainTold (takenState s)).paths with drainRequest := true } = _
      rw [drainTold_paths]
      rfl
    · refine ⟨_, showsStatus (drainingState (takenState s)) .operatingState, ?_⟩
      rw [queueReply_eq]
      show replied (beginDrain (takenState s)).out (replyFrame (beginDrain (takenState s)).cmd.station _ _ _) = _
      rw [beginDrain_out, beginDrain_station, drainTold, offerStatus_room (s := drainingState (takenState s)) room]
      rfl

end Sys2Proof.Machine
end

section
/-! SUPPORT. The run parameters and the lists on their way to the span unit: which rows leave them as they are (R136, R178). -/

namespace Sys2Proof.Machine

set_option Elab.async false

/-! ### Operations that leave both -/

/-- From s to t neither the run parameters nor the lists on their way to the span unit change. -/
structure Steady (s t : State) : Prop where
  params : t.cmd.params = s.cmd.params
  toSpan : t.paths.toSpan = s.paths.toSpan

theorem Steady.rfl {s : State} : Steady s s := ⟨Eq.refl _, Eq.refl _⟩

theorem Steady.last {s t u : State} (k : Steady t u) (h : Steady s t) : Steady s u :=
  ⟨k.params.trans h.params, k.toSpan.trans h.toSpan⟩

theorem Steady.of_changes {parts : List Part} {s t : State} (h : OnlyChanges parts s t)
    (hc : .cmd ∉ parts := by decide) (hp : .paths ∉ parts := by decide) : Steady s t :=
  ⟨congrArg CommandUnit.params (h.1 .cmd hc), congrArg Paths.toSpan (h.1 .paths hp)⟩

theorem Quiet.steady {s t : State} (h : Quiet s t) : Steady s t := by
  obtain ⟨o, f, r, k, rfl⟩ := h
  exact ⟨Eq.refl _, Eq.refl _⟩

theorem DrainOnly.params {s t : State} (h : DrainOnly s t) : t.cmd.params = s.cmd.params := by
  obtain ⟨_, _, _, hc⟩ := h
  rw [hc]

theorem testTally_steady (s : State) : Steady s (testTally s) := by
  rw [testTally_eq]
  split
  · exact ⟨rfl, rfl⟩
  · exact .rfl

theorem release_steady (s : State) : Steady s (release s) := by
  by_cases hg : s.asm.contexts.takeWhile (·.complete) = []
  · rw [show release s = s by simp [release, hg]]
    exact .rfl
  · exact ⟨(release_drainOnly s).params, by rw [release_eq s _ _ rfl rfl hg]⟩

theorem settleSpanClosed_steady (s : State) : Steady s (settleSpanClosed s) := by
  rcases settleSpanClosed_cases s with same | ⟨-, -, -, closed⟩
  · rw [same]
    exact .rfl
  · generalize settleSpanClosed s = t at closed
    cases closed with
    | standby => exact (Steady.of_changes (offerStatus_changes _ _)).last ⟨rfl, rfl⟩
    | _ => exact ⟨rfl, rfl⟩

theorem assemble_steady (s : State) (v : Verdict) (prof : Profile) : Steady s (assemble s v prof) := by
  cases v with
  | accepted => exact (release_steady _).last ⟨rfl, rfl⟩
  | _ => exact .rfl

theorem takeProfile_steady (s : State) (p : Port) (f : Frame) : Steady s (takeProfile s p f) := by
  have judged : ∀ k l v prof k', Steady s ((assemble ((s.countPort p k).countPort p l) v prof).countPort p k') :=
    fun k l v prof k' => (Steady.of_changes (State.countPort_changes _ p k')).last ((assemble_steady _ v prof).last ⟨rfl, rfl⟩)
  unfold takeProfile handProfile
  dsimp only
  split
  · exact ⟨rfl, rfl⟩
  · exact ⟨rfl, rfl⟩
  · split
    · exact (Steady.of_changes (forward_changes _ p f)).last (judged _ _ _ _ _)
    · exact judged _ _ _ _ _

theorem profileFrame_steady (s : State) (p : Port) (address : Byte) (payload : List Byte) :
    Steady s (profileFrame s p address payload) := by
  have closed : ∀ f x, Steady s ((settle s (.roof p) f).countRx (.roof p) x) := fun f x =>
    .of_changes (closeRoof_changes s p f x)
  unfold profileFrame
  dsimp only
  split
  · exact closed _ _
  · exact (takeProfile_steady _ p _).last ((Steady.of_changes (goodFrame_changes _ p)).last (closed _ _))

theorem handleTrigger_steady (s : State) : Steady s (handleTrigger s) := by
  unfold handleTrigger startScan
  dsimp only
  split
  · exact ⟨rfl, rfl⟩
  · split
    · exact ⟨rfl, rfl⟩
    · split
      · exact (release_steady _).last ⟨rfl, rfl⟩
      · exact ⟨rfl, rfl⟩

theorem lineChange_steady (s : State) (oda odb late : Bool) : Steady s (lineChange s oda odb late) := by
  have moved : ∀ f k, Steady s (countStep (accumulate (s.onOdo f) k)) := fun f k =>
    (Steady.of_changes (countStep_changes _)).last ((Steady.of_changes (accumulate_changes _ k)).last ⟨rfl, rfl⟩)
  unfold lineChange sendTrigger
  dsimp only
  split
  · exact .rfl
  · split
    · exact ⟨rfl, rfl⟩
    · split
      · split
        · exact (Steady.of_changes (State.onSeq_changes _ _)).last (moved _ _)
        · exact (handleTrigger_steady _).last (moved _ _)
      · exact moved _ _

theorem silenceTimerExpiry_steady (s : State) (p : Port) : Steady s (silenceTimerExpiry s p) := by
  unfold silenceTimerExpiry
  split
  · exact (release_steady _).last ((Steady.of_changes (State.onAsm_changes _ _)).last
      ((Steady.of_changes (offerStatus_changes _ _)).last ⟨rfl, rfl⟩))
  · exact .rfl

theorem deadlineReached_steady (s : State) (scan : Word16) : Steady s (deadlineReached s scan) := by
  unfold deadlineReached
  split
  · exact (release_steady _).last ⟨rfl, rfl⟩
  · exact .rfl

theorem triggerArrival_steady (s : State) : Steady s (triggerArrival s) := by
  unfold triggerArrival
  split
  · exact (settleSpanClosed_steady _).last ((handleTrigger_steady _).last ⟨rfl, rfl⟩)
  · exact .rfl

theorem resolveScan_steady (s : State) (scan : ReleasedScan) : Steady s (resolveScan s scan) := by
  obtain ⟨context, view⟩ := resolveScan_drainView s scan
  exact ⟨congrArg CommandUnit.params ((resolveScan_changes s scan).1 .cmd (by decide)),
    congrArg (fun v => v.2.1.toSpan) view⟩

theorem scanResolution_steady (s : State) : Steady s (scanResolution s) := by
  unfold scanResolution
  split
  · exact (resolveScan_steady _ _).last ⟨rfl, rfl⟩
  · exact .rfl

theorem geometryScan_steady (s : State) : Steady s (geometryScan s) := by
  unfold geometryScan
  split
  · exact ⟨rfl, rfl⟩
  · exact .rfl

theorem rawListArrival_steady (s : State) : Steady s (rawListArrival s) := by
  unfold rawListArrival
  split
  · exact ⟨rfl, rfl⟩
  · exact .rfl

theorem runOpeningReport_steady (s : State) : Steady s (runOpeningReport s) := by
  unfold runOpeningReport
  split
  · exact (settleSpanClosed_steady _).last ⟨rfl, rfl⟩
  · exact .rfl

theorem scanFinishedReport_steady (s : State) : Steady s (scanFinishedReport s) := by
  unfold scanFinishedReport
  split
  · exact (settleSpanClosed_steady _).last ((Steady.of_changes (finishScan_changes _ _)).last ⟨rfl, rfl⟩)
  · exact .rfl

theorem frameFailed_steady (s : State) (r : Receiver) (rx : Reception) : Steady s (frameFailed s r rx) := by
  cases r with
  | roof p => exact .of_changes (parts := [.roof]) (frameFailed_changes s (.roof p) rx)
  | motion => exact .of_changes (parts := [.motion]) (frameFailed_changes s .motion rx)
  | trunk => exact (frameFailed_trunk_quiet s rx).steady

/-! ### The commands -/

theorem startRun_steady (s : State) : Steady s (startRun s).1 := by
  unfold startRun
  split
  · exact .rfl
  · exact (Steady.of_changes (offerStatus_changes _ _)).last ⟨rfl, rfl⟩

theorem stopRun_steady (s : State) : Steady s (stopRun s).1 := by
  have told : Steady s (offerStatus (s.onCmd fun c => { c with op := .draining, drain := .waitingAssembly })
      .operatingState) := (Steady.of_changes (offerStatus_changes _ _)).last ⟨rfl, rfl⟩
  unfold stopRun
  split
  · show Steady s (beginDrain s)
    unfold beginDrain assemblyDrained
    dsimp only
    split
    · split
      · exact (testTally_steady _).last (Steady.last (t := offerStatus _ _) ⟨rfl, rfl⟩ told)
      · exact told
    · exact told
  · exact .rfl
  · exact .rfl

/-- Whether a command row sets the run parameters (R178). -/
def setsParams : Instr → Bool
  | .setRunParams _ _ _ => true
  | _ => false

theorem body_steady {c : Instr} {row : CommandRow} (h : commandRow c = some row) (other : setsParams c = false)
    (s : State) : Steady s (row.body s).1 := by
  cases c <;> cases h <;> dsimp only
  case setRunParams => cases other
  case identify => exact .rfl
  case getState => exact .rfl
  case getCounters => exact .rfl
  case clearCounters => exact ⟨rfl, rfl⟩
  case setHeads args => exact .of_changes (setHeads_changes args s)
  case loadHeadCal args => exact .of_changes (loadHeadCal_changes args s)
  case loadWireType args => exact .of_changes (loadWireType_changes args s)
  case setScanSpacing args => exact .of_changes (setScanSpacing_changes args s)
  case setStrobe args => exact .of_changes (setStrobe_changes args s)
  case setDistance args => exact .of_changes (setDistance_changes args s)
  case zoneAppend args => exact .of_changes (zoneAppend_changes args s)
  case zoneFlush => exact .of_changes (zoneFlush_changes s)
  case headPass args => exact .of_changes (headPass_changes args s)
  case start => exact startRun_steady s
  case stop => exact stopRun_steady s

/-! ### Every row -/

/-- Whether a row hands a list to the span unit, takes one from it, or resets the part (R136, R138, R142, R158, R182, R183). -/
def movesLists : Instr → Bool
  | .clusterListArrival => true
  | .trackListArrival => true
  | .drainCloseRequest => true
  | .stopListArrival => true
  | .reset _ _ _ => true
  | .hardReset => true
  | .hardResetEnd _ _ _ _ => true
  | _ => false

theorem meaning_steady {c : Instr} (lists : movesLists c = false) (params : setsParams c = false) (s : State) :
    Steady s (meaning c s) := by
  by_cases rows : ∃ row, commandRow c = some row
  · obtain ⟨row, hc⟩ := rows
    exact command_relates (R := Steady) Steady.last Quiet.steady hc (body_steady hc params) s
  by_cases hc : Part.cmd ∈ footprint c ∨ Part.paths ∈ footprint c
  · cases c <;> simp only [commandRow, reduceCtorEq, exists_false, Option.some.injEq, exists_eq', not_true_eq_false] at rows <;>
      simp only [footprint, List.mem_cons, List.not_mem_nil, reduceCtorEq, or_false, or_self] at hc <;>
      simp only [movesLists, reduceCtorEq] at lists
    case profileFrame p a b => exact profileFrame_steady s p a b
    case frameFailed r rx => exact frameFailed_steady s r rx
    case lineChange oda odb late => exact lineChange_steady s oda odb late
    case silenceTimerExpiry p => exact silenceTimerExpiry_steady s p
    case deadlineReached scan => exact deadlineReached_steady s scan
    case triggerArrival => exact triggerArrival_steady s
    case scanResolution => exact scanResolution_steady s
    case geometryScan => exact geometryScan_steady s
    case rawListArrival => exact rawListArrival_steady s
    case runOpeningReport => exact runOpeningReport_steady s
    case scanFinishedReport => exact scanFinishedReport_steady s
    case unknownCommand a code tag args => exact (unknownRow_quiet s a code tag args).steady
  · exact .of_changes (meaning_changes c s) (fun k => hc (.inl k)) (fun k => hc (.inr k))

end Sys2Proof.Machine
end

section
/-! SUPPORT. The zone queue: what keeps it legal (R66 to R74, Law 3). -/

namespace Sys2Proof.Machine

set_option Elab.async false

/-! ### The order of the entries (R68) -/

/-- An entry stands before another in the run direction (R68). -/
def ZoneEntry.standsBefore (dir : Sense) (a b : ZoneEntry) : Prop :=
  match dir with
  | .increasing => a.hi ≤ b.lo
  | .decreasing => b.hi ≤ a.lo

theorem beyond_iff (dir : Sense) (a b : ZoneEntry) : b.beyond a dir = true ↔ a.standsBefore dir b := by
  cases dir <;> simp [ZoneEntry.beyond, ZoneEntry.standsBefore]

theorem ZoneEntry.standsBefore.trans {dir : Sense} {a b c : ZoneEntry} (h : a.standsBefore dir b) (bounds : b.lo < b.hi)
    (k : b.standsBefore dir c) : a.standsBefore dir c := by
  cases dir
  · have ab : a.hi ≤ b.lo := h
    have bc : b.hi ≤ c.lo := k
    show a.hi ≤ c.lo
    omega
  · have ab : b.hi ≤ a.lo := h
    have bc : c.hi ≤ b.lo := k
    show c.hi ≤ a.lo
    omega

/-- Zone entries with lo below hi, each beyond every entry before it in the run direction (R68). -/
structure ZonesOrdered (dir : Sense) (es : List ZoneEntry) : Prop where
  bounds : ∀ e ∈ es, e.lo < e.hi
  order : es.Pairwise fun a b => a.standsBefore dir b

theorem ZonesOrdered.nil {dir : Sense} : ZonesOrdered dir [] := ⟨fun _ mem => absurd mem List.not_mem_nil, .nil⟩

theorem ZonesOrdered.sublist {dir : Sense} {es fs : List ZoneEntry} (h : ZonesOrdered dir es) (k : fs.Sublist es) :
    ZonesOrdered dir fs :=
  ⟨fun e mem => h.bounds e (k.subset mem), h.order.sublist k⟩

/-- The edges of an entry are all that its place in the order depends on. -/
def ZoneEntry.edges (e : ZoneEntry) : Int × Int := (e.lo, e.hi)

theorem zonesOrdered_iff_edges (dir : Sense) (es : List ZoneEntry) :
    ZonesOrdered dir es ↔ (∀ x ∈ es.map ZoneEntry.edges, x.1 < x.2) ∧
      (es.map ZoneEntry.edges).Pairwise fun x y => match dir with
        | .increasing => x.2 ≤ y.1
        | .decreasing => y.2 ≤ x.1 := by
  rw [List.forall_mem_map, List.pairwise_map]
  constructor
  · exact fun h => ⟨h.bounds, by cases dir <;> exact h.order⟩
  · exact fun h => ⟨h.1, by cases dir <;> exact h.2⟩

theorem ZonesOrdered.congr {dir : Sense} {es fs : List ZoneEntry} (h : ZonesOrdered dir es)
    (same : fs.map ZoneEntry.edges = es.map ZoneEntry.edges) : ZonesOrdered dir fs := by
  rw [zonesOrdered_iff_edges, same, ← zonesOrdered_iff_edges]
  exact h

/-- An entry joins the tail beyond the entry that stands there (R69, R70). -/
theorem ZonesOrdered.concat {dir : Sense} {es : List ZoneEntry} (h : ZonesOrdered dir es) {e : ZoneEntry}
    (bounds : e.lo < e.hi) (beyond : ∀ a, es.getLast? = some a → a.standsBefore dir e) : ZonesOrdered dir (es ++ [e]) := by
  refine ⟨fun a mem => ?_, List.pairwise_append.2 ⟨h.order, List.pairwise_singleton _ _, fun a mem b hb => ?_⟩⟩
  · rcases List.mem_append.1 mem with old | new
    · exact h.bounds a old
    · rw [List.mem_singleton.1 new]
      exact bounds
  · rw [List.mem_singleton.1 hb]
    rcases List.eq_nil_or_concat es with rfl | ⟨front, last, rfl⟩
    · cases mem
    · rw [List.concat_eq_append] at h mem beyond
      have tail := beyond last List.getLast?_concat
      rcases List.mem_append.1 mem with old | new
      · exact ((List.pairwise_append.1 h.order).2.2 a old last List.mem_cons_self).trans
          (h.bounds last (by simp)) tail
      · rw [List.mem_singleton.1 new]
        exact tail

/-! ### The zone queue legal -/

/-- The entries stand in order, and there is a current zone only where an entry is held (R68, R74). -/
structure ZonesPlaced (s : State) : Prop where
  ordered : ZonesOrdered s.cmd.params.direction s.zones.entries
  current : s.zones.current = true → s.zones.entries ≠ []

theorem zonesLegal_iff (s : State) : ZonesLegal s ↔ ZonesFit s ∧ ZonesPlaced s :=
  ⟨fun h => ⟨⟨h.room⟩, ⟨h.bounds, h.order⟩, h.current⟩,
    fun ⟨fit, placed⟩ => ⟨fit.le, placed.ordered.bounds, placed.ordered.order, placed.current⟩⟩

theorem ZonesPlaced.congr {s t : State} (h : ZonesPlaced s)
    (params : t.cmd.params.direction = s.cmd.params.direction := by rfl)
    (edges : t.zones.entries.map ZoneEntry.edges = s.zones.entries.map ZoneEntry.edges := by rfl)
    (current : t.zones.current = s.zones.current := by rfl) : ZonesPlaced t where
  ordered := by
    rw [params]
    exact h.ordered.congr edges
  current held empty := by
    rw [empty, List.map_nil] at edges
    exact h.current (current ▸ held) (List.map_eq_nil_iff.1 edges.symm)

theorem ZonesPlaced.steady {s t : State} (h : ZonesPlaced s) (params : t.cmd.params = s.cmd.params)
    (zones : t.zones = s.zones) : ZonesPlaced t :=
  h.congr (by rw [params]) (by rw [zones]) (by rw [zones])

theorem ZonesPlaced.of_changes {parts : List Part} {s t : State} (k : OnlyChanges parts s t) (h : ZonesPlaced s)
    (hc : .cmd ∉ parts := by decide) (hz : .zones ∉ parts := by decide) : ZonesPlaced t :=
  h.steady (congrArg CommandUnit.params (k.1 .cmd hc)) (k.1 .zones hz)

theorem ZonesPlaced.quiet {s t : State} (k : Quiet s t) (h : ZonesPlaced s) : ZonesPlaced t :=
  h.steady k.steady.params (k.changes.1 .zones (by decide))

theorem zonesPlaced_empty {s : State} (entries : s.zones.entries = [] := by rfl)
    (current : s.zones.current = false := by rfl) : ZonesPlaced s where
  ordered := by
    rw [entries]
    exact .nil
  current held := by simp [current] at held

/-! ### A scan is resolved (R73, R74) -/

theorem resolve_edges (z : ZoneQueue) (d : Int) :
    (z.resolve d).entries.map ZoneEntry.edges = z.entries.map ZoneEntry.edges := by
  unfold ZoneQueue.resolve
  split
  · next e rest held =>
    split
    · rw [held]
      rfl
    · rfl
  · rfl

theorem resolve_current (z : ZoneQueue) (d : Int) : (z.resolve d).current = true → (z.resolve d).entries ≠ [] := by
  unfold ZoneQueue.resolve
  split
  · split
    · exact fun _ => List.cons_ne_nil _ _
    · exact nofun
  · exact nofun

/-- Exhaustion sets a flag and offers a record (R80). -/
theorem exhaust_zones (s : State) :
    (exhaust s).zones = { s.zones with exhausted := if s.cmd.op = .running then true else s.zones.exhausted } := by
  unfold exhaust
  by_cases op : s.cmd.op = .running
  · rw [if_pos (by simp [op]), offerStatus_zones, if_pos op]
    rfl
  · rw [if_neg (by simp [op]), if_neg op]

theorem exhaust_entries (s : State) : (exhaust s).zones.entries = s.zones.entries := by rw [exhaust_zones]

theorem exhaust_cmd (s : State) : (exhaust s).cmd = s.cmd := (exhaust_changes s).1 .cmd (by decide)

theorem ZonesPlaced.exhaust {s : State} (h : ZonesPlaced s) : ZonesPlaced (exhaust s) :=
  h.congr (by rw [exhaust_cmd]) (by rw [exhaust_entries]) (by rw [exhaust_zones])

theorem ZonesPlaced.scanResolution {s : State} (h : ZonesPlaced s) : ZonesPlaced (scanResolution s) := by
  unfold Machine.scanResolution
  split
  · next scan rest _ =>
    have resolved : ∀ {t : State} d f k, ZonesOrdered t.cmd.params.direction t.zones.entries →
        ZonesPlaced (((t.onZones fun z => z.resolve d).onPaths f).onZones fun z => z.handOn k) := fun d f k ordered =>
      ⟨ordered.congr (resolve_edges _ d), resolve_current _ d⟩
    have kept := h.ordered.sublist (List.dropWhile_sublist fun e : ZoneEntry =>
      e.passed s.cmd.params.direction scan.snapshot.distance)
    unfold resolveScan
    dsimp only
    split
    · exact resolved _ _ _ (by rw [exhaust_cmd, exhaust_entries]; exact kept)
    · exact resolved _ _ _ kept
  · exact h

/-! ### Reports of the span unit (R77, R78) -/

theorem ZonesPlaced.settleSpanClosed {s : State} (h : ZonesPlaced s) : ZonesPlaced (settleSpanClosed s) :=
  h.steady (settleSpanClosed_steady s).params ((settleSpanClosed_changes s).1 .zones (by decide))

theorem countRun_edges (n : Word16) (es : List ZoneEntry) :
    (es.map (ZoneEntry.countRun n)).map ZoneEntry.edges = es.map ZoneEntry.edges := by
  rw [List.map_map]
  refine List.map_congr_left fun e _ => ?_
  unfold Function.comp ZoneEntry.countRun
  split
  · rfl
  · rfl

theorem ZonesPlaced.runOpeningReport {s : State} (h : ZonesPlaced s) : ZonesPlaced (runOpeningReport s) := by
  unfold Machine.runOpeningReport
  split
  · exact ZonesPlaced.settleSpanClosed (h.congr (edges := countRun_edges _ _))
  · exact h

theorem ZonesPlaced.scanFinishedReport {s : State} (h : ZonesPlaced s) : ZonesPlaced (scanFinishedReport s) := by
  unfold Machine.scanFinishedReport
  split
  · exact ZonesPlaced.settleSpanClosed (.of_changes (offerZones_changes _ _) h.congr)
  · exact h

/-! ### ZONE_APPEND and ZONE_FLUSH (R69 to R72) -/

/-- What an entry has passed that no test refuses (R69). -/
theorem judgeEntry_none {s : State} {before : Option ZoneEntry} {b : List Byte} (h : judgeEntry s before b = none) :
    (zoneEntryArg b).lo < (zoneEntryArg b).hi ∧
      ∀ a, before = some a → a.standsBefore s.cmd.params.direction (zoneEntryArg b) := by
  unfold judgeEntry at h
  dsimp only at h
  split at h
  · cases h
  · next legal =>
    split at h
    · cases h
    · split at h
      · cases h
      · next beyond =>
        simp only [zoneEntryOk, Bool.not_eq_true', Bool.not_eq_false, Bool.and_eq_true, decide_eq_true_eq, and_assoc] at legal
        refine ⟨legal.1, fun a same => ?_⟩
        simpa [same, beyond_iff] using beyond

/-- The first entry that fails refuses the command (R69). -/
theorem judgeEntries_fails {s : State} {before : Option ZoneEntry} {b : List Byte} {r : Result}
    (h : judgeEntry s before b = some r) (index : Nat) (bs : List (List Byte)) :
    judgeEntries s before index (b :: bs) = some (r, index) := by
  show (match judgeEntry s before b with
    | some r => some (r, index)
    | none => judgeEntries s (some (zoneEntryArg b)) (index + 1) bs) = _
  rw [h]

/-- An entry that passes is the one before the next (R69). -/
theorem judgeEntries_passes {s : State} {before : Option ZoneEntry} {b : List Byte} (h : judgeEntry s before b = none)
    (index : Nat) (bs : List (List Byte)) :
    judgeEntries s before index (b :: bs) = judgeEntries s (some (zoneEntryArg b)) (index + 1) bs := by
  show (match judgeEntry s before b with
    | some r => some (r, index)
    | none => judgeEntries s (some (zoneEntryArg b)) (index + 1) bs) = _
  rw [h]

theorem judgeEntries_ordered {s : State} (bs : List (List Byte)) {es : List ZoneEntry}
    (h : ZonesOrdered s.cmd.params.direction es) (index : Nat) (passed : judgeEntries s es.getLast? index bs = none) :
    ZonesOrdered s.cmd.params.direction (es ++ bs.map zoneEntryArg) := by
  induction bs generalizing es index with
  | nil => simpa using h
  | cons b bs ih =>
    cases judged : judgeEntry s es.getLast? b with
    | some r =>
      rw [judgeEntries_fails judged] at passed
      cases passed
    | none =>
      rw [judgeEntries_passes judged] at passed
      obtain ⟨bounds, beyond⟩ := judgeEntry_none judged
      rw [List.map_cons, ← List.singleton_append, ← List.append_assoc]
      exact ih (h.concat bounds beyond) (index + 1) (by rwa [List.getLast?_concat])

theorem numberEntries_edges (first : Word16) (bs : List (List Byte)) :
    (numberEntries first bs).map ZoneEntry.edges = (bs.map zoneEntryArg).map ZoneEntry.edges := by
  conv_rhs => rw [← List.zipIdx_map_fst 0 bs]
  simp only [numberEntries, List.map_map]
  rfl

theorem ZonesPlaced.zoneAppend {s : State} (h : ZonesPlaced s) (args : List Byte) : ZonesPlaced (zoneAppend args s).1 := by
  unfold Machine.zoneAppend
  dsimp only
  split
  · exact h
  · split
    · exact h
    · next passed =>
      refine ⟨(judgeEntries_ordered _ h.ordered 0 passed).congr ?_, fun held => ?_⟩
      · simp only [State.onZones_zones, ZoneQueue.append, List.map_append, numberEntries_edges]
      · exact List.append_ne_nil_of_left_ne_nil (h.current held) _

theorem ZonesPlaced.zoneFlush {s : State} (h : ZonesPlaced s) : ZonesPlaced (zoneFlush s).1 := by
  have flushed : ZonesPlaced (s.onZones ZoneQueue.flush) := zonesPlaced_empty
  unfold Machine.zoneFlush
  dsimp only
  split
  · exact h
  · split
    · exact flushed
    · split
      · exact ZonesPlaced.exhaust (.of_changes (offerZones_changes _ _) flushed)
      · exact ZonesPlaced.exhaust flushed.congr

/-! ### START, SET_RUN_PARAMS -/

theorem ZonesPlaced.startRun {s : State} (h : ZonesPlaced s) : ZonesPlaced (startRun s).1 := by
  unfold Machine.startRun
  split
  · exact h
  · exact .of_changes (offerStatus_changes _ _) ⟨h.ordered, nofun⟩

/-- Run parameters that take effect keep the run direction, or find the zone queue empty (R71, R178). -/
theorem runParamsFailure_none {args : List Byte} {s : State} (h : runParamsFailure args s = none) :
    (runParamsArg args).direction = s.cmd.params.direction ∨ s.zones.entries = [] := by
  unfold runParamsFailure at h
  dsimp only at h
  split at h
  · split at h
    · cases h
    · cases h
  · split at h
    · cases h
    · next still => simpa [imp_iff_not_or] using still

theorem ZonesPlaced.setRunParams {s : State} (h : ZonesPlaced s) (args : List Byte) : ZonesPlaced (setRunParams args s).1 := by
  unfold Machine.setRunParams
  split
  · exact h
  · next passed =>
    rcases runParamsFailure_none passed with same | empty
    · exact h.congr same
    · refine zonesPlaced_empty empty ?_
      exact Bool.eq_false_iff.2 fun held => h.current held empty

/-! ### Every row -/

/-- A row that leaves the zone queue as it is leaves the run parameters too, SET_RUN_PARAMS apart. -/
theorem meaning_params {c : Instr} (zones : Part.zones ∉ footprint c) (params : setsParams c = false) (s : State) :
    (meaning c s).cmd.params = s.cmd.params := by
  cases lists : movesLists c with
  | false => exact (meaning_steady lists params s).params
  | true =>
    cases c <;> simp only [movesLists, reduceCtorEq] at lists <;>
      simp only [footprint, everyPart, List.mem_cons, List.not_mem_nil, reduceCtorEq, true_or, or_true, not_true_eq_false] at zones
    case clusterListArrival => exact (clusterListArrival_drainOnly s).params
    case trackListArrival => exact congrArg CommandUnit.params ((trackListArrival_changes s).1 .cmd (by decide))
    case drainCloseRequest => exact congrArg CommandUnit.params ((drainCloseRequest_changes s).1 .cmd (by decide))
    case stopListArrival =>
      show (stopListArrival s).cmd.params = s.cmd.params
      unfold stopListArrival
      split
      · rw [spanStop_eq, (settleSpanClosed_steady _).params]
        exact congrArg CommandUnit.params ((spanClosing_changes _ _).1 .cmd (by decide))
      · rfl

theorem meaning_zonesPlaced (c : Instr) (s : State) (h : ZonesPlaced s) : ZonesPlaced (meaning c s) := by
  by_cases zones : Part.zones ∈ footprint c
  · cases c <;> simp only [footprint, List.mem_cons, List.not_mem_nil, reduceCtorEq, or_false, or_self] at zones
    case frameFailed r rx => cases r <;> cases zones
    case scanResolution => exact h.scanResolution
    case runOpeningReport => exact h.runOpeningReport
    case scanFinishedReport => exact h.scanFinishedReport
    case clearCounters a tag args =>
      exact command_keeps (c := .clearCounters a tag args) ZonesPlaced.quiet rfl (fun _ _ hu => hu.congr) h
    case zoneAppend a tag args =>
      exact command_keeps (c := .zoneAppend a tag args) ZonesPlaced.quiet rfl (fun _ _ hu => hu.zoneAppend args) h
    case zoneFlush a tag args =>
      exact command_keeps (c := .zoneFlush a tag args) ZonesPlaced.quiet rfl (fun _ _ hu => hu.zoneFlush) h
    case start a tag args =>
      exact command_keeps (c := .start a tag args) ZonesPlaced.quiet rfl (fun _ _ hu => hu.startRun) h
    case reset a tag args => exact reset_keeps ZonesPlaced.quiet (fun _ => zonesPlaced_empty) h
    case hardReset => exact zonesPlaced_empty
    case hardResetEnd a m x y => exact .quiet (hardResetEnd_quiet s a m x y) zonesPlaced_empty
  · cases params : setsParams c with
    | false => exact h.steady (meaning_params zones params s) ((meaning_changes c s).1 .zones zones)
    | true =>
      cases c <;> simp only [setsParams, reduceCtorEq] at params
      case setRunParams a tag args =>
        exact command_keeps (c := .setRunParams a tag args) ZonesPlaced.quiet rfl (fun _ _ hu => hu.setRunParams args) h

theorem meaning_zonesLegal (c : Instr) (s : State) (h : ZonesLegal s) : ZonesLegal (meaning c s) := by
  obtain ⟨fit, placed⟩ := (zonesLegal_iff s).1 h
  exact (zonesLegal_iff _).2 ⟨meaning_zonesFit c s fit, meaning_zonesPlaced c s placed⟩

theorem zonesLegal_kept : Kept ZonesLegal :=
  kept_of_exec (fun _ _ h => ⟨h.room, h.bounds, h.order, h.current⟩) (fun _ _ h => ⟨h.room, h.bounds, h.order, h.current⟩)
    meaning_zonesLegal

end Sys2Proof.Machine
end

section
/-! SUPPORT. The run store: what keeps it legal (R151, R154 to R156, Law 12). -/

namespace Sys2Proof.Machine

set_option Elab.async false

/-! ### The runs stay keyed (R151) -/

theorem RunsKeyed.congr {s t : State} (h : RunsKeyed s) (runs : t.span.runs = s.span.runs := by rfl) : RunsKeyed t := by
  rw [RunsKeyed, runs]
  exact h

theorem meaning_runsKeyed (c : Instr) (s : State) (h : RunsKeyed s) : RunsKeyed (meaning c s) := by
  cases clear : clearsCounters c with
  | false => exact (meaning_runsCarry c s clear h).1
  | true =>
    have quiet : ∀ {t u : State}, Quiet t u → RunsKeyed t → RunsKeyed u := fun k ht =>
      ht.congr (congrArg SpanUnit.runs (k.changes.1 .span (by decide)))
    have none_ : ∀ {t : State}, t.span.runs = [] → RunsKeyed t := fun ht => by
      rw [RunsKeyed, ht]
      exact .nil
    cases c <;> simp only [clearsCounters, reduceCtorEq] at clear
    case clearCounters a tag args =>
      exact command_keeps (c := .clearCounters a tag args) quiet rfl (fun _ _ hu => hu.congr) h
    case reset a tag args => exact reset_keeps quiet (fun _ => none_ rfl) h
    case hardReset => exact none_ rfl
    case hardResetEnd a m x y => exact quiet (hardResetEnd_quiet s a m x y) (none_ rfl)

/-! ### The kinds of the runs (R150, R154) -/

/-- The runs of tracks are of a kind other than COUNT, and the COUNT run is of kind COUNT with track id 0 (R151, R154). -/
structure RunsKinded (s : State) : Prop where
  kinds : ∀ r ∈ s.span.runs, r.kind ≠ .count
  count : ∀ r, s.span.count = some r → r.kind = .count ∧ r.track = 0

theorem runsLegal_iff (s : State) : RunsLegal s ↔ RunsKeyed s ∧ RunsKinded s :=
  ⟨fun h => ⟨h.keys, h.kinds, h.count⟩, fun ⟨keyed, kinded⟩ => ⟨keyed, kinded.kinds, kinded.count⟩⟩

/-- Runs that leave the store, and a COUNT run that closes, leave the others as they are. -/
theorem RunsKinded.fewer {s t : State} (h : RunsKinded s) (runs : ∀ r ∈ t.span.runs, r ∈ s.span.runs)
    (count : t.span.count = s.span.count ∨ t.span.count = none) : RunsKinded t where
  kinds r mem := h.kinds r (runs r mem)
  count r running := by
    rcases count with same | none_
    · exact h.count r (same ▸ running)
    · simp [none_] at running

theorem RunsKinded.congr {s t : State} (h : RunsKinded s) (runs : t.span.runs = s.span.runs := by rfl)
    (count : t.span.count = s.span.count := by rfl) : RunsKinded t := h.fewer (fun _ mem => runs ▸ mem) (.inl count)

theorem RunsKinded.of_changes {parts : List Part} {s t : State} (k : OnlyChanges parts s t) (h : RunsKinded s)
    (hp : .span ∉ parts := by decide) : RunsKinded t := by
  have span : t.span = s.span := k.1 .span hp
  exact h.congr (by rw [span]) (by rw [span])

theorem RunsKinded.quiet {s t : State} (k : Quiet s t) (h : RunsKinded s) : RunsKinded t := h.of_changes k.changes

theorem runsKinded_empty {s : State} (span : s.span = {} := by rfl) : RunsKinded s := by
  constructor <;> simp [span]

/-! ### The operations of the span unit -/

theorem RunsKinded.closeBin {s : State} (h : RunsKinded s) (id : Nat) (cause : CloseCause) :
    RunsKinded (closeBin s id cause) := by
  obtain ⟨runs, count, -⟩ := closeBin_leaves s id cause
  exact h.congr runs count

theorem RunsKinded.closeRun {s : State} (h : RunsKinded s) (id : Nat) (cause : CloseCause) (kind : RunKind) :
    RunsKinded (closeRun s id cause kind) := by
  refine h.fewer (fun r mem => ?_) (.inl (closeRun_keepsBins s id cause kind).count)
  rw [closeRun_runs] at mem
  exact List.mem_of_mem_filter mem

theorem RunsKinded.closeRuns {s : State} (h : RunsKinded s) (id : Nat) (cause : CloseCause) :
    RunsKinded (closeRuns s id cause) :=
  List.foldlRecOn trackKinds _ h fun _ ht kind _ => ht.closeRun id cause kind

theorem RunsKinded.closeCount {s : State} (h : RunsKinded s) (cause : CloseCause) : RunsKinded (closeCount s cause) := by
  have closed := closeCount_span s cause
  exact h.fewer (fun r mem => closed.runs ▸ mem) (.inr closed.count)

theorem RunsKinded.endTrack {s : State} (h : RunsKinded s) (cause : CloseCause) (e : EndedTrack) :
    RunsKinded (endTrack s cause e) := by
  have ended := endTrack_span s cause e
  exact h.fewer (fun r mem => List.mem_of_mem_filter (ended.runs ▸ mem)) (.inl ended.count)

theorem RunsKinded.changeRun {s : State} (h : RunsKinded s) (id : Nat) (kind : RunKind) {f : Run → Run}
    (keeps : ∀ r, (f r).kind = r.kind) : RunsKinded (changeRun s id kind f) where
  kinds r mem := by
    obtain ⟨k, held, rfl⟩ := List.mem_map.1 mem
    split
    · rw [keeps]
      exact h.kinds k held
    · exact h.kinds k held
  count := h.count

/-- A run of a track opens with the kind that was judged (R151). -/
theorem RunsKinded.actOnRun {s : State} (h : RunsKinded s) (z : ZoneView) (d : Int) (id : Nat) {kind : RunKind}
    (perTrack : kind ≠ .count) (j : Judgement) : RunsKinded (actOnRun s z d id kind j) := by
  unfold Machine.actOnRun
  split
  · refine ⟨fun r mem => ?_, h.count⟩
    rcases List.mem_append.1 mem with old | new
    · exact h.kinds r old
    · rw [List.mem_singleton.1 new]
      exact perTrack
  · exact h.changeRun id kind fun _ => rfl
  · have counted := h.changeRun id kind (f := fun r => { r with conforming := r.conforming + 1 }) fun _ => rfl
    dsimp only
    split
    · exact counted.closeRun id .released kind
    · exact counted
  · exact h

theorem RunsKinded.checkLimits {s : State} (h : RunsKinded s) (header : ScanHeader) (id : Nat) (m : Merged) :
    RunsKinded (checkLimits s header id m) := by
  unfold Machine.checkLimits
  split
  · exact List.foldlRecOn trackKinds _ h fun _ ht kind mem => ht.actOnRun _ _ id ((mem_trackKinds kind).1 mem) _
  · exact h

theorem RunsKinded.continueBin {s : State} (h : RunsKinded s) (device : Option CloseCause) (l : TrackList) (id : Nat)
    (hit : Option Merged) : RunsKinded (continueBin s device l id hit) := by
  unfold Machine.continueBin
  dsimp only
  split
  · split
    · have opened : ∀ t, RunsKinded t → RunsKinded (openBin t l.header l.tableFull id hit) := fun _ ht => ht.congr
      apply opened
      split
      · exact (h.closeBin id _).closeRuns id _
      · exact h.closeBin id _
    · exact h.congr
  · exact h.congr

theorem RunsKinded.takeEntry {s : State} (h : RunsKinded s) (device : Option CloseCause) (l : TrackList) (e : TrackEntry) :
    RunsKinded (takeEntry device l s e) := by
  cases e with
  | continuing id state hit =>
    cases hit with
    | none => exact h.continueBin device l id none
    | some m => exact (h.continueBin device l id (some m)).checkLimits l.header id m
  | confirmed id m => exact RunsKinded.checkLimits (s := openBin _ _ _ _ _) h.congr l.header id m
  | ended e => exact h.endTrack .trackEnd e

/-- The COUNT run opens with kind COUNT and track id 0, and keeps both (R154). -/
theorem RunsKinded.actOnCount {s : State} (h : RunsKinded s) (z : ZoneView) (d : Int) (j : Judgement) :
    RunsKinded (actOnCount s z d j) := by
  have becomes : ∀ {k : Run}, k.kind = .count ∧ k.track = 0 → RunsKinded (s.onSpan fun u => { u with count := some k }) :=
    fun hk => ⟨h.kinds, fun r same => by cases same; exact hk⟩
  unfold Machine.actOnCount
  split
  · exact (becomes (k := newRun 0 .count z d _) ⟨rfl, rfl⟩).congr
  · next r running => exact becomes (h.count r running)
  · next r running =>
    have counted := becomes (k := { r with conforming := r.conforming + 1 }) (h.count r running)
    dsimp only
    split
    · exact counted.closeCount .released
    · exact counted
  · exact h

theorem RunsKinded.handleCount {s : State} (h : RunsKinded s) (device : Option CloseCause) (l : TrackList) :
    RunsKinded (handleCount s device l) := by
  unfold Machine.handleCount
  dsimp only
  cases s.span.count.bind (countCloseCause device l.header) with
  | none =>
    cases l.header.context.zone with
    | none => exact h
    | some z => exact h.actOnCount z _ _
  | some cause =>
    cases l.header.context.zone with
    | none => exact h.closeCount cause
    | some z => exact (h.closeCount cause).actOnCount z _ _

theorem RunsKinded.spanEntries {s : State} (h : RunsKinded s) (l : TrackList) : RunsKinded (spanEntries s l) :=
  RunsKinded.handleCount (List.foldlRecOn l.entries _ h fun _ ht e _ => ht.takeEntry _ l e) _ l

theorem RunsKinded.spanClosing {s : State} (h : RunsKinded s) (l : StopList) : RunsKinded (spanClosing s l) :=
  RunsKinded.closeCount (List.foldlRecOn l.entries _ h fun _ ht e _ => ht.endTrack .stop e) .stop

/-! ### Every row -/

theorem meaning_runsKinded (c : Instr) (s : State) (h : RunsKinded s) : RunsKinded (meaning c s) := by
  by_cases hc : Part.span ∈ footprint c
  · cases c <;> simp only [footprint, List.mem_cons, List.not_mem_nil, reduceCtorEq, or_false, or_self] at hc
    case frameFailed r rx => cases r <;> cases hc
    case trackListArrival =>
      show RunsKinded (trackListArrival s)
      unfold trackListArrival
      split
      · exact (RunsKinded.spanEntries (s := s.onPaths _) h.congr _).congr
      · exact h
    case stopListArrival =>
      show RunsKinded (stopListArrival s)
      unfold stopListArrival
      split
      · rw [spanStop_eq]
        exact .of_changes (settleSpanClosed_changes _) (.of_changes (State.onPaths_changes _ _)
          (RunsKinded.spanClosing (s := s.onPaths _) h.congr _))
      · exact h
    case clearCounters a tag args =>
      exact command_keeps (c := .clearCounters a tag args) RunsKinded.quiet rfl (fun _ _ hu => hu.congr) h
    case start a tag args =>
      refine command_keeps (c := .start a tag args) RunsKinded.quiet rfl (fun u _ hu => ?_) h
      show RunsKinded (startRun u).1
      unfold startRun
      split
      · exact hu
      · exact .of_changes (offerStatus_changes _ _) hu.congr
    case reset a tag args => exact reset_keeps RunsKinded.quiet (fun _ => runsKinded_empty) h
    case hardReset => exact runsKinded_empty
    case hardResetEnd a m x y => exact .quiet (hardResetEnd_quiet s a m x y) runsKinded_empty
  · exact h.of_changes (meaning_changes c s) hc

theorem meaning_runsLegal (c : Instr) (s : State) (h : RunsLegal s) : RunsLegal (meaning c s) := by
  obtain ⟨keyed, kinded⟩ := (runsLegal_iff s).1 h
  exact (runsLegal_iff _).2 ⟨meaning_runsKeyed c s keyed, meaning_runsKinded c s kinded⟩

theorem runsLegal_kept : Kept RunsLegal :=
  kept_of_exec (fun _ _ h => ⟨h.keys, h.kinds, h.count⟩) (fun _ _ h => ⟨h.keys, h.kinds, h.count⟩) meaning_runsLegal

end Sys2Proof.Machine
end

section
/-! SUPPORT. Track ids: the value after an id, and the first one from the counter on that no live track holds (R124). -/

namespace Sys2Proof.Machine

set_option Elab.async false

theorem idAfter_range {id : Nat} (h : 1 ≤ id ∧ id ≤ 65535) : 1 ≤ idAfter id ∧ idAfter id ≤ 65535 := by
  unfold idAfter
  split
  · omega
  · omega

/-- The ids run around in a circle of 65,535. -/
theorem iterate_idAfter {id : Nat} (h : 1 ≤ id ∧ id ≤ 65535) (k : Nat) : idAfter^[k] id = (id - 1 + k) % 65535 + 1 := by
  induction k with
  | zero => rw [Function.iterate_zero_apply]; omega
  | succ k ih =>
    rw [Function.iterate_succ_apply', ih]
    unfold idAfter
    split
    · omega
    · omega

theorem freeId_range (live : List Nat) (fuel : Nat) {id : Nat} (h : 1 ≤ id ∧ id ≤ 65535) :
    1 ≤ freeId live fuel id ∧ freeId live fuel id ≤ 65535 := by
  induction fuel generalizing id with
  | zero => exact h
  | succ fuel ih =>
    unfold freeId
    split
    · exact ih (idAfter_range h)
    · exact h

/-- Where the search gives a live track's id, every id that it passed is a live track's. -/
theorem iterate_mem_of_freeId_mem {live : List Nat} {fuel id : Nat} (h : freeId live fuel id ∈ live) :
    ∀ k ≤ fuel, idAfter^[k] id ∈ live := by
  induction fuel generalizing id with
  | zero =>
    intro k le
    rw [Nat.le_zero.1 le]
    exact h
  | succ fuel ih =>
    unfold freeId at h
    split at h
    · next held =>
      intro k le
      cases k with
      | zero => simpa using held
      | succ k => exact ih h k (Nat.le_of_succ_le_succ le)
    · next free => simp [h] at free

/-- With fewer live tracks than ids in the search, a free id is found (R124). -/
theorem freeId_free {live : List Nat} {fuel id : Nat} (h : 1 ≤ id ∧ id ≤ 65535) (few : live.length ≤ fuel)
    (short : fuel < 65535) : freeId live fuel id ∉ live := by
  intro held
  have passed : (List.range (fuel + 1)).map (fun k => idAfter^[k] id) ⊆ live := fun x mem => by
    obtain ⟨k, below, rfl⟩ := List.mem_map.1 mem
    exact iterate_mem_of_freeId_mem held k (Nat.le_of_lt_succ (List.mem_range.1 below))
  have apart : ((List.range (fuel + 1)).map fun k => idAfter^[k] id).Nodup := by
    refine (List.nodup_map_iff_inj_on List.nodup_range).2 fun i hi j hj same => ?_
    rw [List.mem_range] at hi hj
    rw [iterate_idAfter h, iterate_idAfter h] at same
    omega
  have le := (List.subperm_of_subset apart passed).length_le
  rw [List.length_map, List.length_range] at le
  omega

end Sys2Proof.Machine
end

section
/-! SUPPORT. The track table: what keeps it legal (R122 to R135, R138, Law 1). -/

namespace Sys2Proof.Machine

set_option Elab.async false

/-! ### One track -/

/-- One live track in a legal state: its id is never 0, its slope within its limits, and misses are counted while COASTING alone
(R122, R131, R133). -/
structure Track.Legal (t : Track) : Prop where
  range : 1 ≤ t.id ∧ t.id ≤ 65535
  slope : -100000 ≤ t.slope ∧ t.slope ≤ 100000
  misses : t.state = .coasting ↔ 1 ≤ t.misses

theorem stateAfterHit_ne_coasting (before : TrackState) (hits : Counter) (confirmHits : Nat) :
    stateAfterHit before hits confirmHits ≠ .coasting := by
  unfold stateAfterHit
  split
  · split <;> exact nofun
  · exact nofun

theorem Track.Legal.hit {t : Track} (h : t.Legal) (header : ScanHeader) (confirmHits : Nat) (m : Merged) :
    (t.hit header confirmHits m).Legal where
  range := h.range
  slope := by
    show _ ≤ t.hitSlope header m.stagger ∧ t.hitSlope header m.stagger ≤ _
    unfold Track.hitSlope
    cases t.nextSlope header m.stagger with
    | none => exact h.slope
    | some k => exact ⟨le_clamp (by decide) k, clamp_le (by decide) k⟩
  misses := ⟨fun coasts => absurd coasts (stateAfterHit_ne_coasting _ _ _), nofun⟩

theorem Track.Legal.coast {t : Track} (h : t.Legal) : t.coast.Legal where
  range := h.range
  slope := h.slope
  misses := by
    refine ⟨fun _ => ?_, fun _ => rfl⟩
    show 1 ≤ if t.state = .coasting then t.misses + 1 else 1
    split
    · omega
    · exact Nat.le_refl 1

theorem newTrack_legal {id : Nat} (range : 1 ≤ id ∧ id ≤ 65535) (h : ScanHeader) (confirmHits : Nat) (m : Merged) :
    (newTrack id h confirmHits m).Legal where
  range := range
  slope := by
    show (-100000 : Int) ≤ 0 ∧ (0 : Int) ≤ 100000
    decide
  misses := by
    refine ⟨fun coasts => ?_, nofun⟩
    simp only [newTrack] at coasts
    split at coasts <;> cases coasts

/-! ### Hits and misses (R130 to R133) -/

/-- A track keeps its id and stays legal through its hit or miss. -/
theorem workTrack_legal {k : Track × Option Merged} (legal : k.1.Legal) (h : ScanHeader) (params : RunParams) {t : Track}
    (ht : (workTrack h params k).track = some t) : t.id = k.1.id ∧ t.Legal := by
  obtain ⟨k, _ | m⟩ := k
  · change (workMiss h params k).track = some t at ht
    unfold workMiss at ht
    split at ht
    · cases ht
    · dsimp only at ht
      split at ht
      · cases ht
      · cases ht
        exact ⟨rfl, legal.coast⟩
  · cases ht
    exact ⟨rfl, legal.hit h _ m⟩

/-! ### The table while a scan works on it -/

/-- Live tracks that are legal, with ids that differ, and an id counter within its range (R122, R124). -/
structure LiveLegal (live : List Track) (next : Nat) : Prop where
  ids : (live.map (·.id)).Nodup
  legal : ∀ t ∈ live, t.Legal
  next : 1 ≤ next ∧ next ≤ 65535

theorem tracksLegal_iff (s : State) :
    TracksLegal s ↔ s.tracks.slots.length = 6 ∧ LiveLegal s.tracks.live s.tracks.nextId :=
  ⟨fun h => ⟨h.slots, h.ids, fun t mem => ⟨h.range t mem, h.slope t mem, h.misses t mem⟩, h.next⟩,
    fun ⟨slots, live⟩ => ⟨slots, live.ids, fun t mem => (live.legal t mem).range, live.next,
      fun t mem => (live.legal t mem).slope, fun t mem => (live.legal t mem).misses⟩⟩

theorem LiveLegal.nil {next : Nat} (h : 1 ≤ next ∧ next ≤ 65535) : LiveLegal [] next :=
  ⟨.nil, fun _ mem => absurd mem List.not_mem_nil, h⟩

/-- Tracks that keep their ids and stay legal, or leave the table. -/
theorem LiveLegal.filterMap {α : Type} {f : α → Track} {g : α → Option Track} {ks : List α} {next : Nat}
    (h : LiveLegal (ks.map f) next) (keeps : ∀ k ∈ ks, ∀ t, g k = some t → t.id = (f k).id ∧ t.Legal) :
    LiveLegal (ks.filterMap g) next := by
  refine ⟨?_, fun t mem => ?_, h.next⟩
  · have ids : ((ks.filterMap g).map (·.id)).Sublist ((ks.map f).map (·.id)) := by
      have same : (ks.filterMap g).map (·.id) = ks.filterMap fun k => (g k).map (·.id) := List.map_filterMap
      rw [same, List.map_map]
      clear h same
      induction ks with
      | nil => exact .slnil
      | cons k ks ih =>
        have rest := ih fun k mem => keeps k (List.mem_cons_of_mem _ mem)
        rw [List.filterMap_cons, List.map_cons]
        cases hg : g k with
        | none => exact rest.cons _
        | some t =>
          have id := (keeps k List.mem_cons_self t hg).1
          rw [Option.map_some, id]
          exact rest.cons_cons _
    exact h.ids.sublist ids
  · obtain ⟨k, mem, hg⟩ := List.mem_filterMap.1 mem
    exact (keeps k mem t hg).2

theorem liveIds_eq (ws : List SlotWork) : liveIds ws = (liveOf ws).map (·.id) := by
  rw [liveIds, liveOf, List.map_filterMap]

theorem liveOf_length_le (ws : List SlotWork) : (liveOf ws).length ≤ ws.length := List.length_filterMap_le _ _

/-- The table after the hits and misses of a scan. -/
theorem LiveLegal.works {t : TrackTable} (h : LiveLegal t.live t.nextId) (header : ScanHeader) (params : RunParams)
    (done : List Candidate) (items : List Merged) :
    LiveLegal (liveOf (t.slots.zipIdx.map (workSlot header params done items))) t.nextId := by
  rw [works_live]
  rw [← slotHits_fst t done items] at h
  exact h.filterMap fun k mem _ live => workTrack_legal (h.legal _ (List.mem_map_of_mem mem)) header params live

/-! ### Births (R124, R134, R135) -/

/-- A track is placed in a slot that held none. -/
theorem placeTrack_perm {t : Track} {m : Merged} {ws xs : List SlotWork} (h : placeTrack t m ws = some xs) :
    (liveOf xs).Perm (t :: liveOf ws) := by
  induction ws generalizing xs with
  | nil => cases h
  | cons w ws ih =>
    unfold placeTrack at h
    split at h
    · next free =>
      cases h
      simp only [liveOf, List.filterMap_cons, free]
      exact .refl _
    · next k used =>
      obtain ⟨ys, hy, rfl⟩ := Option.map_eq_some_iff.1 h
      simp only [liveOf, List.filterMap_cons, used]
      exact ((ih hy).cons k).trans (.swap t k _)

theorem LiveLegal.bear {b : BirthWork} (h : LiveLegal (liveOf b.slots) b.nextId) (few : b.slots.length ≤ 7)
    (header : ScanHeader) (confirmHits : Nat) (m : Merged) :
    LiveLegal (liveOf (bear header confirmHits b m).slots) (bear header confirmHits b m).nextId := by
  have range := freeId_range (liveIds b.slots) 7 h.next
  have free : freeId (liveIds b.slots) 7 b.nextId ∉ liveIds b.slots := by
    refine freeId_free h.next ?_ (by decide)
    rw [liveIds_eq, List.length_map]
    exact (liveOf_length_le _).trans few
  unfold Machine.bear
  dsimp only
  split
  · next slots placed =>
    have perm := placeTrack_perm placed
    refine ⟨(perm.map (·.id)).nodup_iff.2 (List.nodup_cons.2 ⟨?_, h.ids⟩), fun t mem => ?_, idAfter_range range⟩
    · rw [← liveIds_eq]
      exact free
    · rcases List.mem_cons.1 (perm.mem_iff.1 mem) with rfl | old
      · exact newTrack_legal range header confirmHits m
      · exact h.legal t old
  · exact h

theorem LiveLegal.bearAll (header : ScanHeader) (confirmHits : Nat) (ms : List Merged) {b : BirthWork}
    (h : LiveLegal (liveOf b.slots) b.nextId) (few : b.slots.length ≤ 7) :
    LiveLegal (liveOf (ms.foldl (Machine.bear header confirmHits) b).slots) (ms.foldl (Machine.bear header confirmHits) b).nextId := by
  induction ms generalizing b with
  | nil => exact h
  | cons m ms ih => exact ih (h.bear few header confirmHits m) (by rwa [bear_length])

/-- The table after a scan. -/
theorem LiveLegal.afterScan {t : TrackTable} (h : LiveLegal t.live t.nextId) (slots : t.slots.length = 6) (params : RunParams)
    (l : ClusterList) :
    LiveLegal (t.afterScan params l (trackWork t params l)).live (t.afterScan params l (trackWork t params l)).nextId := by
  rw [afterScan_live]
  exact LiveLegal.bearAll l.header params.confirmHits _ (h.works l.header params _ l.items) (by simp [slots])

/-! ### Every row -/

theorem TracksLegal.congr {s t : State} (h : TracksLegal s) (slots : t.tracks.slots = s.tracks.slots := by rfl)
    (next : t.tracks.nextId = s.tracks.nextId := by rfl) : TracksLegal t := by
  rw [tracksLegal_iff, TrackTable.live, slots, next, ← TrackTable.live, ← tracksLegal_iff]
  exact h

theorem TracksLegal.of_tracks {s t : State} (h : TracksLegal s) (tracks : t.tracks = s.tracks) : TracksLegal t :=
  h.congr (by rw [tracks]) (by rw [tracks])

theorem TracksLegal.quiet {s t : State} (k : Quiet s t) (h : TracksLegal s) : TracksLegal t :=
  h.of_tracks (k.changes.1 .tracks (by decide))

theorem tracksLegal_empty {s : State} (next : 1 ≤ s.tracks.nextId ∧ s.tracks.nextId ≤ 65535)
    (slots : s.tracks.slots = List.replicate 6 none := by rfl) : TracksLegal s := by
  have live : s.tracks.live = [] := by simp [TrackTable.live, slots]
  rw [tracksLegal_iff, live]
  exact ⟨by simp [slots], .nil next⟩

theorem clusterListArrival_tracks {s : State} {l : ClusterList} {rest : List ClusterList}
    (h : s.paths.toTrack = l :: rest) :
    (clusterListArrival s).tracks = s.tracks.afterScan s.cmd.params l (trackWork s.tracks s.cmd.params l) := by
  simp only [clusterListArrival, h, trackScan]
  exact (testTally_changes _).1 .tracks (by decide)

theorem clusterListArrival_none {s : State} (h : s.paths.toTrack = []) : clusterListArrival s = s := by
  simp only [clusterListArrival, h]

theorem TracksLegal.clusterListArrival {s : State} (h : TracksLegal s) : TracksLegal (clusterListArrival s) := by
  cases waiting : s.paths.toTrack with
  | nil => rwa [clusterListArrival_none waiting]
  | cons l rest =>
    obtain ⟨slots, live⟩ := (tracksLegal_iff s).1 h
    rw [tracksLegal_iff, clusterListArrival_tracks waiting]
    refine ⟨?_, live.afterScan slots _ l⟩
    show ((trackWork s.tracks s.cmd.params l).slots.map (·.track)).length = 6
    rw [List.length_map, trackWork_length, slots]

theorem TracksLegal.drainCloseRequest {s : State} (h : TracksLegal s) : TracksLegal (drainCloseRequest s) := by
  unfold Machine.drainCloseRequest
  split
  · obtain ⟨slots, live⟩ := (tracksLegal_iff s).1 h
    rw [tracksLegal_iff]
    dsimp only
    rw [State.onTracks_tracks, closeDrain_live]
    exact ⟨by simpa [TrackTable.closeDrain] using slots, .nil live.next⟩
  · exact h

theorem meaning_tracksLegal (c : Instr) (s : State) (h : TracksLegal s) : TracksLegal (meaning c s) := by
  have firstId : 1 ≤ 1 ∧ 1 ≤ 65535 := by decide
  by_cases hc : Part.tracks ∈ footprint c
  · cases c <;> simp only [footprint, List.mem_cons, List.not_mem_nil, reduceCtorEq, or_false, or_self] at hc
    case frameFailed r rx => cases r <;> cases hc
    case clusterListArrival => exact h.clusterListArrival
    case drainCloseRequest => exact h.drainCloseRequest
    case clearCounters a tag args =>
      exact command_keeps (c := .clearCounters a tag args) TracksLegal.quiet rfl (fun _ _ hu => hu.congr) h
    case reset a tag args => exact reset_keeps TracksLegal.quiet (fun hu => tracksLegal_empty hu.next) h
    case hardReset => exact tracksLegal_empty firstId
    case hardResetEnd a m x y => exact .quiet (hardResetEnd_quiet s a m x y) (tracksLegal_empty firstId)
  · exact h.of_tracks ((meaning_changes c s).1 .tracks hc)

theorem tracksLegal_kept : Kept TracksLegal :=
  kept_of_exec (fun _ _ h => h.of_tracks rfl) (fun _ _ h => h.of_tracks rfl) meaning_tracksLegal

end Sys2Proof.Machine
end

section
/-! SUPPORT. What an arrival at the span unit says of the tracks: those reported before it and those reported after it, so that it
fits the open bins (R136, R138). -/

namespace Sys2Proof.Machine

set_option Elab.async false

/-! ### One entry -/

/-- The track that an entry continues. -/
def TrackEntry.continued : TrackEntry → Option Nat
  | .continuing id _ _ => some id
  | _ => none

/-- The track that an entry confirms. -/
def TrackEntry.confirms : TrackEntry → Option Nat
  | .confirmed id _ => some id
  | _ => none

/-- The track that an entry ends. -/
def TrackEntry.ends : TrackEntry → Option Nat
  | .ended e => some e.id
  | _ => none

/-- The track of an entry that was reported before the arrival: one that it continues or ends. -/
def TrackEntry.before : TrackEntry → Option Nat
  | .continuing id _ _ => some id
  | .confirmed _ _ => none
  | .ended e => some e.id

/-- The track of an entry that is reported after the arrival: one that it continues or confirms. -/
def TrackEntry.after : TrackEntry → Option Nat
  | .continuing id _ _ => some id
  | .confirmed id _ => some id
  | .ended _ => none

/-! ### One arrival -/

/-- The entries of an arrival; those of a stop list are all ended (R138). -/
def SpanArrival.entries : SpanArrival → List TrackEntry
  | .tracks l => l.entries
  | .stop l => l.entries.map .ended

theorem SpanArrival.continues_eq (a : SpanArrival) : a.continues = a.entries.filterMap TrackEntry.continued := by
  cases a with
  | tracks l => exact congrArg (l.entries.filterMap ·) (funext fun e => by cases e <;> rfl)
  | stop l => simp [SpanArrival.continues, SpanArrival.entries, TrackEntry.continued, List.filterMap_map, Function.comp_def]

theorem SpanArrival.confirms_eq (a : SpanArrival) : a.confirms = a.entries.filterMap TrackEntry.confirms := by
  cases a with
  | tracks l => exact congrArg (l.entries.filterMap ·) (funext fun e => by cases e <;> rfl)
  | stop l => simp [SpanArrival.confirms, SpanArrival.entries, TrackEntry.confirms, List.filterMap_map, Function.comp_def]

theorem SpanArrival.ends_eq (a : SpanArrival) : a.ends = a.entries.filterMap TrackEntry.ends := by
  cases a with
  | tracks l => exact congrArg (l.entries.filterMap ·) (funext fun e => by cases e <;> rfl)
  | stop l =>
    simp [SpanArrival.ends, SpanArrival.entries, TrackEntry.ends, List.filterMap_map, Function.comp_def]

theorem before_perm (es : List TrackEntry) :
    (es.filterMap TrackEntry.continued ++ es.filterMap TrackEntry.ends).Perm (es.filterMap TrackEntry.before) := by
  induction es with
  | nil => exact .nil
  | cons e es ih =>
    cases e with
    | continuing id state hit => exact ih.cons id
    | confirmed id m => exact ih
    | ended e => exact List.perm_middle.trans (ih.cons e.id)

theorem after_perm (es : List TrackEntry) :
    (es.filterMap TrackEntry.continued ++ es.filterMap TrackEntry.confirms).Perm (es.filterMap TrackEntry.after) := by
  induction es with
  | nil => exact .nil
  | cons e es ih =>
    cases e with
    | continuing id state hit => exact ih.cons id
    | confirmed id m => exact List.perm_middle.trans (ih.cons id)
    | ended e => exact ih

/-- An arrival leads from some reported tracks to others: it continues or ends each of the first, and continues or confirms each of
the second (R136). -/
structure SpanArrival.Leads (a : SpanArrival) (old new : List Nat) : Prop where
  before : (a.continues ++ a.ends).Perm old
  after : (a.continues ++ a.confirms).Perm new

theorem SpanArrival.leads_of_entries {a : SpanArrival} {old new : List Nat} (before : a.entries.filterMap TrackEntry.before = old)
    (after : a.entries.filterMap TrackEntry.after = new) : a.Leads old new := by
  constructor
  · rw [a.continues_eq, a.ends_eq, ← before]
    exact before_perm _
  · rw [a.continues_eq, a.confirms_eq, ← after]
    exact after_perm _

/-- An arrival that leads from distinct tracks to distinct tracks fits the first (R124, R136). -/
theorem SpanArrival.Leads.fits {a : SpanArrival} {old new : List Nat} (h : a.Leads old new) (distinct : old.Nodup)
    (distinctNew : new.Nodup) : a.Fits old where
  after := h.after.nodup_iff.2 distinctNew
  before := h.before.nodup_iff.2 distinct
  known id mem := h.before.mem_iff.1 mem
  fresh id confirmed held := by
    have apart := List.disjoint_of_nodup_append (h.after.nodup_iff.2 distinctNew)
    rcases List.mem_append.1 (h.before.mem_iff.2 held) with continued | ended
    · exact absurd confirmed (apart continued)
    · exact ended

/-- The tracks that have an open bin once an arrival has been taken (R145, R149). -/
def SpanArrival.leaves (a : SpanArrival) (open_ : List Nat) : List Nat :=
  (open_.filter fun id => decide (id ∉ a.ends)) ++ a.confirms

theorem SpanArrival.mem_leaves (a : SpanArrival) (open_ : List Nat) (id : Nat) :
    id ∈ a.leaves open_ ↔ id ∈ open_ ∧ id ∉ a.ends ∨ id ∈ a.confirms := by
  simp [SpanArrival.leaves]

theorem SpanArrival.Leads.mem_leaves {a : SpanArrival} {old new : List Nat} (h : a.Leads old new) (distinct : old.Nodup)
    (id : Nat) : id ∈ a.leaves old ↔ id ∈ new := by
  have apart := List.disjoint_of_nodup_append (h.before.nodup_iff.2 distinct)
  rw [a.mem_leaves, ← h.before.mem_iff, ← h.after.mem_iff, List.mem_append, List.mem_append]
  constructor
  · rintro (⟨continued | ended, stays⟩ | confirmed)
    · exact .inl continued
    · exact absurd ended stays
    · exact .inr confirmed
  · rintro (continued | confirmed)
    · exact .inl ⟨.inl continued, apart continued⟩
    · exact .inr confirmed

/-! ### The arrivals that wait -/

theorem SpanArrival.Fits.congr {a : SpanArrival} {open_ others : List Nat} (h : a.Fits open_)
    (same : ∀ id, id ∈ others ↔ id ∈ open_) : a.Fits others :=
  ⟨h.after, h.before, fun id mem => (same id).2 (h.known id mem), fun id confirmed held => h.fresh id confirmed ((same id).1 held)⟩

/-- Of the open bins, only which tracks have one matters. -/
theorem FollowsTable.congr {reported : List Nat} {as : List SpanArrival} {open_ others : List Nat}
    (h : FollowsTable reported open_ as) (same : ∀ id, id ∈ others ↔ id ∈ open_) : FollowsTable reported others as := by
  induction as generalizing open_ others with
  | nil => exact fun id => (same id).trans (h id)
  | cons a as ih =>
    refine ⟨h.1.congr same, ih h.2 fun id => ?_⟩
    show id ∈ a.leaves others ↔ id ∈ a.leaves open_
    rw [a.mem_leaves, a.mem_leaves, same]

/-- An arrival joins those that wait (R136, R138, R142). -/
theorem FollowsTable.concat {old new : List Nat} {as : List SpanArrival} {open_ : List Nat} (h : FollowsTable old open_ as)
    {a : SpanArrival} (leads : a.Leads old new) (distinct : old.Nodup) (distinctNew : new.Nodup) :
    FollowsTable new open_ (as ++ [a]) := by
  induction as generalizing open_ with
  | nil =>
    refine ⟨(leads.fits distinct distinctNew).congr h, fun id => ?_⟩
    show id ∈ a.leaves open_ ↔ id ∈ new
    rw [← leads.mem_leaves distinct, a.mem_leaves, a.mem_leaves, h id]
  | cons b as ih => exact ⟨h.1, ih h.2⟩

end Sys2Proof.Machine
end

section
/-! SUPPORT. What the track table hands on: each slot's entries say what was reported in it before the scan and what is reported in
it after the scan (R132 to R138). -/

namespace Sys2Proof.Machine

set_option Elab.async false

/-! ### One slot -/

/-- The id of a slot's track, where it is CONFIRMED or COASTING. -/
def reportedIds (slot : Option Track) : List Nat := (slot.toList.filter isReported).map (·.id)

/-- A slot's entries say what was reported in it before the scan, and what is reported in it now. -/
structure SlotWork.Listed (old : Option Track) (w : SlotWork) : Prop where
  before : w.entries.filterMap TrackEntry.before = reportedIds old
  after : w.entries.filterMap TrackEntry.after = reportedIds w.track

@[simp] theorem Track.hit_id (t : Track) (h : ScanHeader) (confirmHits : Nat) (m : Merged) :
    (t.hit h confirmHits m).id = t.id := rfl

@[simp] theorem Track.coast_id (t : Track) : t.coast.id = t.id := rfl

@[simp] theorem isReported_coast (t : Track) : isReported t.coast = true := rfl

theorem workHit_listed (h : ScanHeader) (params : RunParams) (t : Track) (m : Merged) :
    (workHit h params t m).Listed (some t) := by
  have state : (t.hit h params.confirmHits m).state = stateAfterHit t.state (bump t.hits) params.confirmHits := rfl
  cases old : t.state with
  | tentative =>
    rw [old, stateAfterHit] at state
    split at state <;>
      constructor <;> simp [workHit, hitEntry, old, state, reportedIds, isReported, TrackEntry.before, TrackEntry.after]
  | _ =>
    have confirmed : (t.hit h params.confirmHits m).state = .confirmed := by
      rw [state, old]
      rfl
    constructor <;> simp [workHit, hitEntry, old, confirmed, reportedIds, isReported, TrackEntry.before, TrackEntry.after]

theorem workMiss_listed (h : ScanHeader) (params : RunParams) (t : Track) : (workMiss h params t).Listed (some t) := by
  unfold workMiss
  split
  · next state => constructor <;> simp [reportedIds, isReported, state]
  · next state =>
    have reported : isReported t = true := by simpa [isReported] using state
    dsimp only
    split
    · constructor <;> simp [reportedIds, reported, TrackEntry.before, TrackEntry.after, Track.ended]
    · constructor <;> simp [reportedIds, reported, List.filter_cons, TrackEntry.before, TrackEntry.after]

theorem workSlot_listed (h : ScanHeader) (params : RunParams) (done : List Candidate) (items : List Merged)
    (slot : Option Track × Nat) : (workSlot h params done items slot).Listed slot.1 := by
  obtain ⟨_ | t, i⟩ := slot
  · exact ⟨rfl, rfl⟩
  · simp only [workSlot]
    cases assignedTo done items i with
    | none => exact workMiss_listed h params t
    | some m => exact workHit_listed h params t m

/-- A track is born in a slot whose own track has ended, or that held none (R134, R136). -/
theorem SlotWork.Listed.bear {old : Option Track} {w : SlotWork} (h : w.Listed old) (free : w.track = none) {t : Track}
    (born : t.state = .confirmed ∨ t.state = .tentative) (m : Merged) :
    SlotWork.Listed old ⟨some t, w.entries ++ (if t.state = .confirmed then [.confirmed t.id m] else [])⟩ := by
  obtain ⟨before, after⟩ := h
  rw [free] at after
  rcases born with state | state <;>
    constructor <;>
    simp [state, before, after, reportedIds, isReported, TrackEntry.before, TrackEntry.after]

/-! ### The table -/

theorem newTrack_state (id : Nat) (h : ScanHeader) (confirmHits : Nat) (m : Merged) :
    (newTrack id h confirmHits m).state = .confirmed ∨ (newTrack id h confirmHits m).state = .tentative := by
  simp only [newTrack]
  split
  · exact .inl rfl
  · exact .inr rfl

/-- Each slot's entries say what happened in it. -/
abbrev SlotsListed (old : List (Option Track)) (ws : List SlotWork) : Prop := List.Forall₂ (fun o w => SlotWork.Listed o w) old ws

theorem placeTrack_listed {t : Track} (born : t.state = .confirmed ∨ t.state = .tentative) {m : Merged}
    {old : List (Option Track)} {ws xs : List SlotWork} (h : SlotsListed old ws) (placed : placeTrack t m ws = some xs) :
    SlotsListed old xs := by
  induction h generalizing xs with
  | nil => cases placed
  | @cons o w old ws one rest ih =>
    unfold placeTrack at placed
    split at placed
    · next free =>
      cases placed
      exact .cons (one.bear free born m) rest
    · obtain ⟨ys, hy, rfl⟩ := Option.map_eq_some_iff.1 placed
      exact .cons one (ih hy)

theorem bearAll_listed (h : ScanHeader) (confirmHits : Nat) (ms : List Merged) {old : List (Option Track)} {b : BirthWork}
    (listed : SlotsListed old b.slots) : SlotsListed old (ms.foldl (bear h confirmHits) b).slots := by
  induction ms generalizing b with
  | nil => exact listed
  | cons m ms ih =>
    refine ih ?_
    unfold bear
    dsimp only
    split
    · next placed => exact placeTrack_listed (newTrack_state _ h confirmHits m) listed placed
    · exact listed

theorem trackWork_listed (t : TrackTable) (params : RunParams) (l : ClusterList) :
    SlotsListed t.slots (trackWork t params l).slots := by
  refine bearAll_listed l.header params.confirmHits _ ?_
  show SlotsListed t.slots (t.slots.zipIdx.map (workSlot l.header params (assign (candidates params l.header t.slots l.items)) l.items))
  have slots : t.slots = t.slots.zipIdx.map Prod.fst := (List.zipIdx_map_fst 0 t.slots).symm
  conv_lhs => rw [slots]
  rw [SlotsListed, List.forall₂_map_left_iff, List.forall₂_map_right_iff, List.forall₂_same]
  exact fun slot _ => workSlot_listed l.header params _ l.items slot

theorem flatMap_reportedIds (slots : List (Option Track)) :
    slots.flatMap reportedIds = ((slots.filterMap id).filter isReported).map (·.id) := by
  induction slots with
  | nil => rfl
  | cons slot slots ih =>
    rw [List.flatMap_cons, ih]
    cases slot with
    | none => rfl
    | some t => cases reported : isReported t <;> simp [reportedIds, reported]

theorem SlotsListed.entries {old : List (Option Track)} {ws : List SlotWork} (h : SlotsListed old ws) :
    (ws.flatMap (·.entries)).filterMap TrackEntry.before = old.flatMap reportedIds ∧
      (ws.flatMap (·.entries)).filterMap TrackEntry.after = (ws.map (·.track)).flatMap reportedIds := by
  induction h with
  | nil => exact ⟨rfl, rfl⟩
  | cons one _ ih =>
    simp only [List.flatMap_cons, List.map_cons, List.filterMap_append, one.before, one.after, ih.1, ih.2, and_self]

/-- The ids of the tracks that are CONFIRMED or COASTING. -/
abbrev TrackTable.ids (t : TrackTable) : List Nat := t.reported.map (·.id)

theorem TrackTable.ids_eq (t : TrackTable) : t.ids = t.slots.flatMap reportedIds := (flatMap_reportedIds t.slots).symm

theorem LiveLegal.distinct {t : TrackTable} (h : LiveLegal t.live t.nextId) : t.ids.Nodup :=
  h.ids.sublist (List.filter_sublist.map _)

/-- A scan's track list leads from the tracks reported before it to those reported after it (R136). -/
theorem trackListOf_leads (t : TrackTable) (params : RunParams) (l : ClusterList) :
    (SpanArrival.tracks (trackListOf l (trackWork t params l))).Leads t.ids (t.afterScan params l (trackWork t params l)).ids := by
  obtain ⟨before, after⟩ := (trackWork_listed t params l).entries
  refine SpanArrival.leads_of_entries ?_ ?_
  · rw [t.ids_eq]
    exact before
  · rw [TrackTable.ids_eq]
    exact after

/-- The stop list ends every reported track (R138). -/
theorem stopList_leads (t : TrackTable) : (SpanArrival.stop ⟨stopEntries t, t.last⟩).Leads t.ids t.closeDrain.ids := by
  refine SpanArrival.leads_of_entries ?_ ?_
  · simp only [SpanArrival.entries, stopEntries, List.map_map, List.filterMap_map]
    exact congrFun List.filterMap_eq_map _
  · have none_ : t.closeDrain.ids = [] := by simp [TrackTable.ids, TrackTable.reported, closeDrain_live]
    rw [none_, SpanArrival.entries, List.filterMap_map]
    exact List.filterMap_eq_nil_iff.2 fun _ _ => rfl

end Sys2Proof.Machine
end

section
/-! SUPPORT. What an arrival does to the open bins: they stay keyed by track, and those of the tracks reported after it are left
(R141, R145 to R149, R158). -/

namespace Sys2Proof.Machine

set_option Elab.async false

/-! ### The tracks with an open bin -/

/-- The tracks with an open bin, in the order of the bins. -/
def binTracks (s : State) : List Nat := s.span.bins.map (·.track)

theorem binTracks_congr {s t : State} (h : t.span.bins = s.span.bins) : binTracks t = binTracks s := by
  rw [binTracks, h, binTracks]

theorem closeBin_binTracks (s : State) (id : Nat) (cause : CloseCause) :
    binTracks (closeBin s id cause) = (binTracks s).erase id := by
  rw [binTracks, closeBin_bins]
  exact erase_track id s.span.bins

theorem Bin.addScan_track (b : Bin) (h : ScanHeader) (full : Bool) (hit : Option Merged) :
    (b.addScan h full hit).track = b.track := by
  cases hit <;> rfl

theorem openBin_binTracks (s : State) (h : ScanHeader) (full : Bool) (id : Nat) (hit : Option Merged) :
    binTracks (openBin s h full id hit) = binTracks s ++ [id] := by
  show List.map _ (s.span.bins ++ [_]) = _
  rw [List.map_append, List.map_singleton, Bin.addScan_track]
  rfl

theorem extendBin_binTracks (s : State) (h : ScanHeader) (full : Bool) (id : Nat) (hit : Option Merged) :
    binTracks (extendBin s h full id hit) = binTracks s := by
  show List.map _ (List.map _ s.span.bins) = _
  rw [List.map_map]
  refine List.map_congr_left fun b _ => ?_
  dsimp only [Function.comp]
  split
  · exact Bin.addScan_track b h full hit
  · rfl

/-! ### Operations on runs leave the bins -/

theorem actOnRun_bins (s : State) (z : ZoneView) (d : Int) (id : Nat) (kind : RunKind) (j : Judgement) :
    (actOnRun s z d id kind j).span.bins = s.span.bins := by
  unfold actOnRun
  split
  · rfl
  · rfl
  · dsimp only
    split
    · exact (closeRun_keepsBins _ id .released kind).bins
    · rfl
  · rfl

theorem checkLimits_bins (s : State) (h : ScanHeader) (id : Nat) (m : Merged) :
    (checkLimits s h id m).span.bins = s.span.bins := by
  unfold checkLimits
  split
  · exact List.foldlRecOn (motive := fun t : State => t.span.bins = s.span.bins) trackKinds _ rfl fun t ht kind _ =>
      (actOnRun_bins t _ _ id kind _).trans ht
  · rfl

theorem actOnCount_bins (s : State) (z : ZoneView) (d : Int) (j : Judgement) :
    (actOnCount s z d j).span.bins = s.span.bins := by
  unfold actOnCount
  split
  · rfl
  · rfl
  · dsimp only
    split
    · exact (closeCount_span _ .released).bins
    · rfl
  · rfl

theorem handleCount_bins (s : State) (device : Option CloseCause) (l : TrackList) :
    (handleCount s device l).span.bins = s.span.bins := by
  unfold handleCount
  dsimp only
  cases s.span.count.bind (countCloseCause device l.header) with
  | none =>
    cases l.header.context.zone with
    | none => rfl
    | some z => exact actOnCount_bins s z _ _
  | some cause =>
    have closed := (closeCount_span s cause).bins
    cases l.header.context.zone with
    | none => exact closed
    | some z => exact (actOnCount_bins _ z _ _).trans closed

/-! ### One entry -/

/-- An entry that continues a track leaves the tracks with an open bin; one that confirms a track adds it; one that ends a track
takes it away (R145, R146, R149). -/
def TrackEntry.binsAfter (open_ : List Nat) : TrackEntry → List Nat
  | .continuing _ _ _ => open_
  | .confirmed id _ => open_ ++ [id]
  | .ended e => open_.erase e.id

theorem binOf_isSome {u : SpanUnit} {id : Nat} (h : id ∈ u.bins.map (·.track)) : ∃ b, u.binOf id = some b := by
  obtain ⟨b, mem, same⟩ := List.mem_map.1 h
  exact Option.isSome_iff_exists.1 (List.find?_isSome.2 ⟨b, mem, by simpa using same⟩)

theorem continueBin_binTracks {s : State} {id : Nat} (known : id ∈ binTracks s) (device : Option CloseCause) (l : TrackList)
    (hit : Option Merged) : (binTracks (continueBin s device l id hit)).Perm (binTracks s) := by
  obtain ⟨b, held⟩ := binOf_isSome known
  unfold continueBin
  simp only [held]
  split
  · next cause _ =>
    have closed : ∀ t : State, t.span.bins = (closeBin s id cause).span.bins →
        (binTracks (openBin t l.header l.tableFull id hit)).Perm (binTracks s) := fun t same => by
      rw [openBin_binTracks, binTracks_congr same, closeBin_binTracks]
      exact (List.perm_append_singleton _ _).trans (List.perm_cons_erase known).symm
    apply closed
    split
    · exact (closeKinds_keepsBins id _ trackKinds _).bins
    · rfl
  · rw [extendBin_binTracks]

theorem endTrack_binTracks (s : State) (cause : CloseCause) (e : EndedTrack) :
    binTracks (endTrack s cause e) = (binTracks s).erase e.id := by
  rw [binTracks, (endTrack_span s cause e).bins, erase_track]
  rfl

theorem takeEntry_binTracks {s : State} (device : Option CloseCause) (l : TrackList) {e : TrackEntry}
    (known : ∀ id, e.continued = some id → id ∈ binTracks s) :
    (binTracks (takeEntry device l s e)).Perm (e.binsAfter (binTracks s)) := by
  cases e with
  | continuing id state hit =>
    cases hit with
    | none => exact continueBin_binTracks (known id rfl) device l none
    | some m =>
      have judged := checkLimits_bins (continueBin s device l id (some m)) l.header id m
      exact (binTracks_congr judged ▸ continueBin_binTracks (known id rfl) device l (some m) :)
  | confirmed id m =>
    have judged := checkLimits_bins (openBin s l.header l.tableFull id (some m)) l.header id m
    show (binTracks (checkLimits _ l.header id m)).Perm (binTracks s ++ [id])
    rw [binTracks_congr judged, openBin_binTracks]
  | ended e => exact .of_eq (endTrack_binTracks s .trackEnd e)

/-! ### All entries of an arrival -/

/-- The entries of an arrival find the bins that they need: they end distinct tracks with an open bin, and continue others with
one. -/
structure Takes (open_ : List Nat) (es : List TrackEntry) : Prop where
  distinct : (es.filterMap TrackEntry.ends).Nodup
  ended : ∀ id ∈ es.filterMap TrackEntry.ends, id ∈ open_
  continued : ∀ id ∈ es.filterMap TrackEntry.continued, id ∈ open_ ∧ id ∉ es.filterMap TrackEntry.ends

theorem SpanArrival.Fits.takes {a : SpanArrival} {open_ : List Nat} (h : a.Fits open_) : Takes open_ a.entries := by
  have apart := List.disjoint_of_nodup_append h.before
  have distinct := List.Nodup.of_append_right h.before
  rw [a.ends_eq] at distinct
  refine ⟨distinct, fun id mem => ?_, fun id mem => ?_⟩
  · rw [← a.ends_eq] at mem
    exact h.known id (List.mem_append_right _ mem)
  · rw [← a.continues_eq] at mem
    rw [← a.ends_eq]
    exact ⟨h.known id (List.mem_append_left _ mem), apart mem⟩

theorem Takes.tail {open_ others : List Nat} {e : TrackEntry} {es : List TrackEntry} (h : Takes open_ (e :: es))
    (perm : others.Perm (e.binsAfter open_)) : Takes others es := by
  obtain ⟨distinct, ended, continued⟩ := h
  cases e with
  | continuing id state hit =>
    exact ⟨distinct, fun x mem => perm.mem_iff.2 (ended x mem), fun x mem =>
      ⟨perm.mem_iff.2 (continued x (List.mem_cons_of_mem id mem)).1, (continued x (List.mem_cons_of_mem id mem)).2⟩⟩
  | confirmed id m =>
    exact ⟨distinct, fun x mem => perm.mem_iff.2 (List.mem_append_left _ (ended x mem)), fun x mem =>
      ⟨perm.mem_iff.2 (List.mem_append_left _ (continued x mem).1), (continued x mem).2⟩⟩
  | ended e =>
    obtain ⟨other, distinct⟩ := List.nodup_cons.1 distinct
    have kept : ∀ x, x ≠ e.id → x ∈ open_ → x ∈ others := fun x ne mem =>
      perm.mem_iff.2 ((List.mem_erase_of_ne ne).2 mem)
    refine ⟨distinct, fun x mem => kept x (fun same => other (same ▸ mem)) (ended x (List.mem_cons_of_mem _ mem)), fun x mem => ?_⟩
    obtain ⟨held, apart⟩ := continued x mem
    exact ⟨kept x (fun same => apart (same ▸ List.mem_cons_self)) held, fun late => apart (List.mem_cons_of_mem _ late)⟩

/-- Any way of taking entries that does to the bins what each entry says: of each track as many bins are open after them as before,
one more for each entry that confirms it, and one fewer for each that ends it. -/
theorem foldl_binTracks {α : Type} {f : State → α → State} {entry : α → TrackEntry}
    (one : ∀ s a, (∀ id, (entry a).continued = some id → id ∈ binTracks s) →
      (binTracks (f s a)).Perm ((entry a).binsAfter (binTracks s)))
    (as : List α) {s : State} (h : Takes (binTracks s) (as.map entry)) (id : Nat) :
    (binTracks (as.foldl f s)).count id + ((as.map entry).filterMap TrackEntry.ends).count id =
      (binTracks s).count id + ((as.map entry).filterMap TrackEntry.confirms).count id := by
  induction as generalizing s with
  | nil => rfl
  | cons a as ih =>
    rw [List.map_cons] at h ⊢
    have perm := one s a fun x same => (h.continued x (List.mem_filterMap.2 ⟨entry a, List.mem_cons_self, same⟩)).1
    have rest := ih (h.tail perm)
    rw [perm.count_eq] at rest
    rw [List.foldl_cons]
    generalize entry a = e at h rest ⊢
    cases e with
    | continuing x state hit => exact rest
    | confirmed x m =>
      simp only [TrackEntry.binsAfter, List.count_append, List.count_singleton] at rest
      simp only [List.filterMap_cons, TrackEntry.ends, TrackEntry.confirms, List.count_cons]
      omega
    | ended e =>
      have held : 0 < (binTracks s).count e.id := List.count_pos_iff.2 (h.ended e.id List.mem_cons_self)
      simp only [TrackEntry.binsAfter, List.count_erase] at rest
      simp only [List.filterMap_cons, TrackEntry.ends, TrackEntry.confirms, List.count_cons]
      by_cases same : e.id = id
      · subst same
        simp only [beq_self_eq_true, if_true] at rest ⊢
        omega
      · simp only [beq_iff_eq, same, if_false] at rest ⊢
        omega

/-- Once an arrival that fits has been taken, the bins are keyed, and they are those that the arrival leaves (R141). -/
theorem SpanArrival.Fits.taken {a : SpanArrival} {s t : State} (h : a.Fits (binTracks s)) (keyed : (binTracks s).Nodup)
    (counts : ∀ id, (binTracks t).count id + (a.entries.filterMap TrackEntry.ends).count id =
      (binTracks s).count id + (a.entries.filterMap TrackEntry.confirms).count id) :
    (binTracks t).Nodup ∧ ∀ id, id ∈ binTracks t ↔ id ∈ a.leaves (binTracks s) := by
  rw [← a.ends_eq, ← a.confirms_eq] at counts
  have ends := List.nodup_iff_count_le_one.1 (List.Nodup.of_append_right h.before)
  have confirms := List.nodup_iff_count_le_one.1 (List.Nodup.of_append_right h.after)
  have old := List.nodup_iff_count_le_one.1 keyed
  have endsOpen : ∀ id, 0 < a.ends.count id → 0 < (binTracks s).count id := fun id pos =>
    List.count_pos_iff.2 (h.known id (List.mem_append_right _ (List.count_pos_iff.1 pos)))
  have fresh : ∀ id, 0 < a.confirms.count id → 0 < (binTracks s).count id → 0 < a.ends.count id := fun id pos held =>
    List.count_pos_iff.2 (h.fresh id (List.count_pos_iff.1 pos) (List.count_pos_iff.1 held))
  refine ⟨List.nodup_iff_count_le_one.2 fun id => ?_, fun id => ?_⟩
  · have := counts id; have := confirms id; have := old id; have := fresh id
    omega
  · rw [a.mem_leaves, ← List.count_pos_iff, ← List.count_pos_iff, ← List.count_pos_iff, ← List.count_pos_iff]
    have := counts id; have := ends id; have := old id; have := endsOpen id; have := fresh id
    omega

theorem spanEntries_taken {s : State} {l : TrackList} (h : (SpanArrival.tracks l).Fits (binTracks s))
    (keyed : (binTracks s).Nodup) :
    (binTracks (spanEntries s l)).Nodup ∧
      ∀ id, id ∈ binTracks (spanEntries s l) ↔ id ∈ (SpanArrival.tracks l).leaves (binTracks s) := by
  refine h.taken keyed fun id => ?_
  have entries : l.entries.map (fun e => e) = (SpanArrival.tracks l).entries := List.map_id' l.entries
  rw [spanEntries, binTracks_congr (handleCount_bins _ _ l), ← entries]
  exact foldl_binTracks (entry := fun e => e) (fun _ _ known => takeEntry_binTracks _ l known) l.entries (entries ▸ h.takes) id

theorem spanClosing_taken {s : State} {l : StopList} (h : (SpanArrival.stop l).Fits (binTracks s))
    (keyed : (binTracks s).Nodup) :
    (binTracks (spanClosing s l)).Nodup ∧
      ∀ id, id ∈ binTracks (spanClosing s l) ↔ id ∈ (SpanArrival.stop l).leaves (binTracks s) := by
  refine h.taken keyed fun id => ?_
  rw [spanClosing, binTracks_congr (closeCount_span _ .stop).bins]
  exact foldl_binTracks (fun s e _ => .of_eq (endTrack_binTracks s .stop e)) l.entries h.takes id

end Sys2Proof.Machine
end

section
/-! PROOF. Every step keeps the track table, the zone queue and the run store legal, and the span unit in step with the track table
(O58). -/

namespace Sys2Proof.Machine

set_option Elab.async false

/-! ### The span unit follows the track table -/

/-- The bins are keyed, and the arrivals that wait lead from them to the tracks reported (R136, R141). -/
structure BinsFollow (s : State) : Prop where
  keyed : (binTracks s).Nodup
  follows : FollowsTable s.tracks.ids (binTracks s) s.paths.toSpan

theorem spanFollows_iff (s : State) : SpanFollows s ↔ BinsFollow s ∧ RunsKeyed s :=
  ⟨fun h => ⟨⟨h.bins, h.follows⟩, h.runs⟩, fun ⟨bins, runs⟩ => ⟨bins.keyed, runs, bins.follows⟩⟩

theorem BinsFollow.congr {s t : State} (h : BinsFollow s) (slots : t.tracks.slots = s.tracks.slots := by rfl)
    (bins : t.span.bins = s.span.bins := by rfl) (toSpan : t.paths.toSpan = s.paths.toSpan := by rfl) : BinsFollow t := by
  have ids : t.tracks.ids = s.tracks.ids := by rw [TrackTable.ids_eq, slots, ← TrackTable.ids_eq]
  constructor
  · rw [binTracks_congr bins]
    exact h.keyed
  · rw [ids, binTracks_congr bins, toSpan]
    exact h.follows

theorem BinsFollow.quiet {s t : State} (k : Quiet s t) (h : BinsFollow s) : BinsFollow t := by
  obtain ⟨o, f, r, k, rfl⟩ := k
  exact h.congr

theorem binsFollow_empty {s : State} (slots : s.tracks.slots = List.replicate 6 none := by rfl)
    (bins : s.span.bins = [] := by rfl) (toSpan : s.paths.toSpan = [] := by rfl) : BinsFollow s := by
  have tracks : binTracks s = [] := by rw [binTracks, bins, List.map_nil]
  have ids : s.tracks.ids = [] := by rw [TrackTable.ids_eq, slots]; rfl
  constructor
  · rw [tracks]
    exact .nil
  · rw [tracks, ids, toSpan]
    exact fun _ => Iff.rfl

/-- The bins that an arrival leaves are those from which the next ones lead on. -/
theorem BinsFollow.taken {s t : State} {a : SpanArrival} {rest : List SpanArrival} (h : BinsFollow s)
    (waiting : s.paths.toSpan = a :: rest)
    (left : (binTracks t).Nodup ∧ ∀ id, id ∈ binTracks t ↔ id ∈ a.leaves (binTracks s)) (tracks : t.tracks = s.tracks)
    (toSpan : t.paths.toSpan = rest) : BinsFollow t := by
  have follows := h.follows
  rw [waiting] at follows
  refine ⟨left.1, ?_⟩
  rw [tracks, toSpan]
  exact follows.2.congr left.2

theorem BinsFollow.fits {s : State} {a : SpanArrival} {rest : List SpanArrival} (h : BinsFollow s)
    (waiting : s.paths.toSpan = a :: rest) : a.Fits (binTracks s) := by
  have follows := h.follows
  rw [waiting] at follows
  exact follows.1

/-! ### The lists that the track table hands on (R136, R138) -/

theorem clusterListArrival_toSpan {s : State} {l : ClusterList} {rest : List ClusterList} (h : s.paths.toTrack = l :: rest) :
    (clusterListArrival s).paths.toSpan =
      s.paths.toSpan ++ [.tracks (trackListOf l (trackWork s.tracks s.cmd.params l))] := by
  simp only [clusterListArrival, h, trackScan]
  exact (testTally_steady _).toSpan

theorem BinsFollow.clusterListArrival {s : State} (legal : TracksLegal s) (h : BinsFollow s) :
    BinsFollow (clusterListArrival s) := by
  cases waiting : s.paths.toTrack with
  | nil => rwa [clusterListArrival_none waiting]
  | cons l rest =>
    have bins : binTracks (Machine.clusterListArrival s) = binTracks s :=
      binTracks_congr (congrArg SpanUnit.bins ((clusterListArrival_changes s).1 .span (by decide)))
    have distinct := ((tracksLegal_iff s).1 legal).2.distinct
    have distinctNew := ((tracksLegal_iff _).1 legal.clusterListArrival).2.distinct
    rw [clusterListArrival_tracks waiting] at distinctNew
    constructor
    · rw [bins]
      exact h.keyed
    · rw [bins, clusterListArrival_toSpan waiting, clusterListArrival_tracks waiting]
      exact h.follows.concat (trackListOf_leads s.tracks s.cmd.params l) distinct distinctNew

theorem BinsFollow.drainCloseRequest {s : State} (legal : TracksLegal s) (h : BinsFollow s) :
    BinsFollow (drainCloseRequest s) := by
  unfold Machine.drainCloseRequest
  split
  · refine ⟨h.keyed, h.follows.concat (stopList_leads s.tracks) ((tracksLegal_iff s).1 legal).2.distinct ?_⟩
    simp [TrackTable.ids, TrackTable.reported, closeDrain_live]
  · exact h

/-! ### The lists that the span unit takes (R142, R158) -/

theorem BinsFollow.trackListArrival {s : State} (h : BinsFollow s) : BinsFollow (trackListArrival s) := by
  unfold Machine.trackListArrival
  split
  · next l rest waiting =>
    have taken := spanEntries_taken (s := s.onPaths fun p => { p with toSpan := rest }) (h.fits waiting) h.keyed
    obtain ⟨opened, paths⟩ := (spanEntries_moves (s.onPaths fun p => { p with toSpan := rest }) l).reports
    rw [spanScan_eq]
    exact h.taken waiting taken ((spanEntries_moves _ l).changes.1 .tracks (by decide)) (congrArg Paths.toSpan paths)
  · exact h

theorem BinsFollow.stopListArrival {s : State} (h : BinsFollow s) : BinsFollow (stopListArrival s) := by
  unfold Machine.stopListArrival
  split
  · next l rest waiting =>
    have taken := spanClosing_taken (s := s.onPaths fun p => { p with toSpan := rest }) (h.fits waiting) h.keyed
    have closed := spanClosing_changes (s.onPaths fun p => { p with toSpan := rest }) l
    have settled : ∀ t : State, BinsFollow t → BinsFollow (settleSpanClosed t) := fun t ht =>
      ht.congr (congrArg TrackTable.slots ((settleSpanClosed_changes t).1 .tracks (by decide)))
        (congrArg SpanUnit.bins ((settleSpanClosed_changes t).1 .span (by decide))) (settleSpanClosed_steady t).toSpan
    rw [spanStop_eq]
    exact settled _ (h.taken waiting taken (closed.1 .tracks (by decide))
      (congrArg Paths.toSpan (closed.1 .paths (by decide))))
  · exact h

/-! ### Every row -/

theorem meaning_binsFollow (c : Instr) {s : State} (legal : TracksLegal s) (h : BinsFollow s) : BinsFollow (meaning c s) := by
  by_cases hc : Part.span ∈ footprint c ∨ Part.tracks ∈ footprint c
  · cases c <;> simp only [footprint, List.mem_cons, List.not_mem_nil, reduceCtorEq, or_false, or_self] at hc
    case frameFailed r rx => cases r <;> simp [receiverPart] at hc
    case clusterListArrival => exact h.clusterListArrival legal
    case drainCloseRequest => exact h.drainCloseRequest legal
    case trackListArrival => exact h.trackListArrival
    case stopListArrival => exact h.stopListArrival
    case clearCounters a tag args =>
      exact command_keeps (c := .clearCounters a tag args) BinsFollow.quiet rfl (fun _ _ hu => hu.congr) h
    case start a tag args =>
      refine command_keeps (c := .start a tag args) BinsFollow.quiet rfl (fun u _ hu => ?_) h
      show BinsFollow (startRun u).1
      unfold startRun
      split
      · exact hu
      · exact .quiet (.of_out (offerStatus_changes _ _)) hu.congr
    case reset a tag args => exact reset_keeps BinsFollow.quiet (fun _ => binsFollow_empty) h
    case hardReset => exact binsFollow_empty
    case hardResetEnd a m x y => exact .quiet (hardResetEnd_quiet s a m x y) binsFollow_empty
  · have toSpan : (meaning c s).paths.toSpan = s.paths.toSpan := by
      by_cases paths : Part.paths ∈ footprint c
      · refine (meaning_steady ?_ ?_ s).toSpan
        · cases c <;> simp_all [footprint, movesLists, everyPart]
        · cases c <;> simp_all [footprint, setsParams]
      · exact congrArg Paths.toSpan ((meaning_changes c s).1 .paths paths)
    exact h.congr (congrArg TrackTable.slots ((meaning_changes c s).1 .tracks fun k => hc (.inr k)))
      (congrArg SpanUnit.bins ((meaning_changes c s).1 .span fun k => hc (.inl k))) toSpan

theorem spanFollows_kept : Kept fun s => TracksLegal s ∧ SpanFollows s := by
  have congr : ∀ {s t : State}, t.tracks = s.tracks → t.span = s.span → t.paths = s.paths →
      TracksLegal s ∧ SpanFollows s → TracksLegal t ∧ SpanFollows t := fun tracks span paths ⟨legal, bins, runs, follows⟩ =>
    ⟨legal.of_tracks tracks, by rwa [span], by rwa [span], by rwa [tracks, span, paths]⟩
  refine kept_of_exec (fun _ _ => congr rfl rfl rfl) (fun _ _ => congr rfl rfl rfl) fun c s ⟨legal, follows⟩ => ?_
  obtain ⟨bins, runs⟩ := (spanFollows_iff s).1 follows
  exact ⟨meaning_tracksLegal c s legal, (spanFollows_iff _).2 ⟨meaning_binsFollow c legal bins, meaning_runsKeyed c s runs⟩⟩

theorem SpanFollows.keyed {s : State} (h : SpanFollows s) : SpanKeyed s where
  bins := h.bins
  runs := h.runs
  fits _ _ waiting := ((spanFollows_iff s).1 h).1.fits waiting

/-- Settles O58: each store is legal after each row's meaning; and an arrival leads from the tracks reported when it was made to
those reported after it, so that taking it leaves the bins from which the next one leads on. -/
theorem tablesKept : Obligations.TablesKept :=
  ⟨tracksLegal_kept, zonesLegal_kept, runsLegal_kept, fun _ h => h.keyed, spanFollows_kept⟩

end Sys2Proof.Machine
end

section
/-! PROOF. The zone queue's own rows: a scan is resolved, and the span unit's reports reach the zones (O27, O28). -/

namespace Sys2Proof.Machine

set_option Elab.async false

/-! ### Retirement and exhaustion (R73, R80) -/

theorem exhaust_running {s : State} (op : s.cmd.op = .running) :
    exhaust s = offerStatus (s.onZones fun z => { z with exhausted := true }) .zonesExhausted := if_pos (by simp [op])

theorem exhaust_other {s : State} (op : s.cmd.op ≠ .running) : exhaust s = s := if_neg (by simpa using op)

/-- Exhaustion in RUNNING is told in a STATUS record, where class B has room (R80, R169). -/
theorem exhaust_out {s : State} (op : s.cmd.op = .running) (room : s.out.occupancy < 60) :
    ∃ f, ShowsStatus f s.cmd.station .zonesExhausted .running s.roof ∧ (exhaust s).out = withStatus s.out f := by
  rw [exhaust_running op, offerStatus_room (by exact room)]
  exact ⟨_, op ▸ showsStatus (s.onZones _) .zonesExhausted, rfl⟩

/-- The zone queue once a scan has retired the entries that it has passed (R73). -/
def retiredBy (s : State) (scan : ReleasedScan) : ZoneQueue :=
  s.zones.retire s.cmd.params.direction scan.scan scan.snapshot.distance

/-- The retirement of a scan takes the last entry in RUNNING (R80). -/
def ScanEmpties (s : State) (scan : ReleasedScan) : Prop :=
  s.zones.entries ≠ [] ∧ (retiredBy s scan).entries = [] ∧ s.cmd.op = .running

/-- What a scan does before it is resolved: it retires entries, and exhaustion is told where it takes the last (R73,
R80). -/
def scanRetired (s : State) (scan : ReleasedScan) : State :=
  let t := s.onZones fun _ => retiredBy s scan
  if !s.zones.entries.isEmpty && t.zones.entries.isEmpty then exhaust t else t

/-- What a scan does then: it is resolved to a zone and handed on (R74, R75). -/
def scanPlaced (s : State) (scan : ReleasedScan) : State :=
  let z := s.zones.resolve scan.snapshot.distance
  { s with
    zones := z.handOn scan.scan
    paths := { s.paths with toGeo := s.paths.toGeo ++ [⟨scan, z.context s.cmd.params.defaultWire⟩] } }

theorem resolveScan_eq (s : State) (scan : ReleasedScan) :
    resolveScan s scan = scanPlaced (scanRetired s scan) scan := rfl

theorem scanRetired_empties {s : State} {scan : ReleasedScan} (h : ScanEmpties s scan) :
    scanRetired s scan =
      offerStatus (s.onZones fun _ => { retiredBy s scan with exhausted := true }) .zonesExhausted := by
  obtain ⟨some_, none_, op⟩ := h
  rw [scanRetired, if_pos (by simp [some_, none_])]
  exact exhaust_running op

theorem scanRetired_stays {s : State} {scan : ReleasedScan} (h : ¬ScanEmpties s scan) :
    scanRetired s scan = s.onZones fun _ => retiredBy s scan := by
  unfold scanRetired
  dsimp only
  split
  · next emptied =>
    refine exhaust_other fun op => h ?_
    simp only [State.onZones_zones, Bool.and_eq_true, Bool.not_eq_true', List.isEmpty_eq_false_iff,
      List.isEmpty_iff] at emptied
    exact ⟨emptied.1, emptied.2, op⟩
  · rfl

theorem scanRetired_cases (s : State) (scan : ReleasedScan) :
    ScanEmpties s scan ∧
        scanRetired s scan =
          offerStatus (s.onZones fun _ => { retiredBy s scan with exhausted := true }) .zonesExhausted ∨
      ¬ScanEmpties s scan ∧ scanRetired s scan = s.onZones fun _ => retiredBy s scan := by
  by_cases h : ScanEmpties s scan
  · exact .inl ⟨h, scanRetired_empties h⟩
  · exact .inr ⟨h, scanRetired_stays h⟩

/-! ### Resolution (R74) -/

theorem inside_iff (e : ZoneEntry) (d : Int) : e.inside d = true ↔ e.lo ≤ d ∧ d < e.hi := by
  simp [ZoneEntry.inside]

/-- The distance is inside the head entry (R74). -/
theorem resolve_inside {z : ZoneQueue} {e : ZoneEntry} {es : List ZoneEntry} {d : Int} (held : z.entries = e :: es)
    (inside : e.lo ≤ d ∧ d < e.hi) : z.resolve d = { z with entries := e.enter d :: es, current := true } := by
  simp only [ZoneQueue.resolve, held, (inside_iff e d).2 inside, if_true]

/-- The distance is inside no entry (R74). -/
theorem resolve_outside {z : ZoneQueue} {d : Int}
    (outside : ∀ e, z.entries.head? = some e → ¬(e.lo ≤ d ∧ d < e.hi)) :
    z.resolve d = { z with current := false, counters := { z.counters with inNone := bump z.counters.inNone } } := by
  unfold ZoneQueue.resolve
  split
  · next e rest held =>
    rw [if_neg fun inside => outside e (by rw [held]; rfl) ((inside_iff e d).1 inside)]
  · rfl

/-- What a scan's resolution leaves (R74). -/
theorem resolve_leaves (z : ZoneQueue) (d : Int) :
    ∃ es current n, z.resolve d =
      { z with entries := es, current := current, counters := { z.counters with inNone := n } } := by
  unfold ZoneQueue.resolve
  split
  · split
    · exact ⟨_, _, z.counters.inNone, rfl⟩
    · exact ⟨z.entries, _, _, rfl⟩
  · exact ⟨z.entries, _, _, rfl⟩

/-! ### SCAN_RESOLUTION -/

/-- The zone queue less the entries at its head that a scan has passed, which join the closing list (R73). -/
def ZoneQueue.lessPassed (z : ZoneQueue) (gone : List ZoneEntry) (scan : ReleasedScan) : ZoneQueue :=
  { z with
    entries := z.entries.drop gone.length
    closing :=
      z.closing ++
        (gone.map fun e => ⟨e, if e.entered = none then .skipped else .passed, scan.snapshot.distance, scan.scan⟩)
    counters :=
      { z.counters with
        passed := bumpBy z.counters.passed (gone.countP fun e => e.entered.isSome)
        skipped := bumpBy z.counters.skipped (gone.countP fun e => e.entered.isNone) } }

/-- The entries that a scan has passed, in the statement's words (Table 5-3). -/
theorem retiredBy_eq (s : State) (scan : ReleasedScan) {gone : List ZoneEntry}
    (hg : gone = s.zones.entries.takeWhile fun e => e.passed s.cmd.params.direction scan.snapshot.distance) :
    retiredBy s scan = s.zones.lessPassed gone scan := by
  have rest : s.zones.entries.drop gone.length =
      s.zones.entries.dropWhile fun e => e.passed s.cmd.params.direction scan.snapshot.distance := by
    have parts := List.takeWhile_append_dropWhile (p := fun e : ZoneEntry =>
      e.passed s.cmd.params.direction scan.snapshot.distance) (l := s.zones.entries)
    rw [hg]
    exact (congrArg (List.drop _) parts.symm).trans List.drop_left
  have cause : retired scan.scan scan.snapshot.distance = fun e =>
      ⟨e, if e.entered = none then .skipped else .passed, scan.snapshot.distance, scan.scan⟩ := by
    funext e
    cases h : e.entered <;> simp [retired, h]
  have absent : (fun e : ZoneEntry => !e.entered.isSome) = fun e => e.entered.isNone := by
    funext e
    cases e.entered <;> rfl
  rw [ZoneQueue.lessPassed, rest, ← cause, ← absent, hg]
  rfl

theorem scanRetired_cmd (s : State) (scan : ReleasedScan) : (scanRetired s scan).cmd = s.cmd := by
  rcases scanRetired_cases s scan with ⟨-, h⟩ | ⟨-, h⟩
  · rw [h, offerStatus_cmd]
    rfl
  · rw [h]
    rfl

theorem scanRetired_paths (s : State) (scan : ReleasedScan) : (scanRetired s scan).paths = s.paths := by
  rcases scanRetired_cases s scan with ⟨-, h⟩ | ⟨-, h⟩
  · rw [h, offerStatus_paths]
    rfl
  · rw [h]
    rfl

/-- The zone queue before resolution: exhaustion touches its flag alone (R73, R80). -/
theorem scanRetired_zones (s : State) (scan : ReleasedScan) :
    ∃ b, (scanRetired s scan).zones = { retiredBy s scan with exhausted := b } ∧
      (ScanEmpties s scan → b = true) ∧ (¬ScanEmpties s scan → b = s.zones.exhausted) := by
  rcases scanRetired_cases s scan with ⟨emptied, h⟩ | ⟨kept, h⟩
  · rw [h, offerStatus_zones]
    exact ⟨true, rfl, fun _ => rfl, fun h => absurd emptied h⟩
  · rw [h]
    exact ⟨s.zones.exhausted, rfl, fun h => absurd h kept, fun _ => rfl⟩

/-- The STATUS record of exhaustion, where class B has room (R80, R169). -/
theorem scanRetired_out {s : State} {scan : ReleasedScan} (h : ScanEmpties s scan) (room : s.out.occupancy < 60) :
    ∃ f, ShowsStatus f s.cmd.station .zonesExhausted .running s.roof ∧
      (scanRetired s scan).out = withStatus s.out f := by
  obtain ⟨held, gone, op⟩ := h
  rw [scanRetired, if_pos (by simp [held, gone])]
  exact exhaust_out (s := s.onZones fun _ => retiredBy s scan) op room

/-- What a scan resolved to a zone carries (Table 5-4). -/
theorem context_inside {z : ZoneQueue} {e : ZoneEntry} {es : List ZoneEntry} (held : z.entries = e :: es)
    (current : z.current = true) (wire : Nat) : z.context wire = ⟨some e.view, e.wireType, z.flushMark⟩ := by
  simp [ZoneQueue.context, ZoneQueue.currentZone, held, current]

/-- What a scan resolved to no zone carries (Table 5-4). -/
theorem context_outside {z : ZoneQueue} (none_ : z.current = false) (wire : Nat) :
    z.context wire = ⟨none, wire, z.flushMark⟩ := by
  simp [ZoneQueue.context, ZoneQueue.currentZone, none_]

/-- SCAN_RESOLUTION with a scan waiting. -/
theorem scanResolution_cons {s : State} {scan : ReleasedScan} {rest : List ReleasedScan}
    (waiting : s.paths.toZone = scan :: rest) :
    scanResolution s = scanPlaced (scanRetired (s.onPaths fun p => { p with toZone := rest }) scan) scan := by
  rw [← resolveScan_eq, scanResolution, waiting]

/-- Settles O27: retirement with its exhaustion, then resolution, then the hand-on. -/
theorem scanResolved : Obligations.ScanResolved := by
  unfold Obligations.ScanResolved
  intro s r rest held waiting d gone kept emptied
  let u := s.onPaths fun p => { p with toZone := rest }
  have retire : retiredBy u r = s.zones.lessPassed gone r := retiredBy_eq u r rfl
  have emptied_iff : ScanEmpties u r ↔ emptied := by
    rw [ScanEmpties, retire]
    exact Iff.rfl
  obtain ⟨b, retired, told, untold⟩ := scanRetired_zones u r
  rw [retire] at retired
  let z : ZoneQueue := { s.zones.lessPassed gone r with exhausted := b }
  let x := (z.resolve d).context s.cmd.params.defaultWire
  have paths : (scanPlaced (scanRetired u r) r).paths =
      { s.paths with toZone := rest, toGeo := s.paths.toGeo ++ [⟨r, x⟩] } := by
    rw [scanPlaced, retired, scanRetired_paths, scanRetired_cmd]
    rfl
  have zones : (scanPlaced (scanRetired u r) r).zones = (z.resolve d).handOn r.scan := by
    rw [scanPlaced, retired]
  obtain ⟨es, current, n, leaves⟩ := resolve_leaves z d
  refine ⟨_, x, exec_live _ held, scanResolution_changes s, ?_⟩
  rw [show meaning .scanResolution s = scanPlaced (scanRetired u r) r from scanResolution_cons waiting, zones]
  refine ⟨paths, ?_, ?_, ?_, ?_, ?_, ?_, ?_, ?_, ?_, ?_,
    fun e es' head inside => ?_, fun outside => ?_, fun stays => ?_, fun empties => ?_⟩
  case refine_11 =>
    have entered := resolve_inside (z := z) head inside
    have context : x = ⟨some e.view, e.wireType, s.zones.flushMark⟩ := by
      simp only [x, entered]
      exact context_inside (e := e.enter d) rfl rfl _
    rw [entered, context]
    exact ⟨rfl, rfl, rfl, rfl, rfl⟩
  case refine_12 =>
    have none_ := resolve_outside (z := z) outside
    have context : x = ⟨none, s.cmd.params.defaultWire, s.zones.flushMark⟩ := by
      simp only [x, none_]
      exact context_outside rfl _
    rw [none_, context]
    exact ⟨rfl, rfl, rfl, rfl, rfl⟩
  case refine_13 =>
    rw [leaves]
    refine ⟨untold (mt emptied_iff.1 stays), ?_⟩
    show (scanRetired u r).out = s.out
    rw [scanRetired_stays (mt emptied_iff.1 stays)]
    rfl
  case refine_14 =>
    rw [leaves]
    exact ⟨told (emptied_iff.2 empties), scanRetired_out (emptied_iff.2 empties)⟩
  all_goals (simp only [x, leaves]; rfl)

/-! ### ZONE records that class B has room for (R78, R79) -/

/-- From s to t some records join the record queue, and loss flag, raw queue and reservation stay (R162, R164). -/
structure Admits (fs : List Frame) (s t : State) : Prop where
  appends : Appends fs s t
  lossFlag : t.out.lossFlag = s.out.lossFlag
  raw : t.out.raw = s.out.raw

theorem offerB_admits {s : State} (room : s.out.occupancy < 60) (f : Frame) : Admits [f] s (offerB s f) := by
  refine ⟨offerB_appends room f, ?_, ?_⟩
  all_goals
    rw [offerB_room room]
    rfl

/-- The ZONE records of some closing entries, all of which class B has room for. -/
theorem offerZones_admits (cs : List ClosingEntry) {s : State} (room : s.out.occupancy + cs.length ≤ 60) :
    Admits (cs.map fun c => ⟨kindZone, s.cmd.station.setWidth 8, c.payload⟩) s (cs.foldl offerZone s) := by
  induction cs generalizing s with
  | nil => exact ⟨.nil, rfl, rfl⟩
  | cons c cs ih =>
    rw [List.length_cons] at room
    have head : Admits [⟨kindZone, s.cmd.station.setWidth 8, c.payload⟩] s (offerZone s c) :=
      offerB_admits (by omega) _
    have cmd : (offerZone s c).cmd = s.cmd := offerB_cmd s _
    have tail := ih (s := offerZone s c) (by rw [head.appends.occupancy, List.length_singleton]; omega)
    rw [cmd] at tail
    exact ⟨tail.appends.last head.appends, tail.lossFlag.trans head.lossFlag, tail.raw.trans head.raw⟩

/-! ### RUN_OPENING_REPORT and SCAN_FINISHED_REPORT -/

/-- RUN_OPENING_REPORT with its report waiting, and no span closed report behind it (R77, R181). -/
theorem runOpeningReport_counts {s : State} {n : Word16} {rest : List SpanReport} (quiet : s.paths.spanClosed = false)
    (waiting : s.paths.reports = .runOpened n :: rest) :
    runOpeningReport s = (s.onPaths fun p => { p with reports := rest }).onZones fun z => z.countRun n := by
  rw [runOpeningReport, waiting]
  exact settleSpanClosed_none quiet

/-- SCAN_FINISHED_REPORT with its report waiting, and no span closed report behind it (R78, R181). -/
theorem scanFinishedReport_finishes {s : State} {k : Word16} {rest : List SpanReport} (quiet : s.paths.spanClosed = false)
    (waiting : s.paths.reports = .scanFinished k :: rest) :
    scanFinishedReport s = finishScan (s.onPaths fun p => { p with reports := rest }) k := by
  rw [scanFinishedReport, waiting]
  refine settleSpanClosed_none ?_
  rw [(finishScan_changes _ k).1 .paths (by decide)]
  exact quiet

/-- The zone queue once a scan is finished: the scan is out of flight and the entries tagged with it are gone (R78). -/
theorem finishScan_zones (s : State) (k : Word16) :
    (finishScan s k).zones =
      { s.zones with
        inFlight := s.zones.inFlight - 1
        closing := s.zones.closing.filter fun c => decide (c.tag ≠ k) } := by
  have others : (fun c : ClosingEntry => decide (c.tag ≠ k)) = fun c => !(c.tag == k) := by
    funext c
    exact decide_not
  rw [others]
  exact (offerZones_changes _ _).1 .zones (by decide)

/-- The ZONE records of the entries tagged with a finished scan, all of which class B has room for (R78, R79). -/
theorem finishScan_admits {s : State} {k : Word16}
    (room : s.out.occupancy + (s.zones.closing.countP fun c => decide (c.tag = k)) ≤ 60) :
    Admits ((s.zones.closing.filter fun c => decide (c.tag = k)).map fun c =>
      ⟨kindZone, s.cmd.station.setWidth 8, c.payload⟩) s (finishScan s k) := by
  rw [List.countP_eq_length_filter] at room
  obtain ⟨⟨records, reserved⟩, lossFlag, raw⟩ := offerZones_admits (s.zones.closing.filter fun c => decide (c.tag = k))
    (s := s.onZones fun z =>
      { z with inFlight := z.inFlight - 1, closing := z.closing.filter fun c => !(c.tag == k) }) room
  exact ⟨⟨records, reserved⟩, lossFlag, raw⟩

/-- Settles O28. -/
theorem reportsReachZones : Obligations.ReportsReachZones := by
  unfold Obligations.ReportsReachZones
  intro s rest held quiet
  refine ⟨fun n waiting => ⟨_, exec_live _ held, ?_⟩, fun k waiting => ⟨_, exec_live _ held, ?_⟩⟩
  · rw [show meaning .runOpeningReport s = _ from runOpeningReport_counts quiet waiting]
    exact ⟨.last (State.onZones_changes _ _) (s.onPaths_changes _).mono, rfl, rfl⟩
  · rw [show meaning .scanFinishedReport s = _ from scanFinishedReport_finishes quiet waiting]
    have changes := finishScan_changes (s.onPaths fun p => { p with reports := rest }) k
    refine ⟨.last changes (s.onPaths_changes _).mono, changes.1 .paths (by decide), finishScan_zones _ k, fun room => ?_⟩
    obtain ⟨appends, lossFlag, raw⟩ := finishScan_admits (s := s.onPaths fun p => { p with reports := rest }) (k := k)
      (by rw [Output.occupancy]; exact (Nat.add_right_comm _ _ _).trans_le room)
    exact ⟨appends.records, lossFlag, raw⟩

end Sys2Proof.Machine
end

section
/-! PROOF. ZONE_FLUSH (O50). -/

namespace Sys2Proof.Machine

set_option Elab.async false

/-! ### What the flush does (R72) -/

/-- An empty queue: nothing changes. -/
theorem zoneFlush_empty {s : State} (none_ : s.zones.entries = []) : zoneFlush s = (s, { result := .done, data := [0] }) := by
  have length : s.zones.entries.length = 0 := by rw [none_]; rfl
  rw [zoneFlush, if_pos length, length]
  rfl

/-- The state once the flushed entries have gone where the operating state sends them (R72). -/
def flushedTo (s : State) : State :=
  let t := s.onZones ZoneQueue.flush
  if s.cmd.op = .standby then t
  else if s.zones.inFlight = 0 then (flushedEntries s).foldl offerZone t
  else t.onZones fun z => { z with closing := z.closing ++ flushedEntries s }

/-- A queue that holds entries: they go, and exhaustion is told (R72, R80). -/
theorem zoneFlush_held {s : State} (some_ : s.zones.entries ≠ []) :
    zoneFlush s = (exhaust (flushedTo s), { result := .done, data := [BitVec.ofNat 8 s.zones.entries.length] }) := by
  have length : s.zones.entries.length ≠ 0 := by simpa using some_
  unfold zoneFlush flushedTo
  dsimp only
  rw [if_neg length]
  by_cases op : s.cmd.op = .standby
  · rw [if_pos op, if_pos op, exhaust_other (by exact op ▸ OpState.noConfusion)]
    rfl
  · rw [if_neg op, if_neg op]
    split <;> rfl

theorem flushedTo_changes (s : State) : OnlyChanges [.zones, .out] s (flushedTo s) := by
  have flushed := s.onZones_changes ZoneQueue.flush
  exact .ite flushed.mono (.ite (.last (offerZones_changes _ _) flushed.mono) (.last (State.onZones_changes _ _) flushed.mono))

theorem flushedTo_zones (s : State) :
    (flushedTo s).zones =
      { s.zones.flush with
        closing :=
          if s.cmd.op ≠ .standby ∧ 0 < s.zones.inFlight then s.zones.closing ++ flushedEntries s
          else s.zones.closing } := by
  by_cases op : s.cmd.op = .standby
  · rw [flushedTo, if_pos op, if_neg fun h => h.1 op]
    rfl
  · by_cases idle : s.zones.inFlight = 0
    · rw [flushedTo, if_neg op, if_pos idle, if_neg fun h => h.2.ne' idle]
      exact (offerZones_changes _ _).1 .zones (by decide)
    · rw [flushedTo, if_neg op, if_neg idle, if_pos ⟨op, Nat.pos_of_ne_zero idle⟩]
      rfl

theorem flushedTo_standby {s : State} (op : s.cmd.op = .standby) : (flushedTo s).out = s.out := by
  rw [flushedTo, if_pos op]
  rfl

/-- The ZONE records of the flushed entries, all of which class B has room for (R72, R79). -/
theorem flushedTo_appends {s : State} (op : s.cmd.op ≠ .standby) (room : s.out.occupancy + s.zones.entries.length ≤ 60) :
    Appends
      (if s.zones.inFlight = 0 then
        (flushedEntries s).map fun c => ⟨kindZone, s.cmd.station.setWidth 8, c.payload⟩
      else []) s (flushedTo s) := by
  rw [flushedTo, if_neg op]
  split
  · have space : (s.onZones ZoneQueue.flush).out.occupancy + (flushedEntries s).length ≤ 60 := by
      rw [flushedEntries, List.length_map]
      exact room
    obtain ⟨records, reserved⟩ := (offerZones_admits (flushedEntries s) space).appends
    exact ⟨records, reserved⟩
  · exact .nil

/-! ### ZONE_FLUSH -/

theorem queueReply_records (s : State) (code tag : Byte) (r : Reply) :
    (queueReply s code tag r).out.records = s.out.records ++ [replyFrame s.cmd.station code tag r] := by
  rw [queueReply_eq]
  rfl

/-- Settles O50. -/
theorem zonesFlushed : Obligations.ZonesFlushed := by
  unfold Obligations.ZonesFlushed
  intro s address tag taken n reply flushed records
  refine ⟨_, exec_taken (c := .zoneFlush address tag []) rfl taken rfl rfl, fun empty => ?_, fun held => ?_⟩
  · have none_ : (takenState s).zones.entries = [] := List.length_eq_zero_iff.1 empty
    rw [show CommandRow.body _ _ = _ from zoneFlush_empty none_]
    exact onlyAnswers_taken s _ _ _
  · have some_ : (takenState s).zones.entries ≠ [] := List.ne_nil_of_length_pos held
    rw [show CommandRow.body _ _ = _ from zoneFlush_held some_]
    have changes := flushedTo_changes (takenState s)
    have zones := flushedTo_zones (takenState s)
    have still := flushedTo_standby (s := takenState s)
    have appends := flushedTo_appends (s := takenState s)
    generalize flushedTo (takenState s) = u at changes zones still appends ⊢
    have cmd : u.cmd = (takenState s).cmd := changes.1 .cmd (by decide)
    have roof : u.roof = s.roof := changes.1 .roof (by decide)
    refine ⟨taken_changes (.last (exhaust_changes u) changes.mono) _ _ _, ?_, ?_, fun op => ?_, fun op room => ?_⟩
    · rw [queueReply_eq, exhaust_cmd, cmd]
      rfl
    · show (exhaust u).zones = _
      rw [exhaust_zones, cmd, zones]
      rfl
    · rw [exhaust_other (by rw [cmd]; exact op ▸ OpState.noConfusion), queueReply_eq, still op, cmd]
      rfl
    · have fits : s.out.records.length + 1 + s.zones.entries.length ≤ 60 := Nat.le_of_lt room
      have joined := appends op fits
      have first : Appends (if s.zones.inFlight = 0 then records else []) (takenState s) u := joined
      have space : u.out.occupancy < 60 := by
        have few : (if s.zones.inFlight = 0 then records else []).length ≤ n := by
          split <;> simp [records, flushed, n]
        have before : (takenState s).out.occupancy = s.out.records.length + 1 := rfl
        rw [first.occupancy, before]
        omega
      refine ⟨fun draining => ?_, fun running => ?_⟩
      · rw [queueReply_records, exhaust_other (by rw [cmd]; exact draining ▸ OpState.noConfusion), first.records, cmd]
        rfl
      · obtain ⟨f, shows, told⟩ := exhaust_out (by rw [cmd]; exact running) space
        rw [cmd, roof] at shows
        refine ⟨f, shows, ?_⟩
        rw [queueReply_records, told, exhaust_cmd, cmd, withStatus, withRecord, first.records, List.append_assoc]
        rfl

end Sys2Proof.Machine
end

section
/-! PROOF. ZONE_APPEND (O49). -/

namespace Sys2Proof.Machine

set_option Elab.async false

/-! ### The four tests of an entry (R69) -/

theorem zoneKind_ofCode_isSome (n : Nat) : (ZoneKind.ofCode n).isSome = true ↔ n ≤ 4 := by
  match n with
  | 0 | 1 | 2 | 3 | 4 => simp [ZoneKind.ofCode]
  | n + 5 => simp [ZoneKind.ofCode]

/-- R69's test for BAD_ARGUMENT, in the statement's words. -/
theorem zoneEntryOk_iff (b : List Byte) : zoneEntryOk b = true ↔ ZoneArgLegal b := by
  simp only [zoneEntryOk, Bool.and_eq_true, decide_eq_true_eq, Bool.not_eq_true', Bool.and_eq_false_iff, bne_eq_false_iff_eq,
    decide_eq_false_iff_not, not_lt, zoneKind_ofCode_isSome]
  constructor
  · rintro ⟨⟨⟨⟨⟨⟨⟨⟨bounds, kind⟩, expected⟩, wireType⟩, stagger⟩, low⟩, high⟩, thickness⟩, heights⟩
    exact ⟨bounds, kind, expected, wireType, stagger, low, high, thickness, fun minOn maxOn =>
      (heights.resolve_left fun h => h.elim minOn maxOn)⟩
  · rintro ⟨bounds, kind, expected, wireType, stagger, low, high, thickness, heights⟩
    refine ⟨⟨⟨⟨⟨⟨⟨⟨bounds, kind⟩, expected⟩, wireType⟩, stagger⟩, low⟩, high⟩, thickness⟩, ?_⟩
    by_contra h
    simp only [not_or] at h
    exact h.2 (heights h.1.1 h.1.2)

/-- The wire type of an entry is loaded (R69). -/
def ZoneEntry.wireLoaded (s : State) (e : ZoneEntry) : Prop :=
  ∃ w, s.merge.slots[e.wireType]? = some w ∧ w.loaded = true

/-- An entry stands beyond the one before it, where there is one (R68, R69). -/
def ZoneEntry.beyondLast (s : State) (before : Option ZoneEntry) (e : ZoneEntry) : Prop :=
  ∀ a, before = some a → a.standsBefore s.cmd.params.direction e

/-- The accumulator has not passed an entry (Table 5-3, R69). -/
def ZoneEntry.isAhead (s : State) (e : ZoneEntry) : Prop :=
  match s.cmd.params.direction with
  | .increasing => s.odo.mm < e.hi
  | .decreasing => e.lo ≤ s.odo.mm

theorem any_loaded_iff (s : State) (e : ZoneEntry) :
    (s.merge.slots[e.wireType]?).any (·.loaded) = true ↔ e.wireLoaded s := by
  simp [ZoneEntry.wireLoaded, Option.any_eq_true]

theorem all_beyond_iff (s : State) (before : Option ZoneEntry) (e : ZoneEntry) :
    (before.all fun p => e.beyond p s.cmd.params.direction) = true ↔ e.beyondLast s before := by
  simp [ZoneEntry.beyondLast, Option.all_eq_true, beyond_iff]

theorem passed_iff (s : State) (e : ZoneEntry) :
    e.passed s.cmd.params.direction s.odo.mm = true ↔ ¬e.isAhead s := by
  unfold ZoneEntry.passed ZoneEntry.isAhead
  cases s.cmd.params.direction <;> simp

/-- The entry with these bytes passes R69's four tests. -/
structure ZoneAdmissible (s : State) (before : Option ZoneEntry) (b : List Byte) : Prop where
  legal : ZoneArgLegal b
  loaded : (zoneEntryArg b).wireLoaded s
  beyond : (zoneEntryArg b).beyondLast s before
  ahead : (zoneEntryArg b).isAhead s

/-- R69's judgement of an entry, in the statement's words. -/
def ZoneRefused (s : State) (before : Option ZoneEntry) (b : List Byte) : Result → Prop :=
  zoneArgFails (ZoneArgLegal b) ((zoneEntryArg b).wireLoaded s) ((zoneEntryArg b).beyondLast s before)
    ((zoneEntryArg b).isAhead s)

theorem fails_iff {test : Bool} {p : Prop} (means : test = true ↔ p) : (!test) = true ↔ ¬p := by
  rw [← means, Bool.not_eq_true', Bool.not_eq_true]

theorem passes_iff {test : Bool} {p : Prop} (means : test = true ↔ p) : ¬(!test) = true ↔ p := by
  rw [fails_iff means, not_not]

theorem judgeEntry_cases (s : State) (before : Option ZoneEntry) (b : List Byte) :
    judgeEntry s before b = none ∧ ZoneAdmissible s before b ∨
      ∃ r, judgeEntry s before b = some r ∧ ZoneRefused s before b r := by
  unfold judgeEntry
  dsimp only
  split
  · next test => exact .inr ⟨_, rfl, (fails_iff (zoneEntryOk_iff b)).1 test⟩
  · next test =>
    have legal := (passes_iff (zoneEntryOk_iff b)).1 test
    split
    · next test => exact .inr ⟨_, rfl, legal, (fails_iff (any_loaded_iff s _)).1 test⟩
    · next test =>
      have loaded := (passes_iff (any_loaded_iff s _)).1 test
      split
      · next test => exact .inr ⟨_, rfl, legal, loaded, (fails_iff (all_beyond_iff s before _)).1 test⟩
      · next test =>
        have beyond := (passes_iff (all_beyond_iff s before _)).1 test
        split
        · next test => exact .inr ⟨_, rfl, legal, loaded, beyond, (passed_iff s _).1 test⟩
        · next test => exact .inl ⟨rfl, legal, loaded, beyond, not_not.1 (mt (passed_iff s _).2 test)⟩

/-- An entry that a test refuses does not pass all four. -/
theorem ZoneRefused.not_admissible {s : State} {before : Option ZoneEntry} {b : List Byte} {r : Result}
    (h : ZoneRefused s before b r) : ¬ZoneAdmissible s before b := by
  rintro ⟨legal, loaded, beyond, ahead⟩
  cases r with
  | badArgument => exact h legal
  | notLoaded => exact h.2 loaded
  | order => exact h.2.2 beyond
  | staleZone => exact h.2.2.2 ahead
  | _ => exact h

/-! ### The entries in turn -/

/-- The entry that stands before entry j of a command (R69). -/
def entryBefore (last : Option ZoneEntry) (bytes : Nat → List Byte) (j : Nat) : Option ZoneEntry :=
  if j = 0 then last else some (zoneEntryArg (bytes (j - 1)))

theorem entryBefore_succ (last : Option ZoneEntry) (bytes : Nat → List Byte) (j : Nat) :
    entryBefore last bytes (j + 1) = entryBefore (some (zoneEntryArg (bytes 0))) (fun j => bytes (j + 1)) j := by
  cases j <;> rfl

/-- All entries pass, or the first that fails refuses the command with its index (R69). -/
theorem judgeEntries_cases (s : State) (n : Nat) (last : Option ZoneEntry) (index : Nat) (bytes : Nat → List Byte) :
    (judgeEntries s last index ((List.range n).map bytes) = none ∧
        ∀ j < n, ZoneAdmissible s (entryBefore last bytes j) (bytes j)) ∨
      ∃ i < n, ∃ r, judgeEntries s last index ((List.range n).map bytes) = some (r, index + i) ∧
        ZoneRefused s (entryBefore last bytes i) (bytes i) r ∧
        ∀ j < i, ZoneAdmissible s (entryBefore last bytes j) (bytes j) := by
  induction n generalizing last index bytes with
  | zero => exact .inl ⟨rfl, fun j lt => absurd lt (Nat.not_lt_zero j)⟩
  | succ n ih =>
    rw [List.range_succ_eq_map, List.map_cons, List.map_map]
    rcases judgeEntry_cases s last (bytes 0) with ⟨judged, admissible⟩ | ⟨r, judged, refused⟩
    · rw [judgeEntries_passes judged]
      have head : ZoneAdmissible s (entryBefore last bytes 0) (bytes 0) := admissible
      have tail (j : Nat) (k : ZoneAdmissible s (entryBefore (some (zoneEntryArg (bytes 0))) (fun j => bytes (j + 1)) j)
          (bytes (j + 1))) : ZoneAdmissible s (entryBefore last bytes (j + 1)) (bytes (j + 1)) :=
        entryBefore_succ last bytes j ▸ k
      rcases ih (some (zoneEntryArg (bytes 0))) (index + 1) fun j => bytes (j + 1) with ⟨run, pass⟩ | ⟨i, lt, r, run, fail, pass⟩
      · refine .inl ⟨run, fun j lt => ?_⟩
        cases j with
        | zero => exact head
        | succ j => exact tail j (pass j (Nat.lt_of_succ_lt_succ lt))
      · refine .inr ⟨i + 1, Nat.succ_lt_succ lt, r, ?_, ?_, fun j lt => ?_⟩
        · rw [Nat.add_comm i 1, ← Nat.add_assoc]
          exact run
        · exact entryBefore_succ last bytes i ▸ fail
        · cases j with
          | zero => exact head
          | succ j => exact tail j (pass j (Nat.lt_of_succ_lt_succ lt))
    · exact .inr ⟨0, Nat.succ_pos n, r, judgeEntries_fails judged _ _, refused, fun j lt => absurd lt (Nat.not_lt_zero j)⟩

/-- The admitted entries with consecutive numbers (R66). -/
theorem numberEntries_range (first : Word16) (n : Nat) (bytes : Nat → List Byte) :
    numberEntries first ((List.range n).map bytes) =
      (List.range n).map fun j => { zoneEntryArg (bytes j) with number := first + BitVec.ofNat 16 j } := by
  refine List.ext_getElem (by simp [numberEntries]) fun j _ _ => ?_
  simp [numberEntries]

/-! ### ZONE_APPEND -/

/-- The two ways to write the length that ZONE_APPEND must have agree (Table 11-2, R174). -/
theorem zoneAppendLengthOk_of_lengthRight {args : List Byte} (h : lengthRight 0x20 args = true) :
    zoneAppendLengthOk args = true := by
  have length : 1 ≤ (byteAt args 0).toNat ∧ (byteAt args 0).toNat ≤ 8 ∧
      args.length + 2 = 3 + 31 * (byteAt args 0).toNat := of_decide_eq_true h
  obtain ⟨some_, few, length⟩ := length
  simp only [zoneAppendLengthOk, Bool.and_eq_true, decide_eq_true_eq, beq_iff_eq]
  omega

/-- The bytes of entry j of a ZONE_APPEND. -/
def appendBytes (args : List Byte) (j : Nat) : List Byte := (args.drop (1 + 31 * j)).take 31

theorem zoneAppendEntries_eq (args : List Byte) :
    zoneAppendEntries args = (List.range (byteAt args 0).toNat).map (appendBytes args) := rfl

theorem zoneAppendEntries_length (args : List Byte) : (zoneAppendEntries args).length = (byteAt args 0).toNat := by
  simp [zoneAppendEntries]

/-- No room for all the entries (R69). -/
theorem zoneAppend_full {args : List Byte} {s : State} (full : ¬s.zones.entries.length + (byteAt args 0).toNat ≤ 64) :
    zoneAppend args s = (s, { result := .queueFull }) := by
  rw [← zoneAppendEntries_length] at full
  exact if_pos (Nat.lt_of_not_le full)

/-- An entry that fails: nothing changes (R69). -/
theorem zoneAppend_fails {args : List Byte} {s : State} (room : s.zones.entries.length + (byteAt args 0).toNat ≤ 64)
    {r : Result} {i : Nat} (judged : judgeEntries s s.zones.entries.getLast? 0 (zoneAppendEntries args) = some (r, i)) :
    zoneAppend args s = (s, { result := r, detail := i }) := by
  rw [← zoneAppendEntries_length] at room
  refine (if_neg (Nat.not_lt.2 room)).trans ?_
  rw [judged]

/-- All entries pass: all are admitted (R66, R70). -/
theorem zoneAppend_admits {args : List Byte} {s : State} (room : s.zones.entries.length + (byteAt args 0).toNat ≤ 64)
    (judged : judgeEntries s s.zones.entries.getLast? 0 (zoneAppendEntries args) = none) :
    zoneAppend args s =
      (s.onZones fun z => z.append (zoneAppendEntries args),
        { result := .done
          data := bytes16 s.zones.nextEntry ++
            [BitVec.ofNat 8 (s.zones.entries.length + (byteAt args 0).toNat)] }) := by
  rw [← zoneAppendEntries_length] at room ⊢
  refine (if_neg (Nat.not_lt.2 room)).trans ?_
  rw [judged]
  simp [ZoneQueue.append, numberEntries, byte]

/-- Settles O49: room first, then the first entry that fails, else the admission of all. -/
theorem zonesAppended : Obligations.ZonesAppended := by
  unfold Obligations.ZonesAppended
  intro s address tag args taken right n bytes entry before fits legal loaded beyond ahead fails passes
  have admissible (j : Nat) : ZoneAdmissible (takenState s) (entryBefore s.zones.entries.getLast? bytes j) (bytes j) ↔
      legal j ∧ loaded j ∧ beyond j ∧ ahead j :=
    ⟨fun ⟨a, b, c, d⟩ => ⟨a, b, c, d⟩, fun ⟨a, b, c, d⟩ => ⟨a, b, c, d⟩⟩
  have cases_ := judgeEntries_cases (takenState s) n s.zones.entries.getLast? 0 bytes
  refine ⟨_, exec_taken (c := .zoneAppend address tag args) rfl taken (zoneAppendLengthOk_of_lengthRight right) rfl,
    fun full => ?_, fun room pass => ?_, fun room fail => ?_⟩
  · rw [show CommandRow.body _ _ = _ from zoneAppend_full (s := takenState s) full]
    exact onlyAnswers_taken s _ _ _
  · rcases cases_ with ⟨judged, -⟩ | ⟨i, lt, r, -, refused, -⟩
    · rw [show CommandRow.body _ _ = _ from zoneAppend_admits (s := takenState s) room judged]
      refine ⟨taken_changes ((State.onZones_changes _ _).mono) _ _ _, answered_of_body rfl rfl _ _ _, ?_⟩
      show s.zones.append (zoneAppendEntries args) = _
      rw [ZoneQueue.append, zoneAppendEntries_length, zoneAppendEntries_eq, numberEntries_range]
      rfl
    · exact absurd ((admissible i).2 (pass i lt)) refused.not_admissible
  · rcases cases_ with ⟨-, all_⟩ | ⟨i, lt, r, judged, refused, earlier⟩
    · exact absurd (fun j lt => (admissible j).1 (all_ j lt)) fail
    · rw [Nat.zero_add] at judged
      rw [show CommandRow.body _ _ = _ from zoneAppend_fails (s := takenState s) room judged]
      have first : FirstFailing (fun j => ∃ q, fails j q) i :=
        ⟨⟨r, refused⟩, fun j before ⟨q, failed⟩ =>
          ZoneRefused.not_admissible (s := takenState s) failed (earlier j before)⟩
      exact ⟨i, lt, r, first, refused, onlyAnswers_taken s _ _ _⟩

end Sys2Proof.Machine
end

section
/-! PROOF. SET_RUN_PARAMS (O45). -/

namespace Sys2Proof.Machine

set_option Elab.async false

/-! ### The first of some numbered checks that fails -/

theorem numbered_cons (k : Nat) (b : Bool) (bs : List Bool) : numbered k (b :: bs) = (k, b) :: numbered (k + 1) bs := rfl

theorem numbered_getElem? (k : Nat) (bs : List Bool) (i : Nat) (b : Bool) :
    (numbered k bs)[i]? = some (k + i, b) ↔ bs[i]? = some b := by
  induction bs generalizing k i with
  | nil => simp [numbered]
  | cons c bs ih =>
    rw [numbered_cons]
    cases i with
    | zero => simp
    | succ i =>
      rw [List.getElem?_cons_succ, List.getElem?_cons_succ, ← ih (k + 1) i, Nat.add_comm i 1, ← Nat.add_assoc]

/-- No check fails, or one is the first that does. -/
theorem firstFailing_numbered (k : Nat) (bs : List Bool) :
    (firstFailing (numbered k bs) = none ∧ ∀ (i : Nat) (b : Bool), bs[i]? = some b → b = true) ∨
      ∃ i, firstFailing (numbered k bs) = some (k + i) ∧ bs[i]? = some false ∧
        ∀ j < i, ∀ b, bs[j]? = some b → b = true := by
  induction bs generalizing k with
  | nil => exact .inl ⟨rfl, fun i b h => by simp at h⟩
  | cons c bs ih =>
    cases c with
    | false => exact .inr ⟨0, rfl, rfl, fun j lt => absurd lt (Nat.not_lt_zero j)⟩
    | true =>
      have skip : firstFailing (numbered k (true :: bs)) = firstFailing (numbered (k + 1) bs) := rfl
      have holds (j : Nat) (later : ∀ i, j = i + 1 → ∀ b, bs[i]? = some b → b = true) (b : Bool)
          (h : (true :: bs)[j]? = some b) : b = true := by
        cases j with
        | zero => exact (Option.some.inj h).symm
        | succ i => exact later i rfl b h
      rw [skip]
      rcases ih (k + 1) with ⟨run, pass⟩ | ⟨i, run, fail, pass⟩
      · exact .inl ⟨run, fun j => holds j fun i _ => pass i⟩
      · refine .inr ⟨i + 1, ?_, fail, fun j lt => holds j fun m eq => pass m (by omega)⟩
        rw [run, Nat.add_assoc, Nat.add_comm 1 i]

/-! ### The fields of SET_RUN_PARAMS (R178) -/

/-- Field i of a SET_RUN_PARAMS is in its range of Table 11-3, where it has one. -/
def FieldInRange (args : List Byte) (i : Nat) : Prop :=
  ∀ ok, (runParamsRanges args)[i]? = some (i, ok) → ok = true

/-- All fields are in range, or one is the first that is not. -/
theorem runParamsRanges_cases (args : List Byte) :
    (firstFailing (runParamsRanges args) = none ∧ ∀ i, FieldInRange args i) ∨
      ∃ i < 21, firstFailing (runParamsRanges args) = some i ∧ ¬FieldInRange args i ∧ ∀ j < i, FieldInRange args j := by
  obtain ⟨checks, numbered_, length⟩ : ∃ checks, runParamsRanges args = numbered 0 checks ∧ checks.length = 21 :=
    ⟨_, rfl, rfl⟩
  have field (i : Nat) : FieldInRange args i ↔ ∀ b, checks[i]? = some b → b = true := by
    simp only [FieldInRange, numbered_, ← numbered_getElem? 0 checks i, Nat.zero_add]
  simp only [field, numbered_]
  rcases firstFailing_numbered 0 checks with pass | ⟨i, run, fail, pass⟩
  · exact .inl pass
  · have lt : i < checks.length := (List.getElem?_eq_some_iff.1 fail).1
    exact .inr ⟨i, length ▸ lt, Nat.zero_add i ▸ run, fun h => Bool.false_ne_true (h _ fail), pass⟩

/-- The run direction would change under a loaded zone queue (R71). -/
def Turned (s : State) (args : List Byte) : Prop :=
  (runParamsArg args).direction ≠ s.cmd.params.direction ∧ s.zones.entries ≠ []

theorem turned_iff (s : State) (args : List Byte) :
    ((runParamsArg args).direction != s.cmd.params.direction && !s.zones.entries.isEmpty) = true ↔ Turned s args := by
  simp [Turned]

/-- Every field in range and the direction kept or the queue empty: no refusal (R178). -/
theorem runParamsFailure_passes {s : State} {args : List Byte} (pass : firstFailing (runParamsRanges args) = none)
    (same : ¬Turned s args) : runParamsFailure args s = none := by
  simp only [runParamsFailure, pass]
  exact if_neg (mt (turned_iff s args).1 same)

/-- The direction would change, and no field before it is out of range (R71). -/
theorem runParamsFailure_order {s : State} {args : List Byte}
    (pass : ∀ i, firstFailing (runParamsRanges args) = some i → 13 < i) (turned : Turned s args) :
    runParamsFailure args s = some (.order, 13) := by
  have turns := (turned_iff s args).2 turned
  unfold runParamsFailure
  split
  · next i first => simp [turns, pass i first]
  · simp [turns]

/-- A field is out of range, and no turn is noticed before it (R178). -/
theorem runParamsFailure_range {s : State} {args : List Byte} {i : Nat}
    (first : firstFailing (runParamsRanges args) = some i) (before : i ≤ 13 ∨ ¬Turned s args) :
    runParamsFailure args s = some (.badArgument, i) := by
  simp only [runParamsFailure, first]
  refine if_neg fun h => ?_
  obtain ⟨turns, late⟩ := Bool.and_eq_true_iff.1 h
  exact before.elim (Nat.not_le.2 (of_decide_eq_true late)) fun h => h ((turned_iff s args).1 turns)

theorem setRunParams_refuses {s : State} {args : List Byte} {r : Result} {i : Nat}
    (h : runParamsFailure args s = some (r, i)) : setRunParams args s = (s, { result := r, detail := i }) := by
  rw [setRunParams, h]

theorem setRunParams_loads {s : State} {args : List Byte} (h : runParamsFailure args s = none) :
    setRunParams args s = (s.onCmd fun c => { c with params := runParamsArg args }, { result := .done }) := by
  rw [setRunParams, h]

/-- A body that sets the run parameters and is DONE: they are set, and the command is answered (R163, R173). -/
theorem params_taken (s : State) (p : RunParams) (code tag : Byte) :
    let t := queueReply ((takenState s).onCmd fun c => { c with params := p }) code tag { result := .done }
    OnlyChanges [.out, .cmd] s t ∧ t.cmd = tookOne { s.cmd with params := p } .done ∧
      t.out = replied s.out (replyFrame s.cmd.station code tag { result := .done }) := by
  refine ⟨taken_changes (State.onCmd_changes _ _).mono _ _ _, ?_, ?_⟩
  all_goals
    rw [queueReply_eq]
    rfl

/-- Settles O45: the first field out of range and the direction decide. -/
theorem runParamsSet : Obligations.RunParamsSet := by
  unfold Obligations.RunParamsSet
  intro s address tag args taken op length inRange turned
  have cases_ := runParamsRanges_cases args
  refine ⟨_, exec_taken (c := .setRunParams address tag args) rfl taken (beq_iff_eq.2 length) (standbyOnly_iff.2 op),
    fun pass same => ?_, fun pass direction turns => ?_, fun i _ fail pass before => ?_⟩
  · rcases cases_ with ⟨none_, -⟩ | ⟨i, lt, -, fail, -⟩
    · have loads := setRunParams_loads (runParamsFailure_passes (s := takenState s) none_ same)
      rw [show CommandRow.body _ _ = _ from loads]
      exact params_taken s _ _ _
    · exact absurd (pass i lt) fail
  · have late (i : Nat) (first : firstFailing (runParamsRanges args) = some i) : 13 < i := by
      rcases cases_ with ⟨none_, -⟩ | ⟨j, -, found, fail, -⟩
      · rw [none_] at first
        cases first
      · obtain rfl : j = i := Option.some.inj (found.symm.trans first)
        by_contra early
        rcases Nat.lt_or_eq_of_le (Nat.not_lt.1 early) with lt | rfl
        · exact fail (pass j lt)
        · exact fail direction
    rw [show CommandRow.body _ _ = _ from setRunParams_refuses (runParamsFailure_order (s := takenState s) late turns)]
    exact onlyAnswers_taken s _ _ _
  · rcases cases_ with ⟨-, all_⟩ | ⟨j, -, first, failing, earlier⟩
    · exact absurd (all_ i) fail
    · obtain rfl : j = i := by
        rcases Nat.lt_trichotomy j i with lt | eq | lt
        · exact absurd (pass j lt) failing
        · exact eq
        · exact absurd (earlier i lt) fail
      rw [show CommandRow.body _ _ = _ from
        setRunParams_refuses (runParamsFailure_range (s := takenState s) first before)]
      exact onlyAnswers_taken s _ _ _

end Sys2Proof.Machine
end

section
/-! PROOF. The tables that the recorder loads in STANDBY: LOAD_HEAD_CAL and LOAD_WIRE_TYPE (O44). -/

namespace Sys2Proof.Machine

set_option Elab.async false

/-! ### Numbered checks -/

theorem firstFailing_eq_none {α : Type} {checks : List (α × Bool)} :
    firstFailing checks = none ↔ ∀ check ∈ checks, check.2 = true := by
  simp [firstFailing]

theorem mem_numbered {k i : Nat} {b : Bool} {bs : List Bool} :
    (i, b) ∈ numbered k bs ↔ ∃ j, i = k + j ∧ bs[j]? = some b := by
  induction bs generalizing k with
  | nil => simp [numbered]
  | cons c bs ih =>
    rw [numbered_cons, List.mem_cons, ih, Prod.mk.injEq]
    constructor
    · rintro (⟨rfl, rfl⟩ | ⟨j, rfl, at_⟩)
      · exact ⟨0, rfl, rfl⟩
      · exact ⟨j + 1, by omega, at_⟩
    · rintro ⟨j, rfl, at_⟩
      cases j with
      | zero => exact .inl ⟨rfl, (Option.some.inj at_).symm⟩
      | succ j => exact .inr ⟨j, by omega, at_⟩

theorem forall_numbered {k : Nat} {bs : List Bool} :
    (∀ check ∈ numbered k bs, check.2 = true) ↔ ∀ b ∈ bs, b = true := by
  induction bs generalizing k with
  | nil => simp [numbered]
  | cons c bs ih => simp only [numbered_cons, List.forall_mem_cons, ih]

theorem numbered_append (k : Nat) (as bs : List Bool) :
    numbered k (as ++ bs) = numbered k as ++ numbered (k + as.length) bs := by
  induction as generalizing k with
  | nil => rfl
  | cons a as ih =>
    rw [List.cons_append, numbered_cons, numbered_cons, ih, List.cons_append, List.length_cons, Nat.add_comm as.length,
      Nat.add_assoc]

theorem mem_numbered_range {k n i : Nat} {b : Bool} {f : Nat → Bool} :
    (i, b) ∈ numbered k ((List.range n).map f) ↔ ∃ j < n, i = k + j ∧ b = f j := by
  simp only [mem_numbered, List.getElem?_map, Option.map_eq_some_iff, List.getElem?_eq_some_iff, List.length_range,
    List.getElem_range]
  constructor
  · rintro ⟨j, rfl, _, ⟨lt, rfl⟩, rfl⟩
    exact ⟨j, lt, rfl, rfl⟩
  · rintro ⟨j, lt, rfl, rfl⟩
    exact ⟨j, rfl, j, ⟨lt, rfl⟩, rfl⟩

/-- Where the checks tell which fields fail, the first check that fails tells the first field that fails. A check that fails
may be read with the earlier ones passed. -/
theorem firstFailing_first {bs : List Bool} {fails : Nat → Prop} {i : Nat} (first : firstFailing (numbered 0 bs) = some i)
    (pass : ∀ j, (j, true) ∈ numbered 0 bs → ¬fails j)
    (fail : (i, false) ∈ numbered 0 bs → (∀ j < i, (j, true) ∈ numbered 0 bs) → fails i) : FirstFailing fails i := by
  rcases firstFailing_numbered 0 bs with ⟨run, -⟩ | ⟨m, run, failed, before⟩
  · rw [run] at first
    cases first
  · obtain rfl : m = i := (Nat.zero_add m).symm.trans (Option.some.inj (run.symm.trans first))
    have lt : m < bs.length := (List.getElem?_eq_some_iff.1 failed).1
    have earlier (j : Nat) (less : j < m) : (j, true) ∈ numbered 0 bs :=
      mem_numbered.2 ⟨j, by omega, by
        rw [List.getElem?_eq_getElem (by omega), before j less _ (List.getElem?_eq_getElem _)]⟩
    exact ⟨fail (mem_numbered.2 ⟨m, by omega, failed⟩) earlier, fun j less => pass j (earlier j less)⟩

/-! ### Lists of knots -/

theorem within_iff {lo hi x : Int} : within lo hi x = true ↔ lo ≤ x ∧ x ≤ hi := by
  simp [within]

theorem forall_mem_iff_getD {P : Int → Prop} {l : List Int} : (∀ x ∈ l, P x) ↔ ∀ i < l.length, P (l.getD i 0) := by
  rw [List.forall_mem_iff_getElem]
  exact forall₂_congr fun i lt => by rw [List.getD_eq_getElem _ _ lt]

/-- A list is ordered by a transitive relation if neighbours are. -/
theorem pairwise_iff_getD {R : Int → Int → Prop} (trans : ∀ {x y z}, R x y → R y z → R x z) {l : List Int} :
    l.Pairwise R ↔ ∀ i, i + 1 < l.length → R (l.getD i 0) (l.getD (i + 1) 0) := by
  have : Trans R R R := ⟨trans⟩
  rw [← List.isChain_iff_pairwise, List.isChain_iff_getElem]
  refine forall₂_congr fun i lt => ?_
  rw [List.getD_eq_getElem _ _ lt, List.getD_eq_getElem _ _ (Nat.lt_of_succ_lt lt)]

/-! ### The tests of LOAD_HEAD_CAL (R85) -/

/-- Column knot i passes: it is in range, C[1] differs from C[0], and each later knot goes on in the direction that
these two fix. -/
def ColumnPasses (c : List Int) (i : Nat) : Prop :=
  (-2000000 ≤ c.getD i 0 ∧ c.getD i 0 ≤ 2000000) ∧ (i = 1 → c.getD 1 0 ≠ c.getD 0 0) ∧
    (2 ≤ i → if c.getD 0 0 < c.getD 1 0 then c.getD (i - 1) 0 < c.getD i 0 else c.getD i 0 < c.getD (i - 1) 0)

/-- Range knot i passes: it is in range and above the knot before it. -/
def RangePasses (q : List Int) (i : Nat) : Prop :=
  (1 ≤ q.getD i 0 ∧ q.getD i 0 ≤ 4000000) ∧ (1 ≤ i → q.getD (i - 1) 0 < q.getD i 0)

theorem columnChecks_eq (c : List Int) :
    ∃ f, columnChecks c = (List.range 17).map f ∧ ∀ i, f i = true ↔ ColumnPasses c i := by
  unfold columnChecks
  refine ⟨_, rfl, fun i => ?_⟩
  match i with
  | 0 => simp [ColumnPasses, within_iff]
  | 1 => simp [ColumnPasses, within_iff]
  | j + 2 =>
    simp only [ColumnPasses, Bool.and_eq_true, within_iff]
    split <;> simp

theorem rangeChecks_eq (q : List Int) :
    ∃ f, rangeChecks q = (List.range 17).map f ∧ ∀ i, f i = true ↔ RangePasses q i := by
  unfold rangeChecks
  refine ⟨_, rfl, fun i => ?_⟩
  match i with
  | 0 => simp [RangePasses, within_iff]
  | j + 1 => simp [RangePasses, within_iff]

/-- The field of a column knot fails as the knot does not pass, where C[0] and C[1] give a direction to fail against. -/
theorem calFieldFails_column {port j : Nat} {c : CalSet} (lt : j < 17)
    (turns : 2 ≤ j → ¬ColumnPasses c.columns j → c.columns.getD 1 0 ≠ c.columns.getD 0 0) :
    calFieldFails port c (j + 1) ↔ ¬ColumnPasses c.columns j := by
  have before : j + 1 - 2 = j - 1 := by omega
  unfold calFieldFails
  unfold ColumnPasses at turns ⊢
  dsimp only
  rw [if_neg (Nat.succ_ne_zero j), if_pos (by omega), Nat.add_sub_cancel, before, Outside]
  by_cases rises : c.columns.getD 0 0 < c.columns.getD 1 0
  · simp only [if_pos rises]
    omega
  · simp only [if_neg rises] at turns ⊢
    omega

theorem calFieldFails_range {port j : Nat} {c : CalSet} (lt : j < 17) :
    calFieldFails port c (j + 18) ↔ ¬RangePasses c.ranges j := by
  have before : j + 18 - 19 = j - 1 := by omega
  unfold calFieldFails RangePasses
  dsimp only
  rw [if_neg (Nat.succ_ne_zero _), if_neg (by omega), if_pos (by omega), Nat.add_sub_cancel, before, Outside]
  omega

/-- A test of R85 holds as its field does not fail, where C[0] and C[1] give a direction to fail against. -/
theorem calCheck_iff {port i : Nat} {c : CalSet} {b : Bool} (mem : (i, b) ∈ calChecks port c)
    (turns : 3 ≤ i → b = false → c.columns.getD 1 0 ≠ c.columns.getD 0 0) : b = true ↔ ¬calFieldFails port c i := by
  obtain ⟨column, columns, columnTrue⟩ := columnChecks_eq c.columns
  obtain ⟨range, ranges, rangeTrue⟩ := rangeChecks_eq c.ranges
  simp only [calChecks, columns, ranges, numbered_append, List.mem_append, mem_numbered_range, List.length_append,
    List.length_map, List.length_range] at mem
  rcases mem with ((head | ⟨j, lt, rfl, rfl⟩) | ⟨j, lt, rfl, rfl⟩) | later
  · obtain ⟨rfl, rfl⟩ : i = 0 ∧ b = decide (port ≤ 3) := by simpa [numbered] using head
    simp [calFieldFails]
  · have passes := columnTrue j
    have field : 0 + [decide (port ≤ 3)].length + j = j + 1 := Nat.add_comm 1 j
    rw [field] at turns ⊢
    rw [calFieldFails_column lt fun low fails => turns (by omega) (by rwa [← Bool.not_eq_true, passes]), not_not, passes]
  · have field : 0 + ([decide (port ≤ 3)].length + 17) + j = j + 18 := Nat.add_comm 18 j
    rw [field, calFieldFails_range lt, not_not, rangeTrue]
  · simp only [numbered, List.length, List.range', List.zip_cons_cons, List.mem_cons, Prod.mk.injEq] at later
    rcases later with ⟨rfl, rfl⟩ | ⟨rfl, rfl⟩ | ⟨rfl, rfl⟩ | ⟨rfl, rfl⟩ | ⟨rfl, rfl⟩ | ⟨rfl, rfl⟩ | ⟨rfl, rfl⟩ |
      ⟨rfl, rfl⟩ | ⟨rfl, rfl⟩ | ⟨rfl, rfl⟩ | ⟨rfl, rfl⟩ | none_
    case inr.inr.inr.inr.inr.inr.inr.inr.inr.inr.inr => cases none_
    all_goals simp [calFieldFails, within_iff, Outside]

theorem calFieldFails_le {port i : Nat} {c : CalSet} (fails : calFieldFails port c i) : i ≤ 44 := by
  by_contra beyond
  match i, beyond with
  | i + 45, _ => simp [calFieldFails] at fails

/-! ### A calibration set that passes (R85) -/

theorem columns_pass {c : List Int} (length : c.length = 17) :
    (∀ i < 17, ColumnPasses c i) ↔
      KnotsWithin (-2000000) 2000000 c ∧ (c.Pairwise (· < ·) ∨ c.Pairwise (· > ·)) := by
  simp only [KnotsWithin, forall_mem_iff_getD, pairwise_iff_getD (R := (· < ·)) Int.lt_trans, length,
    pairwise_iff_getD (R := (· > ·)) fun h k => Int.lt_trans k h]
  constructor
  · intro passes
    refine ⟨fun i lt => (passes i lt).1, ?_⟩
    obtain ⟨-, differ, -⟩ := passes 1 (by decide)
    by_cases rises : c.getD 0 0 < c.getD 1 0
    · refine .inl fun i lt => ?_
      obtain ⟨-, -, onward⟩ := passes (i + 1) lt
      cases i with
      | zero => exact rises
      | succ i => simpa only [if_pos rises, Nat.add_sub_cancel] using onward (by omega)
    · refine .inr fun i lt => ?_
      obtain ⟨-, -, onward⟩ := passes (i + 1) lt
      cases i with
      | zero => exact lt_of_le_of_ne (Int.not_lt.1 rises) (differ rfl)
      | succ i => simpa only [if_neg rises, Nat.add_sub_cancel] using onward (by omega)
  · rintro ⟨within_, monotone⟩ i lt
    refine ⟨within_ i lt, fun _ => ?_, fun low => ?_⟩
    · rcases monotone with rises | falls
      · exact Int.ne_of_gt (rises 0 (by decide))
      · exact Int.ne_of_lt (falls 0 (by decide))
    · obtain ⟨j, rfl⟩ : ∃ j, i = j + 1 := ⟨i - 1, by omega⟩
      rcases monotone with rises | falls
      · rw [if_pos (rises 0 (by decide))]
        exact rises j lt
      · rw [if_neg (Int.lt_asymm (falls 0 (by decide)))]
        exact falls j lt

theorem ranges_pass {q : List Int} (length : q.length = 17) :
    (∀ i < 17, RangePasses q i) ↔ KnotsWithin 1 4000000 q ∧ q.Pairwise (· < ·) := by
  simp only [KnotsWithin, forall_mem_iff_getD, pairwise_iff_getD (R := (· < ·)) Int.lt_trans, length, RangePasses]
  constructor
  · exact fun passes => ⟨fun i lt => (passes i lt).1, fun i lt => (passes (i + 1) lt).2 (by omega)⟩
  · rintro ⟨within_, rises⟩ i lt
    refine ⟨within_ i lt, fun low => ?_⟩
    obtain ⟨j, rfl⟩ : ∃ j, i = j + 1 := ⟨i - 1, by omega⟩
    exact rises j lt

/-- An octet's field is at most 255. -/
theorem natField_one_le (bs : List Byte) (offset : Nat) : natField bs offset 1 ≤ 255 := by
  have below := natOfBytes_lt (field bs offset 1)
  have power : 256 ^ (field bs offset 1).length ≤ 256 ^ 1 :=
    Nat.pow_le_pow_right (by decide) (List.length_take_le _ _)
  simp only [natField]
  omega

/-- The tests of R85 pass for a port index and a valid set, and for these alone. -/
theorem calChecks_pass_iff (port : Nat) (args : List Byte) :
    firstFailing (calChecks port (calSet args)) = none ↔ port ≤ 3 ∧ (calSet args).Valid := by
  obtain ⟨column, columns, columnTrue⟩ := columnChecks_eq (calSet args).columns
  obtain ⟨range, ranges, rangeTrue⟩ := rangeChecks_eq (calSet args).ranges
  have octet : (calSet args).minIntensity ≤ 255 := natField_one_le args 151
  rw [firstFailing_eq_none, calChecks, forall_numbered, columns, ranges]
  simp only [List.forall_mem_append, List.forall_mem_map, List.mem_range, columnTrue, rangeTrue,
    columns_pass (c := (calSet args).columns) rfl, ranges_pass (q := (calSet args).ranges) rfl, List.forall_mem_cons,
    within_iff, Bool.and_eq_true, decide_eq_true_eq]
  constructor
  · rintro ⟨⟨⟨⟨port, -⟩, ⟨columns, monotone⟩⟩, ⟨ranges, rising⟩⟩, reference, lateral, height, weight, priority, -,
      -, ⟨colHi, col⟩, -, ⟨rangeHi, range⟩, -⟩
    exact ⟨port, columns, monotone, ranges, rising, reference, lateral, height, by omega, priority, col, colHi, range,
      rangeHi⟩
  · rintro ⟨port, valid⟩
    obtain ⟨col, colHi, range, rangeHi⟩ := valid.window
    have weight := valid.weight
    refine ⟨⟨⟨⟨port, ?_⟩, valid.columns, valid.monotone⟩, valid.ranges, valid.rising⟩, valid.reference, valid.lateral,
      valid.height, by omega, valid.priority, octet, by omega, ⟨colHi, col⟩, by omega, ⟨rangeHi, range⟩, trivial,
      ?_⟩ <;> simp

/-- A test of R85 fails: the first that does is that of the first field that fails. -/
theorem calChecks_first {port i : Nat} {c : CalSet} (first : firstFailing (calChecks port c) = some i) :
    FirstFailing (calFieldFails port c) i := by
  refine firstFailing_first first (fun j mem => (calCheck_iff mem fun _ h => Bool.noConfusion h).1 rfl) fun mem before => ?_
  by_contra fine
  refine Bool.false_ne_true ((calCheck_iff mem fun low _ same => ?_).2 fine)
  have second : ¬calFieldFails port c 2 := (calCheck_iff (before 2 low) fun _ h => Bool.noConfusion h).1 rfl
  exact second (.inr (.inl ⟨rfl, same⟩))

/-! ### The tests of LOAD_WIRE_TYPE (R113) -/

/-- A test of R113 holds as its field does not fail. -/
theorem wireCheck_iff {slot i : Nat} {w : WireSlot} {b : Bool} (mem : (i, b) ∈ wireTypeChecks slot w) :
    b = true ↔ ¬wireFieldFails slot w i := by
  simp only [wireTypeChecks, numbered_append, List.mem_append, mem_numbered_range] at mem
  rcases mem with head | ⟨j, lt, rfl, rfl⟩
  · simp only [numbered, List.length, List.range', List.zip_cons_cons, List.mem_cons, Prod.mk.injEq] at head
    rcases head with ⟨rfl, rfl⟩ | ⟨rfl, rfl⟩ | ⟨rfl, rfl⟩ | ⟨rfl, rfl⟩ | none_
    case inr.inr.inr.inr => cases none_
    all_goals simp [wireFieldFails, within_iff, Outside]
  · have field : 0 + [decide (slot ≤ 7), within 1 30000 w.nominal, within 100 2000 w.step,
        within 0 w.nominal (w.table.getD 0 0)].length + j = j + 4 := Nat.add_comm 4 j
    rw [field]
    simp [wireFieldFails, lt]

theorem wireFieldFails_le {slot i : Nat} {w : WireSlot} (fails : wireFieldFails slot w i) : i ≤ 35 := by
  by_contra beyond
  match i, beyond with
  | i + 36, _ =>
    obtain ⟨lt, -⟩ := fails
    omega

theorem entries_pass {nominal : Int} {t : List Int} (length : t.length = 33) :
    ((0 ≤ t.getD 0 0 ∧ t.getD 0 0 ≤ nominal) ∧ ∀ j < 32, 0 ≤ t.getD (j + 1) 0 ∧ t.getD (j + 1) 0 ≤ t.getD j 0) ↔
      (∀ x ∈ t, 0 ≤ x ∧ x ≤ nominal) ∧ t.Pairwise (· ≥ ·) := by
  rw [forall_mem_iff_getD, pairwise_iff_getD (R := (· ≥ ·)) (fun h k => Int.le_trans k h), length]
  constructor
  · rintro ⟨head, onward⟩
    refine ⟨fun i lt => ?_, fun i lt => (onward i (by omega)).2⟩
    induction i with
    | zero => exact head
    | succ i ih => exact ⟨(onward i (by omega)).1, (onward i (by omega)).2.trans (ih (by omega)).2⟩
  · rintro ⟨within_, falls⟩
    exact ⟨within_ 0 (by decide), fun j lt => ⟨(within_ (j + 1) (by omega)).1, falls j (by omega)⟩⟩

/-- The tests of R113 pass for a slot number and a valid wire type, and for these alone. -/
theorem wireTypeChecks_pass_iff (slot : Nat) (args : List Byte) :
    firstFailing (wireTypeChecks slot (wireTypeArg args)) = none ↔ slot ≤ 7 ∧ (wireTypeArg args).Valid := by
  rw [firstFailing_eq_none, wireTypeChecks, forall_numbered]
  have table := entries_pass (nominal := (wireTypeArg args).nominal) (t := (wireTypeArg args).table) rfl
  simp only [List.forall_mem_append, List.forall_mem_map, List.mem_range, List.forall_mem_cons, within_iff,
    Bool.and_eq_true, decide_eq_true_eq]
  constructor
  · rintro ⟨⟨slot, nominal, step, head, -⟩, onward⟩
    obtain ⟨entries, falling⟩ := table.1 ⟨head, onward⟩
    exact ⟨slot, nominal, step, rfl, entries, falling⟩
  · rintro ⟨slot, valid⟩
    obtain ⟨head, onward⟩ := table.2 ⟨valid.entries, valid.falling⟩
    exact ⟨⟨slot, valid.nominal, valid.step, head, by simp⟩, onward⟩

/-- A test of R113 fails: the first that does is that of the first field that fails. -/
theorem wireTypeChecks_first {slot i : Nat} {w : WireSlot} (first : firstFailing (wireTypeChecks slot w) = some i) :
    FirstFailing (wireFieldFails slot w) i :=
  firstFailing_first first (fun _ mem => (wireCheck_iff mem).1 rfl) fun mem _ =>
    by_contra fun fine => Bool.false_ne_true ((wireCheck_iff mem).2 fine)

/-! ### The bodies of the two commands (R86, R114) -/

theorem loadHeadCal_refuses {args : List Byte} {i : Nat}
    (first : firstFailing (calChecks (byteAt args 0).toNat (calSet args)) = some i) (s : State) :
    loadHeadCal args s = (s, { result := .badArgument, detail := i }) := by
  simp only [loadHeadCal, first]

theorem loadHeadCal_loads {args : List Byte} {p : Port} (at_ : (byteAt args 0).toNat = p.index)
    (pass : firstFailing (calChecks (byteAt args 0).toNat (calSet args)) = none) (s : State) :
    loadHeadCal args s =
      (storeCal s p (calSet args),
        { result := .done, data := [BitVec.ofNat 8 (byteAt args 0).toNat, (calSet args).headId] }) := by
  have named : Port.ofIndex (byteAt args 0).toNat = some p := at_ ▸ portOfIndex_index p
  simp only [loadHeadCal, pass, named]
  rfl

theorem loadWireType_refuses {args : List Byte} {i : Nat}
    (first : firstFailing (wireTypeChecks (byteAt args 0).toNat (wireTypeArg args)) = some i) (s : State) :
    loadWireType args s = (s, { result := .badArgument, detail := i }) := by
  simp only [loadWireType, first]

theorem loadWireType_loads {args : List Byte}
    (pass : firstFailing (wireTypeChecks (byteAt args 0).toNat (wireTypeArg args)) = none) (s : State) :
    loadWireType args s =
      (s.onMerge fun m => { m with slots := m.slots.set (byteAt args 0).toNat (wireTypeArg args) },
        { result := .done, data := [BitVec.ofNat 8 (byteAt args 0).toNat] }) := by
  simp only [loadWireType, pass]
  rfl

/-- A calibration set is stored: the port's set and expected head id take it, and the command is answered (R86, R163). -/
theorem storeCal_taken (s : State) (p : Port) (c : CalSet) (tag : Byte) (r : Reply) :
    let t := queueReply (storeCal (takenState s) p c) 0x11 tag r
    OnlyChanges [.roof, .geo, .out, .cmd] s t ∧ OnlyPort p s t ∧ t.port p = { s.port p with headId := c.headId } ∧
      t.geo = { s.geo with cal := s.geo.cal.set p ⟨true, c⟩ } ∧ Answered s t 0x11 tag r := by
  have stored : OnlyChanges [.roof, .geo, .out, .cmd] (takenState s) (storeCal (takenState s) p c) :=
    .last (State.onPort_changes _ p _) (State.onGeo_changes _ _).mono
  have roof : (queueReply (storeCal (takenState s) p c) 0x11 tag r).roof =
      (s.onPort p fun k => { k with headId := c.headId }).roof := rfl
  refine ⟨taken_changes stored _ _ _, (onlyPort_onPort s p _).of_roof roof, ?_, rfl, answered_of_body rfl rfl _ _ _⟩
  rw [State.port, roof]
  exact (s.onPort_port p p _).trans (if_pos rfl)

/-- Settles O44: what the tests find decides between the table that is replaced and the refusal. -/
theorem tablesLoaded : Obligations.TablesLoaded := by
  unfold Obligations.TablesLoaded
  intro s address tag args taken op
  refine ⟨fun length => ?_, fun length => ?_⟩
  · refine ⟨_, exec_taken (c := .loadHeadCal address tag args) rfl taken (beq_iff_eq.2 length) (standbyOnly_iff.2 op),
      fun p at_ valid => ?_, fun fails => ?_⟩
    · have below : (byteAt args 0).toNat ≤ 3 := by rw [at_]; cases p <;> decide
      have loads := loadHeadCal_loads at_ ((calChecks_pass_iff _ _).2 ⟨below, valid⟩) (takenState s)
      rw [show CommandRow.body _ _ = _ from loads]
      exact storeCal_taken s p _ tag _
    · obtain ⟨i, first⟩ := Option.ne_none_iff_exists'.1 fun none_ =>
        ((calChecks_pass_iff _ args).1 none_).elim fun below valid => fails.elim (Nat.not_lt.2 below) fun no => no valid
      rw [show CommandRow.body _ _ = _ from loadHeadCal_refuses first (takenState s)]
      exact ⟨i, calFieldFails_le (calChecks_first first).1, calChecks_first first, onlyAnswers_taken s _ _ _⟩
  · refine ⟨_, exec_taken (c := .loadWireType address tag args) rfl taken (beq_iff_eq.2 length) (standbyOnly_iff.2 op),
      fun below valid => ?_, fun fails => ?_⟩
    · have loads := loadWireType_loads ((wireTypeChecks_pass_iff _ _).2 ⟨below, valid⟩) (takenState s)
      rw [show CommandRow.body _ _ = _ from loads]
      exact ⟨taken_changes ((State.onMerge_changes _ _).mono) _ _ _, rfl, answered_of_body rfl rfl _ _ _⟩
    · obtain ⟨i, first⟩ := Option.ne_none_iff_exists'.1 fun none_ =>
        ((wireTypeChecks_pass_iff _ args).1 none_).elim fun below valid =>
          fails.elim (Nat.not_lt.2 below) fun no => no valid
      rw [show CommandRow.body _ _ = _ from loadWireType_refuses first (takenState s)]
      exact ⟨i, wireFieldFails_le (wireTypeChecks_first first).1, wireTypeChecks_first first, onlyAnswers_taken s _ _ _⟩

end Sys2Proof.Machine
end

section
/-! PROOF. GEOMETRY_SCAN (O29). -/

namespace Sys2Proof.Machine

set_option Elab.async false

/-! ### Rounded division and interpolation (section 0.5) -/

/-- What is left of a rounded division is at most half the divisor, and half of it is rounded away from zero. -/
theorem roundDiv_nearest (a : Int) {b : Int} (pos : 0 < b) :
    2 * (a - roundDiv a b * b) ≤ b ∧ -b ≤ 2 * (a - roundDiv a b * b) ∧ (2 * (a - roundDiv a b * b) = b → a < 0) ∧
      (2 * (a - roundDiv a b * b) = -b → 0 < a) := by
  have floor (m : Int) : 2 * (m / (2 * b) * b) + m % (2 * b) = m := by
    linear_combination Int.mul_ediv_add_emod m (2 * b)
  have low (m : Int) : 0 ≤ m % (2 * b) := Int.emod_nonneg m (by omega)
  have high (m : Int) : m % (2 * b) < 2 * b := Int.emod_lt_of_pos m (by omega)
  unfold roundDiv
  split
  · next sign =>
    have := floor (2 * a + b)
    have := low (2 * a + b)
    have := high (2 * a + b)
    refine ⟨by omega, by omega, by omega, fun half => ?_⟩
    by_contra zero
    obtain rfl : a = 0 := by omega
    rw [show (2 * 0 + b) / (2 * b) = 0 from Int.ediv_eq_zero_of_lt (by omega) (by omega)] at half
    omega
  · next sign =>
    have := floor (2 * -a + b)
    have := low (2 * -a + b)
    have := high (2 * -a + b)
    rw [Int.neg_mul]
    exact ⟨by omega, by omega, by omega, by omega⟩

/-- A multiple is divided exactly. -/
theorem roundDiv_mul (a : Int) {b : Int} (pos : 0 < b) : roundDiv (a * b) b = a := by
  obtain ⟨high, low, -⟩ := roundDiv_nearest (a * b) pos
  have left : a * b - roundDiv (a * b) b * b = (a - roundDiv (a * b) b) * b := by ring
  rw [left] at high low
  have : a - roundDiv (a * b) b < 1 := by nlinarith
  have : -1 < a - roundDiv (a * b) b := by nlinarith
  omega

/-- Between knot i and the next one, or at the last knot of all, the value is read from these two. -/
theorem interp_at {knots : List Int} {x s f : Int} {i : Nat} (pos : 0 < s)
    (held : clamp 0 ((knots.length - 1 : Nat) * s) x = i * s + f) (lt : i + 1 < knots.length) (low : 0 ≤ f)
    (high : f < s ∨ f = s ∧ i + 2 = knots.length) :
    interp knots x s = knots.getD i 0 + roundDiv ((knots.getD (i + 1) 0 - knots.getD i 0) * f) s := by
  have quotient : min ((i * s + f) / s).toNat (knots.length - 1 - 1) = i := by
    rw [Int.add_comm, Int.add_mul_ediv_right _ _ (by omega)]
    rcases high with less | ⟨rfl, last⟩
    · rw [Int.ediv_eq_zero_of_lt low less]
      omega
    · rw [Int.ediv_self (by omega)]
      omega
  have rest : (i : Int) * s + f - i * s = f := by omega
  simp only [interp, held, quotient, rest]

theorem interp_nonpos {knots : List Int} {s x : Int} (pos : 0 < s) (two : 2 ≤ knots.length) (before : x ≤ 0) :
    interp knots x s = knots.getD 0 0 := by
  have top : 0 ≤ ((knots.length - 1 : Nat) : Int) * s := Int.mul_nonneg (by omega) (by omega)
  have held : clamp 0 ((knots.length - 1 : Nat) * s) x = (0 : Nat) * s + 0 := by
    rw [clamp_eq_max_min top, Nat.cast_zero, Int.zero_mul]
    omega
  have exact_ := roundDiv_mul 0 pos
  rw [Int.zero_mul] at exact_
  rw [interp_at pos held (by omega) (by omega) (.inl pos), Int.mul_zero, exact_, Int.add_zero]

theorem interp_beyond {knots : List Int} {s x : Int} (pos : 0 < s) (two : 2 ≤ knots.length)
    (beyond : ((knots.length : Int) - 1) * s ≤ x) : interp knots x s = knots.getD (knots.length - 1) 0 := by
  obtain ⟨n, length⟩ : ∃ n, knots.length = n + 2 := ⟨knots.length - 2, by omega⟩
  have start : 0 ≤ (n : Int) * s := Int.mul_nonneg (by omega) (by omega)
  have top : ((knots.length - 1 : Nat) : Int) * s = n * s + s := by rw [length]; push_cast; ring
  have held : clamp 0 ((knots.length - 1 : Nat) * s) x = n * s + s := by
    have reached : n * s + s ≤ x := by
      rw [length] at beyond
      push_cast at beyond
      linarith
    rw [top, clamp_eq_max_min (by omega)]
    omega
  rw [interp_at pos held (by omega) (by omega) (.inr ⟨rfl, length.symm⟩), roundDiv_mul _ pos, length]
  exact add_sub_cancel _ _

theorem interp_between {knots : List Int} {s f : Int} {i : Nat} (pos : 0 < s) (lt : i + 1 < knots.length) (low : 0 ≤ f)
    (high : f < s) :
    interp knots (i * s + f) s = knots.getD i 0 + roundDiv ((knots.getD (i + 1) 0 - knots.getD i 0) * f) s := by
  have start : 0 ≤ (i : Int) * s := Int.mul_nonneg (by omega) (by omega)
  have next_ : (i : Int) * s + s ≤ ((knots.length - 1 : Nat) : Int) * s := by
    have := Int.mul_le_mul_of_nonneg_right (show (i : Int) + 1 ≤ ((knots.length - 1 : Nat) : Int) by omega) pos.le
    linarith
  refine interp_at pos ?_ lt low (.inl high)
  rw [clamp_eq_max_min (by omega)]
  omega

/-! ### One segment (R89 to R98) -/

/-- A segment that passes the intensity, range and column tests (R89 to R91). -/
abbrev CalSet.Admits (c : CalSet) (g : Segment) : Prop :=
  c.minIntensity ≤ g.intensity ∧ c.rangeLo ≤ g.range ∧ g.range ≤ c.rangeHi ∧ c.colLo ≤ g.colLast ∧ g.colFirst ≤ c.colHi

/-- The segment's span is cut by the column window, or touches the first or the last column (R91). -/
abbrev CalSet.Clips (c : CalSet) (g : Segment) : Prop :=
  g.colFirst < c.colLo ∨ c.colHi < g.colLast ∨ max g.colFirst c.colLo = 0 ∨ min g.colLast c.colHi = 2047

theorem filterSegment_noise {c : CalSet} {g : Segment} (weak : g.intensity < c.minIntensity) :
    filterSegment c g = .noise := if_pos weak

theorem filterSegment_window {c : CalSet} {g : Segment} (strong : c.minIntensity ≤ g.intensity) (out : ¬c.Admits g) :
    filterSegment c g = .window := by
  rw [filterSegment, if_neg (Nat.not_lt.2 strong)]
  split
  · rfl
  · rw [if_pos (by omega)]

theorem filterSegment_kept {c : CalSet} {g : Segment} (admits : c.Admits g) :
    filterSegment c g = .kept (max g.colFirst c.colLo) (min g.colLast c.colHi) (decide (c.Clips g)) := by
  rw [filterSegment, if_neg (by omega), if_neg (by omega), if_neg (by omega)]
  simp only [CalSet.Clips, Bool.decide_or, Bool.or_assoc]
  rfl

/-- Each segment is dropped as noise, dropped as out of window, or kept (R89 to R91). -/
theorem filterSegment_cases (c : CalSet) (g : Segment) :
    (g.intensity < c.minIntensity ∧ filterSegment c g = .noise) ∨
      (c.minIntensity ≤ g.intensity ∧ ¬c.Admits g ∧ filterSegment c g = .window) ∨
      (c.Admits g ∧
        filterSegment c g = .kept (max g.colFirst c.colLo) (min g.colLast c.colHi) (decide (c.Clips g))) := by
  by_cases admits : c.Admits g
  · exact .inr (.inr ⟨admits, filterSegment_kept admits⟩)
  · rcases Nat.lt_or_ge g.intensity c.minIntensity with weak | strong
    · exact .inl ⟨weak, filterSegment_noise weak⟩
    · exact .inr (.inl ⟨strong, admits, filterSegment_window strong admits⟩)

theorem filterSegment_countP_noise (c : CalSet) (gs : List Segment) :
    (gs.map (filterSegment c)).countP (· == .noise) = gs.countP fun g => decide (g.intensity < c.minIntensity) := by
  refine List.countP_map.trans (congrArg (List.countP · gs) (funext fun g => ?_))
  rcases filterSegment_cases c g with ⟨weak, out⟩ | ⟨strong, -, out⟩ | ⟨admits, out⟩
  · simp [out, weak]
  · simp [out, Nat.not_lt.2 strong]
  · simp [out, Nat.not_lt.2 admits.1]

theorem filterSegment_countP_window (c : CalSet) (gs : List Segment) :
    (gs.map (filterSegment c)).countP (· == .window) = gs.countP fun g => decide (c.minIntensity ≤ g.intensity ∧
      ¬(c.rangeLo ≤ g.range ∧ g.range ≤ c.rangeHi ∧ c.colLo ≤ g.colLast ∧ g.colFirst ≤ c.colHi)) := by
  refine List.countP_map.trans (congrArg (List.countP · gs) (funext fun g => ?_))
  rcases filterSegment_cases c g with ⟨weak, out⟩ | ⟨strong, fails, out⟩ | ⟨⟨strong, admits⟩, out⟩
  · simp [out, Nat.not_le.2 weak]
  · rw [Function.comp_apply, out]
    exact (decide_eq_true ⟨strong, fun admits => fails ⟨strong, admits⟩⟩).symm
  · rw [Function.comp_apply, out]
    exact (decide_eq_false fun h => h.2 admits).symm

/-- A segment that passes the tests gives one detection, and any other gives none (R88, R99). -/
theorem measureSegment_eq (c : CalSet) (snap : Snapshot) (d : PortDelivery) (position : Nat) (g : Segment) :
    measureSegment c snap d position g =
      if c.Admits g then
        some (detectionOf c snap d position g (max g.colFirst c.colLo) (min g.colLast c.colHi) (decide (c.Clips g)))
      else none := by
  rcases filterSegment_cases c g with ⟨weak, out⟩ | ⟨-, fails, out⟩ | ⟨admits, out⟩
  · rw [measureSegment, out, if_neg fun admits => Nat.not_lt.2 admits.1 weak]
  · rw [measureSegment, out, if_neg fails]
  · rw [measureSegment, out, if_pos admits]

theorem magnitude_eq_natAbs (x : Int) : magnitude x = x.natAbs := by
  unfold magnitude
  omega

/-! ### The raw list's order (R100) -/

theorem detectionBefore_iff (a b : Detection) :
    detectionBefore a b = true ↔
      a.stagger < b.stagger ∨ a.stagger = b.stagger ∧ (a.height < b.height ∨ a.height = b.height ∧
        (a.port.index < b.port.index ∨ a.port = b.port ∧ a.position ≤ b.position)) := by
  unfold detectionBefore
  split
  · next stagger => simp [stagger]
  · next stagger =>
    rw [not_not.1 stagger]
    split
    · next height => simp [height]
    · next height =>
      rw [not_not.1 height]
      split
      · next port => simp [port]
      · next port => simp [not_not.1 port]

theorem portIndex_inj {p q : Port} : p = q ↔ p.index = q.index := by
  cases p <;> cases q <;> decide

theorem rawDetections_sorted (cal : Quad CalSlot) (scan : ReleasedScan) :
    (rawDetections cal scan).Pairwise fun a b => detectionBefore a b = true := by
  have total : Std.Total fun a b => detectionBefore a b = true := ⟨fun a b => by
    simp only [detectionBefore_iff, portIndex_inj]
    omega⟩
  have trans : IsTrans Detection fun a b => detectionBefore a b = true := ⟨fun a b c => by
    simp only [detectionBefore_iff, portIndex_inj]
    omega⟩
  exact List.pairwise_insertionSort _ _

theorem rawDetections_perm (cal : Quad CalSlot) (scan : ReleasedScan) :
    (rawDetections cal scan).Perm (scan.deliveries.flatMap (measureDelivery cal scan.snapshot)) :=
  List.perm_insertionSort _ _

/-! ### Counters (R103) -/

/-- The segments that a list of deliveries holds from one port. -/
def segmentsOf (ds : List PortDelivery) (p : Port) : List Segment :=
  (ds.filter fun d => decide (d.port = p)).flatMap (·.segments)

theorem segmentsOf_cons (d : PortDelivery) (ds : List PortDelivery) (p : Port) :
    segmentsOf (d :: ds) p = if d.port = p then d.segments ++ segmentsOf ds p else segmentsOf ds p := by
  unfold segmentsOf
  by_cases own : d.port = p
  · rw [List.filter_cons_of_pos (by simpa using own), if_pos own, List.flatMap_cons]
  · rw [List.filter_cons_of_neg (by simpa using own), if_neg own]

theorem GeoCounters.count_nil (k : GeoCounters) : k.count [] = k := by
  simp only [GeoCounters.count, List.length_nil, List.countP_nil, bumpBy_zero]

theorem GeoCounters.count_count (k : GeoCounters) (as bs : List Filtered) : (k.count as).count bs = k.count (as ++ bs) := by
  simp only [GeoCounters.count, List.length_append, List.countP_append, bumpBy_bumpBy]

/-- Over a list of deliveries each port counts what the filter makes of its own segments. -/
theorem countDeliveries_get (cal : Quad CalSlot) (ds : List PortDelivery) (q : Quad GeoCounters) (p : Port) :
    (ds.foldl (fun q d => q.modify d.port fun k => k.count (d.segments.map (filterSegment (cal.get d.port).cal))) q).get p =
      (q.get p).count ((segmentsOf ds p).map (filterSegment (cal.get p).cal)) := by
  induction ds generalizing q with
  | nil => exact (GeoCounters.count_nil _).symm
  | cons d ds ih =>
    rw [List.foldl_cons, ih, Quad.get_modify, segmentsOf_cons]
    by_cases own : d.port = p
    · subst own
      rw [if_pos rfl, if_pos rfl, GeoCounters.count_count, List.map_append]
    · rw [if_neg (Ne.symm own), if_neg own]

theorem countScan_ports (g : Geometry) (scan : ReleasedScan) (raw : List Detection) (p : Port) :
    (g.countScan scan raw).ports.get p =
      (g.ports.get p).count ((segmentsOf scan.deliveries p).map (filterSegment (g.cal.get p).cal)) :=
  countDeliveries_get g.cal scan.deliveries g.ports p

theorem countScan_without (g : Geometry) (scan : ReleasedScan) (raw : List Detection) :
    (g.countScan scan raw).without = if raw = [] then bump g.without else g.without := by
  cases raw <;> rfl

/-- The detections of a delivery that have a mark are as many as its segments whose filter outcome has the mark. -/
theorem measureDelivery_countP {cal : Quad CalSlot} {snap : Snapshot} {d : PortDelivery} {mark : Detection → Bool}
    {outcome : Filtered → Bool}
    (agree : ∀ position g, ((measureSegment (cal.get d.port).cal snap d position g).map mark).getD false =
      outcome (filterSegment (cal.get d.port).cal g)) :
    (measureDelivery cal snap d).countP mark = (d.segments.map (filterSegment (cal.get d.port).cal)).countP outcome := by
  have counted : (measureDelivery cal snap d).countP mark =
      d.segments.zipIdx.countP ((outcome ∘ filterSegment (cal.get d.port).cal) ∘ Prod.fst) := by
    rw [measureDelivery, List.countP_filterMap]
    exact List.countP_congr fun g _ => by rw [agree g.2 g.1]; rfl
  rw [counted, ← List.countP_map, List.zipIdx_map_fst, List.countP_map]

theorem measureDelivery_port {cal : Quad CalSlot} {snap : Snapshot} {d : PortDelivery} {x : Detection}
    (mem : x ∈ measureDelivery cal snap d) : x.port = d.port := by
  obtain ⟨g, -, found⟩ := List.mem_filterMap.1 mem
  rw [measureSegment_eq] at found
  split at found
  · obtain rfl := Option.some.inj found
    rfl
  · cases found

/-- The raw list's detections of a port that have a mark are as many as the port's segments whose filter outcome has it. -/
theorem rawDetections_countP {cal : Quad CalSlot} {scan : ReleasedScan} {p : Port} {mark : Detection → Bool}
    {outcome : Filtered → Bool} (other : ∀ x, x.port ≠ p → mark x = false)
    (agree : ∀ d position g, d.port = p →
      ((measureSegment (cal.get p).cal scan.snapshot d position g).map mark).getD false =
        outcome (filterSegment (cal.get p).cal g)) :
    (rawDetections cal scan).countP mark =
      ((segmentsOf scan.deliveries p).map (filterSegment (cal.get p).cal)).countP outcome := by
  rw [(rawDetections_perm cal scan).countP_eq]
  induction scan.deliveries with
  | nil => rfl
  | cons d ds ih =>
    rw [List.flatMap_cons, List.countP_append, ih, segmentsOf_cons]
    by_cases own : d.port = p
    · subst own
      rw [if_pos rfl, List.map_append, List.countP_append, measureDelivery_countP fun position g => agree d position g rfl]
    · have none_ : (measureDelivery cal scan.snapshot d).countP mark = 0 :=
        List.countP_eq_zero.2 fun x mem => by simp [other x (by rw [measureDelivery_port mem]; exact own)]
      rw [if_neg own, none_, Nat.zero_add]

theorem rawDetections_countP_port (cal : Quad CalSlot) (scan : ReleasedScan) (p : Port) :
    ((segmentsOf scan.deliveries p).map (filterSegment (cal.get p).cal)).countP Filtered.isKept =
      (rawDetections cal scan).countP fun x => decide (x.port = p) := by
  refine (rawDetections_countP (fun x other => decide_eq_false other) fun d position g own => ?_).symm
  rw [measureSegment]
  cases filterSegment (cal.get p).cal g with
  | kept first last clipped => simp [detectionOf, own, Filtered.isKept]
  | _ => rfl

theorem rawDetections_countP_clipped (cal : Quad CalSlot) (scan : ReleasedScan) (p : Port) :
    ((segmentsOf scan.deliveries p).map (filterSegment (cal.get p).cal)).countP Filtered.clippedMark =
      (rawDetections cal scan).countP fun x => decide (x.port = p ∧ x.width = none) := by
  refine (rawDetections_countP (fun x other => decide_eq_false fun h => other h.1) fun d position g own => ?_).symm
  rw [measureSegment]
  cases filterSegment (cal.get p).cal g with
  | kept first last clipped => cases clipped <;> simp [detectionOf, own, Filtered.clippedMark]
  | _ => rfl

/-! ### The scan -/

theorem geometryScan_head {s : State} {r : ResolvedScan} {rest : List ResolvedScan} (head : s.paths.toGeo = r :: rest) :
    geometryScan s = measureScan (s.onPaths fun p => { p with toGeo := rest }) r := by
  rw [geometryScan, head]

/-- Settles O29: the arithmetic, the one detection of a segment that passes, and each port's counts over the raw list. -/
theorem geometryScanned : Obligations.GeometryScanned := by
  unfold Obligations.GeometryScanned
  refine ⟨fun a b pos => roundDiv_nearest a pos, fun knots s pos two =>
    ⟨fun x => interp_nonpos pos two, fun x => interp_beyond pos two, fun i f => interp_between pos⟩,
    fun s r rest released head => ?_⟩
  dsimp only
  refine ⟨_, rawDetections s.geo.cal r.scan, exec_live _ released, geometryScan_changes s, ?_⟩
  rw [show meaning .geometryScan s = geometryScan s from rfl, geometryScan_head head]
  refine ⟨rfl, rfl, countScan_without _ _ _,
    (rawDetections_sorted _ _).imp fun before => (detectionBefore_iff _ _).1 before,
    (rawDetections_perm _ _).trans (.of_eq (List.flatMap_congr fun d _ => List.filterMap_congr fun g _ => ?_)), fun p => ?_⟩
  · rw [measureSegment_eq, detectionOf, CalSet.flatWidth, magnitude_eq_natAbs]
    rfl
  · rw [show (State.geo _).ports.get p = _ from countScan_ports s.geo r.scan (rawDetections s.geo.cal r.scan) p]
    exact ⟨congrArg (bumpBy _) (List.length_map _), congrArg (bumpBy _) (filterSegment_countP_noise _ _),
      congrArg (bumpBy _) (filterSegment_countP_window _ _), congrArg (bumpBy _) (rawDetections_countP_port _ _ _),
      congrArg (bumpBy _) (rawDetections_countP_clipped _ _ _)⟩

end Sys2Proof.Machine
end

section
/-! PROOF. RAW_LIST_ARRIVAL: the clusters of a raw list, and what each becomes (O30, O31). -/

namespace Sys2Proof.Machine

set_option Elab.async false

/-! ### Clusters (R106) -/

/-- A detection lies within both tolerances of an anchor (R106). -/
abbrev Near (lateral height : Int) (anchor d : Detection) : Prop :=
  -lateral ≤ d.stagger - anchor.stagger ∧ d.stagger - anchor.stagger ≤ lateral ∧ -height ≤ d.height - anchor.height ∧
    d.height - anchor.height ≤ height

theorem near_self {lateral height : Int} (hl : 0 ≤ lateral) (hh : 0 ≤ height) (d : Detection) :
    Near lateral height d d := by
  unfold Near
  omega

theorem joinsCluster_iff {lateral height : Int} {anchor d : Detection} {members : List Detection} :
    joinsCluster lateral height anchor members d = true ↔
      d.port ∉ members.map (·.port) ∧ Near lateral height anchor d := by
  have lateral_ : magnitude (d.stagger - anchor.stagger) ≤ lateral ↔
      -lateral ≤ d.stagger - anchor.stagger ∧ d.stagger - anchor.stagger ≤ lateral := by
    rw [magnitude_eq_natAbs]
    omega
  have height_ : magnitude (d.height - anchor.height) ≤ height ↔
      -height ≤ d.height - anchor.height ∧ d.height - anchor.height ≤ height := by
    rw [magnitude_eq_natAbs]
    omega
  simp [joinsCluster, Near, lateral_, height_, and_assoc]

/-- What the clusterer keeps of its open cluster: the anchor is its first member, no port is in it twice, and every member
is near the anchor. -/
structure ClusterOf (lateral height : Int) (anchor : Detection) (members : List Detection) : Prop where
  first : members.head? = some anchor
  ports : (members.map (·.port)).Nodup
  near  : ∀ d ∈ members, Near lateral height anchor d

/-- The first member of the second cluster could not have joined the first one. -/
def Separate (lateral height : Int) (c n : List Detection) : Prop :=
  ∃ a d, c.head? = some a ∧ n.head? = some d ∧ ¬(d.port ∉ c.map (·.port) ∧ Near lateral height a d)

section
variable {lateral height : Int}

theorem ClusterOf.single (hl : 0 ≤ lateral) (hh : 0 ≤ height) (d : Detection) : ClusterOf lateral height d [d] :=
  ⟨rfl, List.nodup_singleton _, fun _ mem => List.mem_singleton.1 mem ▸ near_self hl hh d⟩

theorem ClusterOf.join {anchor d : Detection} {members : List Detection} (h : ClusterOf lateral height anchor members)
    (joins : joinsCluster lateral height anchor members d = true) :
    ClusterOf lateral height anchor (members ++ [d]) := by
  obtain ⟨fresh, near⟩ := joinsCluster_iff.1 joins
  refine ⟨by simp [h.first], ?_, fun x mem => ?_⟩
  · rw [List.map_append]
    exact List.nodup_append_comm.1 (List.nodup_cons.2 ⟨fresh, h.ports⟩)
  · rcases List.mem_append.1 mem with old | new
    · exact h.near x old
    · exact List.mem_singleton.1 new ▸ near

theorem clusterFrom_join {anchor d : Detection} {members ds : List Detection}
    (joins : joinsCluster lateral height anchor members d = true) :
    clusterFrom lateral height anchor members (d :: ds) = clusterFrom lateral height anchor (members ++ [d]) ds :=
  if_pos joins

theorem clusterFrom_close {anchor d : Detection} {members ds : List Detection}
    (apart : ¬joinsCluster lateral height anchor members d = true) :
    clusterFrom lateral height anchor members (d :: ds) = members :: clusterFrom lateral height d [d] ds :=
  if_neg apart

theorem clusterFrom_flatten (anchor : Detection) (members ds : List Detection) :
    (clusterFrom lateral height anchor members ds).flatten = members ++ ds := by
  induction ds generalizing anchor members with
  | nil => simp [clusterFrom]
  | cons d ds ih =>
    by_cases joins : joinsCluster lateral height anchor members d = true
    · rw [clusterFrom_join joins, ih, List.append_assoc, List.singleton_append]
    · rw [clusterFrom_close joins, List.flatten_cons, ih, List.singleton_append]

/-- The first cluster to close is the open one, with what joins it. -/
theorem clusterFrom_first (anchor : Detection) (members ds : List Detection) :
    ∃ joined rest, clusterFrom lateral height anchor members ds = (members ++ joined) :: rest := by
  induction ds generalizing members with
  | nil => exact ⟨[], [], by rw [List.append_nil, clusterFrom]⟩
  | cons d ds ih =>
    by_cases joins : joinsCluster lateral height anchor members d = true
    · obtain ⟨joined, rest, run⟩ := ih (members ++ [d])
      exact ⟨d :: joined, rest, by rw [clusterFrom_join joins, run, List.append_assoc, List.singleton_append]⟩
    · exact ⟨[], _, by rw [List.append_nil, clusterFrom_close joins]⟩

theorem clusterFrom_clusters (hl : 0 ≤ lateral) (hh : 0 ≤ height) (ds : List Detection) {anchor : Detection}
    {members : List Detection} (h : ClusterOf lateral height anchor members) :
    ∀ c ∈ clusterFrom lateral height anchor members ds, ∃ a, ClusterOf lateral height a c := by
  induction ds generalizing anchor members with
  | nil => exact fun c mem => ⟨anchor, List.mem_singleton.1 mem ▸ h⟩
  | cons d ds ih =>
    by_cases joins : joinsCluster lateral height anchor members d = true
    · rw [clusterFrom_join joins]
      exact ih (h.join joins)
    · rw [clusterFrom_close joins, List.forall_mem_cons]
      exact ⟨⟨anchor, h⟩, ih (.single hl hh d)⟩

theorem clusterFrom_separate (ds : List Detection) {anchor : Detection} {members : List Detection}
    (first : members.head? = some anchor) :
    (clusterFrom lateral height anchor members ds).IsChain (Separate lateral height) := by
  induction ds generalizing anchor members with
  | nil => exact .singleton members
  | cons d ds ih =>
    by_cases joins : joinsCluster lateral height anchor members d = true
    · rw [clusterFrom_join joins]
      exact ih (by simp [first])
    · have later := ih (anchor := d) (members := [d]) rfl
      obtain ⟨joined, rest, run⟩ := clusterFrom_first (lateral := lateral) (height := height) d [d] ds
      rw [clusterFrom_close joins]
      rw [run] at later ⊢
      exact List.isChain_cons_cons.2 ⟨⟨anchor, d, first, rfl, fun could => joins (joinsCluster_iff.2 could)⟩, later⟩

theorem clusters_flatten (raw : List Detection) : (clusters lateral height raw).flatten = raw := by
  cases raw with
  | nil => rfl
  | cons d ds => exact clusterFrom_flatten d [d] ds

theorem clusters_clusters (hl : 0 ≤ lateral) (hh : 0 ≤ height) (raw : List Detection) :
    ∀ c ∈ clusters lateral height raw, ∃ a, ClusterOf lateral height a c := by
  cases raw with
  | nil => exact fun _ mem => nomatch mem
  | cons d ds => exact clusterFrom_clusters hl hh ds (.single hl hh d)

theorem clusters_separate (raw : List Detection) :
    (clusters lateral height raw).IsChain (Separate lateral height) := by
  cases raw with
  | nil => exact .nil
  | cons d ds => exact clusterFrom_separate ds rfl

end

/-- Settles O30: the open cluster keeps its shape while members join it, and each cluster closes on one that cannot. -/
theorem clustersPartition : Obligations.ClustersPartition := by
  unfold Obligations.ClustersPartition
  intro lateral height raw hl hh
  refine ⟨clusters_flatten raw, fun c mem => ?_, fun pre c n post cut => ?_⟩
  · obtain ⟨a, first, ports, near⟩ := clusters_clusters hl hh raw c mem
    obtain ⟨ms, rfl⟩ := List.head?_eq_some_iff.1 first
    exact ⟨a, ms, rfl, ports, near⟩
  · obtain ⟨a, d, hc, hn, apart⟩ :=
      List.isChain_iff_forall_rel_of_append_cons_cons.1 (clusters_separate raw) cut
    obtain ⟨ms, rfl⟩ := List.head?_eq_some_iff.1 hc
    obtain ⟨ds, rfl⟩ := List.head?_eq_some_iff.1 hn
    exact ⟨a, ms, d, ds, rfl, rfl, apart⟩

/-! ### The first few of a strict order -/

theorem countP_range_lt (k n : Nat) : (List.range n).countP (fun r => decide (r < k)) = min k n := by
  induction n with
  | zero => simp
  | succ n ih =>
    rw [List.range_succ, List.countP_append, ih, List.countP_singleton]
    simp only [decide_eq_true_eq]
    split <;> omega

/-- The entries of a list without repetition that fewer than `k` others precede are `k`, or all if the list is shorter: the
numbers of entries before each are 0, 1, 2 and so on. -/
theorem countP_few_before {α : Type} {before : α → α → Bool} {l : List α} (nodup : l.Nodup)
    (irrefl : ∀ a, before a a = false) (trans : ∀ a b c, before a b → before b c → before a c)
    (total : ∀ a ∈ l, ∀ b ∈ l, a ≠ b → before a b ∨ before b a) (k : Nat) :
    l.countP (fun c => decide (l.countP (before · c) < k)) = min k l.length := by
  have grows : ∀ a ∈ l, ∀ b, before a b → l.countP (before · a) < l.countP (before · b) := by
    intro a mem b hab
    calc l.countP (before · a) = (l.filter (before · b)).countP (before · a) := by
          rw [List.countP_filter]
          exact List.countP_congr fun x _ => by simpa using fun hxa => trans x a b hxa hab
      _ < (l.filter (before · b)).length :=
          List.countP_lt_length_iff.2 ⟨a, List.mem_filter.2 ⟨mem, hab⟩, irrefl a⟩
      _ = l.countP (before · b) := List.countP_eq_length_filter.symm
  have ranks : (l.map fun c => l.countP (before · c)).Nodup := by
    refine nodup.map_on fun a ha b hb same => ?_
    by_contra differ
    rcases total a ha b hb differ with hab | hba
    · exact absurd same (grows a ha b hab).ne
    · exact absurd same (grows b hb a hba).ne'
  have small : (l.map fun c => l.countP (before · c)) ⊆ List.range l.length := by
    intro r mem
    obtain ⟨a, ha, rfl⟩ := List.mem_map.1 mem
    exact List.mem_range.2 (List.countP_lt_length_iff.2 ⟨a, ha, irrefl a⟩)
  have all : (l.map fun c => l.countP (before · c)).Perm (List.range l.length) :=
    (List.subperm_of_subset ranks small).perm_of_length_le (by simp)
  rw [← countP_range_lt, ← all.countP_eq, List.countP_map]
  rfl

/-! ### The cluster limit (R111) -/

theorem ranksBefore_eq (a b : MergedCluster × Nat) :
    ranksBefore a b = decide (a.1.stagger.natAbs < b.1.stagger.natAbs ∨
      a.1.stagger.natAbs = b.1.stagger.natAbs ∧ a.2 < b.2) := by
  rw [ranksBefore, magnitude_eq_natAbs, magnitude_eq_natAbs]
  split
  · next differ => exact decide_eq_decide.2 (by omega)
  · next same => exact decide_eq_decide.2 (by omega)

theorem limitClusters_length_eq (cs : List MergedCluster) : (limitClusters cs).length = min 16 cs.length := by
  have nodup : cs.zipIdx.Nodup := by
    refine .of_map Prod.snd ?_
    rw [List.zipIdx_map_snd]
    exact List.nodup_range'
  have total : ∀ a ∈ cs.zipIdx, ∀ b ∈ cs.zipIdx, a ≠ b → ranksBefore a b ∨ ranksBefore b a := by
    intro a ha b hb differ
    have place : a.2 ≠ b.2 := by
      intro same
      rw [List.mem_zipIdx_iff_getElem?] at ha hb
      rw [same, hb] at ha
      exact differ (Prod.ext (Option.some.inj ha).symm same)
    simp only [ranksBefore_eq, decide_eq_true_eq]
    omega
  have first := countP_few_before nodup (fun a => by simp [ranksBefore_eq])
    (fun a b c => by simp only [ranksBefore_eq, decide_eq_true_eq]; omega) total 16
  rw [List.length_zipIdx] at first
  rw [← first, limitClusters, List.length_map, List.countP_eq_length_filter]
  rfl

/-- How far a cluster's merged stagger lies from the centreline (R111). -/
def offCentre (cal : Quad CalSlot) (members : List Detection) : Nat := (mergedValue cal (·.stagger) members).natAbs

/-- The clusters that the limit keeps, before they are merged (R111). -/
def keptClusters (cal : Quad CalSlot) (formed : List (List Detection)) : List (List Detection) :=
  (formed.zipIdx.filter fun c => decide ((formed.zipIdx.countP fun o => decide
    (offCentre cal o.1 < offCentre cal c.1 ∨ offCentre cal o.1 = offCentre cal c.1 ∧ o.2 < c.2)) < 16)).map (·.1)

theorem limitClusters_map (cal : Quad CalSlot) (formed : List (List Detection)) :
    limitClusters (formed.map (mergeCluster cal)) = (keptClusters cal formed).map (mergeCluster cal) := by
  simp only [limitClusters, keptClusters, ranksBefore_eq, List.zipIdx_map, List.filter_map, List.countP_map, List.map_map]
  rfl

/-! ### The wear source (R110) -/

theorem betterSource_foldl {cal : Quad CalSlot} (ds : List Detection) (b : Detection) :
    ∃ r ∈ b :: ds, ds.foldl (betterSource cal) (some b) = some r ∧
      ∀ e ∈ b :: ds, priorityOf cal r ≤ priorityOf cal e := by
  induction ds generalizing b with
  | nil => exact ⟨b, List.mem_singleton_self b, rfl, fun e mem => List.mem_singleton.1 mem ▸ Nat.le_refl _⟩
  | cons d ds ih =>
    by_cases better : priorityOf cal d < priorityOf cal b
    · obtain ⟨r, mem, run, best⟩ := ih d
      refine ⟨r, List.mem_cons_of_mem b mem, ?_, List.forall_mem_cons.2 ⟨?_, best⟩⟩
      · rw [List.foldl_cons, betterSource, if_pos better, run]
      · exact (best d List.mem_cons_self).trans better.le
    · obtain ⟨r, mem, run, best⟩ := ih b
      obtain ⟨ofB, ofDs⟩ := List.forall_mem_cons.1 best
      refine ⟨r, ((List.sublist_cons_self d ds).cons_cons b).subset mem, ?_,
        List.forall_mem_cons.2 ⟨ofB, List.forall_mem_cons.2 ⟨?_, ofDs⟩⟩⟩
      · rw [List.foldl_cons, betterSource, if_neg better, run]
      · omega

/-- A cluster without a width has no wear source; any other has a member with a width that none betters. -/
theorem wearSource_cases (cal : Quad CalSlot) (members : List Detection) :
    ((∀ d ∈ members, d.width = none) ∧ wearSource cal members = none) ∨
      ∃ d ∈ members, ∃ width, d.width = some width ∧ wearSource cal members = some d ∧
        ∀ e ∈ members, e.width ≠ none → priorityOf cal d ≤ priorityOf cal e := by
  have filtered : ∀ d, d ∈ members.filter (·.width.isSome) ↔ d ∈ members ∧ d.width ≠ none := by
    simp [Option.isSome_iff_ne_none]
  unfold wearSource
  cases widths : members.filter (·.width.isSome) with
  | nil =>
    refine .inl ⟨fun d mem => ?_, rfl⟩
    by_contra wide
    have := (filtered d).2 ⟨mem, wide⟩
    rw [widths] at this
    exact nomatch this
  | cons b ds =>
    obtain ⟨d, mem, run, best⟩ := betterSource_foldl (cal := cal) ds b
    rw [← widths, filtered] at mem
    obtain ⟨width, carries⟩ := Option.ne_none_iff_exists'.1 mem.2
    refine .inr ⟨d, mem.1, width, carries, run, fun e he wide => best e ?_⟩
    rw [← widths]
    exact (filtered e).2 ⟨he, wide⟩

/-! ### The flags (R109) -/

/-- A flag set with each flag that some member of a cluster has. -/
def flagsOf (members : List Detection) : Flags where
  clipped := members.any (·.flags.clipped)
  saturated := members.any (·.flags.saturated)
  degradedHead := members.any (·.flags.degradedHead)
  motionStale := members.any (·.flags.motionStale)
  noMotion := members.any (·.flags.noMotion)
  motionDegraded := members.any (·.flags.motionDegraded)
  motionClamped := members.any (·.flags.motionClamped)
  beyondTable := members.any (·.flags.beyondTable)
  tableFull := members.any (·.flags.tableFull)
  headMissing := members.any (·.flags.headMissing)

theorem foldl_union (members : List Detection) (f : Flags) :
    members.foldl (fun f d => f.union d.flags) f = f.union (flagsOf members) := by
  induction members generalizing f with
  | nil => simp [flagsOf, Flags.union]
  | cons d ds ih =>
    rw [List.foldl_cons, ih]
    simp [flagsOf, Flags.union, Bool.or_assoc]

theorem mergeCluster_flags (cal : Quad CalSlot) (members : List Detection) :
    (mergeCluster cal members).flags = flagsOf members := by
  rw [mergeCluster, foldl_union]
  simp [Flags.union]

/-! ### One item (R108 to R119) -/

/-- A thickness lies between 0 and the nominal one (R118, Law 4). -/
theorem WireSlot.Valid.thickness_within {w : WireSlot} (h : w.Valid) (width : Int) :
    0 ≤ w.thickness width ∧ w.thickness width ≤ w.nominal :=
  have ordered : 0 ≤ w.nominal := (show (0 : Int) ≤ 1 by decide).trans h.nominal.1
  ⟨le_clamp ordered _, clamp_le ordered _⟩

/-- A cluster as it is handed on: without a width it has no source and no thickness, and otherwise both are those of a member
with a width that none betters. -/
theorem finishCluster_cases (w : WireSlot) (index : Nat) (cal : Quad CalSlot) (c : List Detection) :
    ((∀ d ∈ c, d.width = none) ∧ finishCluster w index (mergeCluster cal c) =
      { index := index, stagger := mergedValue cal (·.stagger) c, height := mergedValue cal (·.height) c
        thickness := none, source := none, flags := { flagsOf c with beyondTable := false } }) ∨
    ∃ d ∈ c, ∃ width, d.width = some width ∧ (∀ e ∈ c, e.width ≠ none → priorityOf cal d ≤ priorityOf cal e) ∧
      finishCluster w index (mergeCluster cal c) =
        { index := index, stagger := mergedValue cal (·.stagger) c, height := mergedValue cal (·.height) c
          thickness := some (w.thickness width), source := some d.port
          flags := { flagsOf c with beyondTable := w.beyond width } } := by
  have source : (mergeCluster cal c).source = wearSource cal c := rfl
  rcases wearSource_cases cal c with ⟨bare, none_⟩ | ⟨d, mem, width, carries, some_, best⟩
  · refine .inl ⟨bare, ?_⟩
    rw [finishCluster, mergeCluster_flags, source, none_]
    rfl
  · refine .inr ⟨d, mem, width, carries, best, ?_⟩
    rw [finishCluster, mergeCluster_flags, source, some_, Option.bind_some, carries]
    rfl

/-! ### The cluster list (R104, R119) -/

theorem mergeDetections_items (cal : Quad CalSlot) (params : RunParams) (w : WireSlot) (raw : List Detection) :
    (mergeDetections cal params w raw).items =
      (keptClusters cal (mergeDetections cal params w raw).formed).zipIdx.map
        fun c => finishCluster w c.2 (mergeCluster cal c.1) := by
  simp only [mergeDetections, limitClusters_map, List.zipIdx_map, List.map_map]
  rfl

theorem mergeDetections_items_length (cal : Quad CalSlot) (params : RunParams) (w : WireSlot) (raw : List Detection) :
    (mergeDetections cal params w raw).items.length = min 16 (mergeDetections cal params w raw).formed.length := by
  simp only [mergeDetections, List.length_map, List.length_zipIdx, limitClusters_length_eq]

theorem mergeDetections_dropped (cal : Quad CalSlot) (params : RunParams) (w : WireSlot) (raw : List Detection) :
    (mergeDetections cal params w raw).formed.length - (mergeDetections cal params w raw).items.length =
      (mergeDetections cal params w raw).formed.length - 16 := by
  rw [mergeDetections_items_length]
  omega

theorem mergeDetections_items_index (cal : Quad CalSlot) (params : RunParams) (w : WireSlot) (raw : List Detection) :
    (mergeDetections cal params w raw).items.map (·.index) =
      List.range (mergeDetections cal params w raw).items.length := by
  rw [mergeDetections_items, List.map_map, List.length_map, List.length_zipIdx, List.range_eq_range']
  exact List.zipIdx_map_snd 0 _

/-- Each item is a kept cluster handed on, in cluster order. -/
theorem mergeDetections_forall₂ {cal : Quad CalSlot} {w : WireSlot} {R : Merged → List Detection → Prop}
    (h : ∀ index c, R (finishCluster w index (mergeCluster cal c)) c) (params : RunParams) (raw : List Detection) :
    List.Forall₂ R (mergeDetections cal params w raw).items
      (keptClusters cal (mergeDetections cal params w raw).formed) := by
  rw [mergeDetections_items]
  conv => rhs; rw [← List.zipIdx_map_fst 0 (keptClusters cal _)]
  rw [List.forall₂_map_left_iff, List.forall₂_map_right_iff, List.forall₂_same]
  exact fun c _ => h c.2 c.1

theorem mergeDetections_thickness_within {cal : Quad CalSlot} {params : RunParams} {w : WireSlot} {raw : List Detection}
    (valid : w.Valid) {m : Merged} (mem : m ∈ (mergeDetections cal params w raw).items) {v : Int}
    (measured : m.thickness = some v) : 0 ≤ v ∧ v ≤ w.nominal := by
  obtain ⟨c, -, rfl⟩ := List.mem_map.1 mem
  obtain ⟨width, -, rfl⟩ := Option.map_eq_some_iff.1 measured
  exact valid.thickness_within width

theorem rawListArrival_head {s : State} {l : RawList} {rest : List RawList} (head : s.paths.toMerge = l :: rest) :
    rawListArrival s = mergeList (s.onPaths fun p => { p with toMerge := rest }) l := by
  rw [rawListArrival, head]

/-- Settles O31: the limit keeps the first 16 of a strict order, and each kept cluster is handed on by its wear source. -/
theorem rawListMerged : Obligations.RawListMerged := by
  unfold Obligations.RawListMerged
  intro s l rest released head
  dsimp only
  refine ⟨_, (mergeDetections s.geo.cal s.cmd.params (s.merge.slot l.header.context.wireType) l.detections).items,
    exec_live _ released, rawListArrival_changes s, ?_⟩
  rw [show meaning .rawListArrival s = rawListArrival s from rfl, rawListArrival_head head]
  refine ⟨rfl, rfl, mergeDetections_items_length .., mergeDetections_items_index ..,
    mergeDetections_forall₂ (fun index c => ?_) _ _, fun valid m mem v => mergeDetections_thickness_within valid mem,
    rfl, rfl, congrArg (bumpBy _) (mergeDetections_dropped ..), rfl, rfl,
    congrArg (bumpBy _) (List.countP_congr fun m _ => by simp), rfl, fun p => ?_⟩
  · rcases finishCluster_cases (s.merge.slot l.header.context.wireType) index s.geo.cal c with
      ⟨bare, item⟩ | ⟨d, mem, width, carries, best, item⟩
    · rw [item]
      exact ⟨rfl, rfl, iff_of_true rfl bare, fun _ => rfl, nofun, rfl⟩
    · rw [item]
      refine ⟨rfl, rfl, iff_of_false nofun fun bare => ?_, nofun, fun p from_ => ?_, rfl⟩
      · rw [bare d mem] at carries
        exact nomatch carries
      · exact ⟨d, mem, width, Option.some.inj from_, carries, best, rfl, rfl⟩
  · refine (Quad.get_ofFn _ p).trans (congrArg (bumpBy _) (List.countP_congr fun m _ => ?_))
    rw [beq_iff_eq, decide_eq_true_eq]

end Sys2Proof.Machine
end

section
/-! PROOF. The greedy assignment of a scan's detections to the live tracks (O32). -/

namespace Sys2Proof.Machine

set_option Elab.async false

/-! ### The candidates in their order (R127 to R129) -/

theorem candidateBefore_iff (a b : Candidate) :
    candidateBefore a b = true ↔
      a.distance < b.distance ∨ a.distance = b.distance ∧ (a.slot < b.slot ∨ a.slot = b.slot ∧ a.index ≤ b.index) := by
  unfold candidateBefore
  split
  · next distance => simp [distance]
  · next distance =>
    rw [not_not.1 distance]
    split
    · next slot => simp [slot]
    · next slot => simp [not_not.1 slot]

theorem candidates_sorted (params : RunParams) (h : ScanHeader) (slots : List (Option Track)) (items : List Merged) :
    (candidates params h slots items).Pairwise fun a b => candidateBefore a b = true := by
  have total : Std.Total fun a b => candidateBefore a b = true := ⟨fun a b => by
    simp only [candidateBefore_iff]
    omega⟩
  have trans : IsTrans Candidate fun a b => candidateBefore a b = true := ⟨fun a b c => by
    simp only [candidateBefore_iff]
    omega⟩
  exact List.pairwise_insertionSort _ _

/-- How far a detection lies from a track's predicted stagger (R127, R128). -/
def Track.away (k : Track) (h : ScanHeader) (m : Merged) : Int :=
  magnitude (m.stagger - k.predict h.distance h.epoch)

theorem Track.away_eq (k : Track) (h : ScanHeader) (m : Merged) :
    k.away h m = max (m.stagger - k.predict h.distance h.epoch) (k.predict h.distance h.epoch - m.stagger) := by
  rw [Track.away, magnitude_eq_natAbs]
  omega

/-- A detection lies inside both gates about a track's prediction (R128). -/
def Track.Gated (k : Track) (params : RunParams) (h : ScanHeader) (m : Merged) : Prop :=
  k.away h m ≤ params.lateralGate ∧ m.height - k.height ≤ params.heightGate ∧ k.height - m.height ≤ params.heightGate

theorem candidateOf_eq_some {params : RunParams} {h : ScanHeader} {slot : Nat} {k : Track} {m : Merged} {c : Candidate} :
    candidateOf params h slot k m = some c ↔ k.Gated params h m ∧ ⟨k.away h m, slot, m.index⟩ = c := by
  have height : magnitude (m.height - k.height) ≤ params.heightGate ↔
      m.height - k.height ≤ params.heightGate ∧ k.height - m.height ≤ params.heightGate := by
    rw [magnitude_eq_natAbs]
    omega
  simp only [candidateOf, Track.Gated, ← height, Option.ite_none_right_eq_some, Option.some.injEq]
  rfl

/-- The candidates are the pairs inside both gates (R128). -/
theorem mem_candidates_iff {params : RunParams} {h : ScanHeader} {slots : List (Option Track)} {items : List Merged}
    {c : Candidate} :
    c ∈ candidates params h slots items ↔ ∃ i k m, slots[i]? = some (some k) ∧ m ∈ items ∧ k.Gated params h m ∧
      ⟨k.away h m, i, m.index⟩ = c := by
  rw [candidates, List.mem_insertionSort, List.mem_flatMap]
  constructor
  · rintro ⟨⟨_ | k, i⟩, slot, mem⟩
    · exact absurd mem List.not_mem_nil
    · obtain ⟨m, item, pair⟩ := List.mem_filterMap.1 mem
      exact ⟨i, k, m, List.mem_zipIdx_iff_getElem?.1 slot, item, candidateOf_eq_some.1 pair⟩
  · rintro ⟨i, k, m, slot, item, pair⟩
    exact ⟨(some k, i), List.mem_zipIdx_iff_getElem?.2 slot, List.mem_filterMap.2 ⟨m, item, candidateOf_eq_some.2 pair⟩⟩

/-! ### The greedy choice (R129) -/

/-- Two pairs share their track or their detection. -/
def Candidate.Shares (a b : Candidate) : Prop := a.slot = b.slot ∨ a.index = b.index

theorem mem_foldl_assignOne {done cs : List Candidate} {k : Candidate} (mem : k ∈ done) : k ∈ cs.foldl assignOne done := by
  refine List.foldlRecOn cs assignOne mem fun done mem c _ => ?_
  unfold assignOne
  split
  · exact mem
  · exact List.mem_append_left _ mem

/-- A pair that is tried is assigned, or shares with one that is. -/
theorem assignOne_shares (done : List Candidate) (c : Candidate) :
    ∃ k ∈ assignOne done c, k.Shares c ∧ (k ∈ done ∨ k = c) := by
  unfold assignOne
  split
  · next held =>
    obtain ⟨k, mem, shares⟩ := List.any_eq_true.1 held
    exact ⟨k, mem, by simpa [Candidate.Shares] using shares, .inl mem⟩
  · exact ⟨c, by simp, .inl rfl, .inr rfl⟩

/-- Each pair tried in order shares with an assigned one that is not after it. -/
theorem foldl_assignOne_shares {cs done : List Candidate} (sorted : cs.Pairwise fun a b => candidateBefore a b = true)
    (earlier : ∀ k ∈ done, ∀ c ∈ cs, candidateBefore k c = true) :
    ∀ c ∈ cs, ∃ k ∈ cs.foldl assignOne done, k.Shares c ∧ candidateBefore k c = true := by
  induction cs generalizing done with
  | nil => exact nofun
  | cons c cs ih =>
    obtain ⟨first, sorted⟩ := List.pairwise_cons.1 sorted
    intro d mem
    rw [List.foldl_cons]
    rcases List.mem_cons.1 mem with rfl | mem
    · obtain ⟨k, assigned, shares, old | rfl⟩ := assignOne_shares done d
      · exact ⟨k, mem_foldl_assignOne assigned, shares, earlier k old d List.mem_cons_self⟩
      · exact ⟨k, mem_foldl_assignOne assigned, shares, (candidateBefore_iff k k).2 (by omega)⟩
    · refine ih sorted (fun k assigned e later => ?_) d mem
      rcases mem_assignOne assigned with old | rfl
      · exact earlier k old e (List.mem_cons_of_mem _ later)
      · exact first e later

/-- Settles O32: the candidates are tried in their order, and one is passed over only for one assigned before it. -/
theorem assignmentGreedy : Obligations.AssignmentGreedy := by
  unfold Obligations.AssignmentGreedy
  intro params h slots items
  dsimp only
  have away (k : Track) (m : Merged) := k.away_eq h m
  simp only [Track.predict] at away
  simp only [← away]
  obtain ⟨slotsOnce, indicesOnce⟩ := assign_once (candidates params h slots items)
  refine ⟨slotsOnce, indicesOnce, fun c assigned => ?_, fun i k m slot item inside => ?_⟩
  · obtain ⟨i, k, m, slot, item, inside, rfl⟩ := mem_candidates_iff.1 (mem_assign assigned)
    exact ⟨k, m, slot, item, rfl, inside, rfl⟩
  · obtain ⟨c, assigned, shares, before⟩ := foldl_assignOne_shares (done := []) (candidates_sorted params h slots items)
      nofun _ (mem_candidates_iff.2 ⟨i, k, m, slot, item, inside, rfl⟩)
    exact ⟨c, assigned, shares, (candidateBefore_iff _ _).1 before⟩

end Sys2Proof.Machine
end

section
/-! SUPPORT. The births of a scan: the ids they take and the slots they fill (R124, R134, R135). -/

namespace Sys2Proof.Machine

set_option Elab.async false

/-! ### Ids (R124) -/

/-- From any value on, the ids that follow within one circle, which wraps at most once. -/
theorem iterate_idAfter_circle (id : Nat) {k : Nat} (short : k < 65535) :
    idAfter^[k] id = if id ≤ 65535 ∧ 65535 < id + k then id + k - 65535 else id + k := by
  induction k with
  | zero =>
    rw [Function.iterate_zero_apply]
    split <;> omega
  | succ k ih =>
    rw [Function.iterate_succ_apply', ih (by omega)]
    unfold idAfter
    split_ifs <;> omega

/-- With fewer live tracks than ids in the search, a free id is found, wherever the counter stands (R124). -/
theorem freeId_notMem {live : List Nat} {fuel : Nat} (few : live.length ≤ fuel) (short : fuel < 65534) (id : Nat) :
    freeId live fuel id ∉ live := by
  intro held
  have passed : (List.range (fuel + 1)).map (fun k => idAfter^[k] id) ⊆ live := fun x mem => by
    obtain ⟨k, below, rfl⟩ := List.mem_map.1 mem
    exact iterate_mem_of_freeId_mem held k (Nat.le_of_lt_succ (List.mem_range.1 below))
  have apart : ((List.range (fuel + 1)).map fun k => idAfter^[k] id).Nodup := by
    refine (List.nodup_map_iff_inj_on List.nodup_range).2 fun i hi j hj same => ?_
    rw [List.mem_range] at hi hj
    rw [iterate_idAfter_circle id (by omega), iterate_idAfter_circle id (by omega)] at same
    split_ifs at same <;> omega
  have le := (List.subperm_of_subset apart passed).length_le
  rw [List.length_map, List.length_range] at le
  omega

/-- The search passes over ids of live tracks alone (R124). -/
theorem freeId_eq_iterate (live : List Nat) (fuel id : Nat) :
    ∃ k, freeId live fuel id = idAfter^[k] id ∧ ∀ j < k, idAfter^[j] id ∈ live := by
  induction fuel generalizing id with
  | zero => exact ⟨0, rfl, nofun⟩
  | succ fuel ih =>
    unfold freeId
    split
    · next held =>
      obtain ⟨k, found, passed⟩ := ih (idAfter id)
      refine ⟨k + 1, found, fun j below => ?_⟩
      cases j with
      | zero => simpa using held
      | succ j => exact passed j (Nat.lt_of_succ_lt_succ below)
    · exact ⟨0, rfl, nofun⟩

theorem nextTrackId_eq : nextTrackId = idAfter := rfl

/-- Which ids are taken depends on the set of live ids, not on their order. -/
theorem TakesIds.congr {ids live live' : List Nat} {next after : Nat} (h : TakesIds live next ids after)
    (same : ∀ id, id ∈ live ↔ id ∈ live') : TakesIds live' next ids after := by
  induction ids generalizing live live' next with
  | nil => exact h
  | cons id ids ih =>
    obtain ⟨⟨k, found, free, passed⟩, rest⟩ := h
    exact ⟨⟨k, found, fun held => free ((same id).2 held), fun j below => (same _).1 (passed j below)⟩,
      ih rest fun x => by simp [same]⟩

/-! ### The FREE slots (R122, R134) -/

/-- The numbers of the FREE slots, in ascending order. -/
def freeSlots (slots : List (Option Track)) : List Nat :=
  (List.range slots.length).filter fun i => decide (slots[i]? = some none)

theorem freeSlots_append (front back : List (Option Track)) :
    freeSlots (front ++ back) = freeSlots front ++ (freeSlots back).map (front.length + ·) := by
  simp only [freeSlots, List.length_append, List.range_add, List.filter_append, List.filter_map]
  congr 1
  · refine List.filter_congr fun i below => ?_
    rw [List.getElem?_append_left (List.mem_range.1 below)]
  · refine congrArg _ (List.filter_congr fun i _ => ?_)
    rw [Function.comp_apply, List.getElem?_append_right (Nat.le_add_right _ _), Nat.add_sub_cancel_left]

theorem freeSlots_nil_of_held {slots : List (Option Track)} (held : ∀ slot ∈ slots, slot ≠ none) : freeSlots slots = [] :=
  List.filter_eq_nil_iff.2 fun _ _ free => held none (List.mem_of_getElem? (of_decide_eq_true free)) rfl

/-- The lowest FREE slot, and the others, which stay FREE when a track takes it. -/
theorem freeSlots_lowest {front back : List (Option Track)} (held : ∀ slot ∈ front, slot ≠ none) :
    freeSlots (front ++ none :: back) = front.length :: (freeSlots back).map (front.length + 1 + ·) ∧
      ∀ t, freeSlots (front ++ some t :: back) = (freeSlots back).map (front.length + 1 + ·) := by
  have shift (slot : Option Track) : freeSlots (front ++ slot :: back) =
      (freeSlots [slot]).map (front.length + ·) ++ (freeSlots back).map (front.length + 1 + ·) := by
    rw [← List.singleton_append, freeSlots_append, freeSlots_append, freeSlots_nil_of_held held, List.nil_append,
      List.map_append, List.map_map]
    simp [Function.comp_def, Nat.add_assoc]
  exact ⟨shift none, fun t => shift (some t)⟩

/-! ### One birth (R134) -/

/-- The entry of a track that its first hit confirms (R134, R136). -/
def birthEntries (confirmHits id : Nat) (m : Merged) : List TrackEntry :=
  if confirmHits = 1 then [.confirmed id m] else []

/-- A slot in which a detection opens a track. -/
def SlotWork.birth (h : ScanHeader) (confirmHits id : Nat) (m : Merged) (w : SlotWork) : SlotWork :=
  ⟨some (newTrack id h confirmHits m), w.entries ++ birthEntries confirmHits id m⟩

/-- A placed track takes the first FREE slot; with none it is not placed. -/
theorem placeTrack_cases (id : Nat) (h : ScanHeader) (confirmHits : Nat) (m : Merged) (ws : List SlotWork) :
    ((∀ w ∈ ws, w.track ≠ none) ∧ placeTrack (newTrack id h confirmHits m) m ws = none) ∨
      ∃ front w back, ws = front ++ w :: back ∧ (∀ v ∈ front, v.track ≠ none) ∧ w.track = none ∧
        placeTrack (newTrack id h confirmHits m) m ws = some (front ++ w.birth h confirmHits id m :: back) := by
  induction ws with
  | nil => exact .inl ⟨nofun, rfl⟩
  | cons w ws ih =>
    unfold placeTrack
    cases track : w.track with
    | none =>
      refine .inr ⟨[], w, ws, rfl, nofun, track, ?_⟩
      by_cases one : confirmHits = 1 <;> simp [SlotWork.birth, birthEntries, newTrack, one]
    | some t =>
      rcases ih with ⟨held, full⟩ | ⟨front, v, back, rfl, held, free, placed⟩
      · exact .inl ⟨List.forall_mem_cons.2 ⟨by simp [track], held⟩, by simp [full]⟩
      · exact .inr ⟨w :: front, v, back, rfl, List.forall_mem_cons.2 ⟨by simp [track], held⟩, free, by simp [placed]⟩

/-- A detection finds every slot held and is discarded, or opens a track in the lowest FREE one (R134, R135). -/
theorem bear_cases (h : ScanHeader) (confirmHits : Nat) (b : BirthWork) (m : Merged) :
    ((∀ w ∈ b.slots, w.track ≠ none) ∧ bear h confirmHits b m = { b with discards := b.discards + 1 }) ∨
      ∃ id front w back, id = freeId (liveIds b.slots) 7 b.nextId ∧ b.slots = front ++ w :: back ∧
        (∀ v ∈ front, v.track ≠ none) ∧ w.track = none ∧
        bear h confirmHits b m =
          { b with
            slots := front ++ w.birth h confirmHits id m :: back
            nextId := idAfter id
            births := b.births + 1 } := by
  unfold bear
  rcases placeTrack_cases (freeId (liveIds b.slots) 7 b.nextId) h confirmHits m b.slots with
    ⟨held, full⟩ | ⟨front, w, back, slots, held, free, placed⟩
  · exact .inl ⟨held, by simp only [full]⟩
  · exact .inr ⟨_, front, w, back, rfl, slots, held, free, by simp only [placed]⟩

/-! ### All births of a scan (R134, R135) -/

/-- A birth: its detection, its slot and its id. -/
abbrev Birth : Type := (Merged × Nat) × Nat

/-- The slots after some births. -/
def bornSlots (h : ScanHeader) (confirmHits : Nat) (born : List Birth) (ws : List SlotWork) : List SlotWork :=
  born.foldl (fun ws b => ws.modify b.1.2 (SlotWork.birth h confirmHits b.2 b.1.1)) ws

/-- What the births among some detections make of the table. -/
structure Births (h : ScanHeader) (confirmHits : Nat) (ms : List Merged) (b : BirthWork) (ids : List Nat) (r : BirthWork) :
    Prop where
  count : ids.length = min ms.length (freeSlots (b.slots.map (·.track))).length
  takes : TakesIds (liveIds b.slots) b.nextId ids r.nextId
  slots : r.slots = bornSlots h confirmHits ((ms.zip (freeSlots (b.slots.map (·.track)))).zip ids) b.slots
  births : r.births = b.births + ids.length
  discards : r.discards = b.discards + (ms.length - ids.length)

/-- A detection that finds no FREE slot. -/
theorem Births.discard {h : ScanHeader} {confirmHits : Nat} {m : Merged} {ms : List Merged} {b r : BirthWork} {ids : List Nat}
    (held : ∀ w ∈ b.slots, w.track ≠ none) (rest : Births h confirmHits ms { b with discards := b.discards + 1 } ids r) :
    Births h confirmHits (m :: ms) b ids r := by
  have full : freeSlots (b.slots.map (·.track)) = [] := freeSlots_nil_of_held (by simpa using held)
  obtain ⟨count, takes, slots, births, discards⟩ := rest
  dsimp only at count slots discards
  rw [full] at count slots
  simp only [List.length_nil, Nat.min_zero] at count
  refine ⟨by simpa [full] using count, takes, by simpa [full] using slots, births, ?_⟩
  simp only [discards, count, List.length_cons]
  omega

/-- A detection that opens a track. -/
theorem Births.birth {h : ScanHeader} {confirmHits id : Nat} {m : Merged} {ms : List Merged} {b r : BirthWork} {ids : List Nat}
    {front back : List SlotWork} {w : SlotWork} (before : b.slots = front ++ w :: back) (held : ∀ v ∈ front, v.track ≠ none)
    (free : w.track = none) (found : id = freeId (liveIds b.slots) 7 b.nextId) (few : b.slots.length ≤ 7)
    (rest : Births h confirmHits ms
      { b with slots := front ++ w.birth h confirmHits id m :: back, nextId := idAfter id, births := b.births + 1 } ids r) :
    Births h confirmHits (m :: ms) b (id :: ids) r := by
  obtain ⟨lowest, others⟩ :=
    freeSlots_lowest (front := front.map (·.track)) (back := back.map (·.track)) (by simpa using held)
  have freeNow : freeSlots (b.slots.map (·.track)) =
      front.length :: freeSlots ((front ++ w.birth h confirmHits id m :: back).map (·.track)) := by
    simp only [before, List.map_append, List.map_cons, free, SlotWork.birth, lowest, others, List.length_map]
  obtain ⟨count, takes, slots, births, discards⟩ := rest
  dsimp only at count takes slots births discards
  constructor
  · simp only [freeNow, List.length_cons, count]
    omega
  · obtain ⟨k, iterate, passed⟩ := freeId_eq_iterate (liveIds b.slots) 7 b.nextId
    rw [TakesIds, nextTrackId_eq]
    refine ⟨⟨k, found.trans iterate, ?_, passed⟩, takes.congr fun x => ?_⟩
    · rw [found]
      refine freeId_notMem ?_ (by decide) _
      rw [liveIds_eq, List.length_map]
      exact (liveOf_length_le _).trans few
    · simp only [before, liveIds, List.filterMap_append, List.filterMap_cons, free, SlotWork.birth, newTrack,
        Option.map_some, Option.map_none, List.mem_append, List.mem_cons, List.not_mem_nil, or_false]
      tauto
  · have placed : b.slots.modify front.length (SlotWork.birth h confirmHits id m) =
        front ++ w.birth h confirmHits id m :: back := by
      rw [before, List.modify_eq_set_getElem?]
      simp
    rw [freeNow, slots, ← placed]
    rfl
  · simp only [births, List.length_cons]
    omega
  · simp only [discards, List.length_cons]
    omega

theorem bearAll_births (h : ScanHeader) (confirmHits : Nat) (ms : List Merged) {b : BirthWork} (few : b.slots.length ≤ 7) :
    ∃ ids, Births h confirmHits ms b ids (ms.foldl (bear h confirmHits) b) := by
  induction ms generalizing b with
  | nil => exact ⟨[], by simp, rfl, rfl, rfl, rfl⟩
  | cons m ms ih =>
    obtain ⟨ids, rest⟩ := ih (b := bear h confirmHits b m) (by rwa [bear_length])
    rw [List.foldl_cons]
    rcases bear_cases h confirmHits b m with ⟨held, full⟩ | ⟨id, front, w, back, found, before, held, free, placed⟩
    · rw [full] at rest ⊢
      exact ⟨ids, rest.discard held⟩
    · rw [placed] at rest ⊢
      exact ⟨id :: ids, rest.birth before held free found few⟩

/-- The slots after the hits and misses of a scan, before its births (R126). -/
def worksOf (t : TrackTable) (params : RunParams) (l : ClusterList) : List SlotWork :=
  t.slots.zipIdx.map (workSlot l.header params (assign (candidates params l.header t.slots l.items)) l.items)

@[simp] theorem worksOf_length (t : TrackTable) (params : RunParams) (l : ClusterList) :
    (worksOf t params l).length = t.slots.length := by
  rw [worksOf, List.length_map, List.length_zipIdx]

theorem trackWork_births (t : TrackTable) (params : RunParams) (l : ClusterList) (few : t.slots.length ≤ 7) :
    ∃ ids, Births l.header params.confirmHits (unassigned (assign (candidates params l.header t.slots l.items)) l.items)
      ⟨worksOf t params l, t.nextId, 0, 0⟩ ids (trackWork t params l) :=
  bearAll_births _ _ _ (by simpa using few)

/-! ### The slots after the births, one by one -/

theorem bornSlots_track (h : ScanHeader) (confirmHits : Nat) (born : List Birth) (ws : List SlotWork) :
    (bornSlots h confirmHits born ws).map (·.track) =
      born.foldl (fun slots b => slots.set b.1.2 (some (newTrack b.2 h confirmHits b.1.1))) (ws.map (·.track)) := by
  induction born generalizing ws with
  | nil => rfl
  | cons b born ih =>
    rw [bornSlots, List.foldl_cons, ← bornSlots, ih, List.foldl_cons]
    congr 1
    refine List.ext_getElem? fun i => ?_
    by_cases here : b.1.2 = i
    · subst here
      cases slot : ws[b.1.2]? <;> simp [slot, SlotWork.birth, List.getElem?_set_self']
    · simp [here]

/-- The entries of the births in one slot. -/
def bornEntries (confirmHits slot : Nat) (born : List Birth) : List TrackEntry :=
  (born.filter fun b => decide (b.1.2 = slot ∧ confirmHits = 1)).map fun b => .confirmed b.2 b.1.1

theorem bornEntries_cons (confirmHits slot : Nat) (b : Birth) (born : List Birth) :
    bornEntries confirmHits slot (b :: born) =
      (if b.1.2 = slot then birthEntries confirmHits b.2 b.1.1 else []) ++ bornEntries confirmHits slot born := by
  by_cases here : b.1.2 = slot
  · by_cases one : confirmHits = 1
    · simp [bornEntries, birthEntries, here, one]
    · simp [bornEntries, birthEntries, one]
  · simp [bornEntries, here]

theorem bornSlots_entries (h : ScanHeader) (confirmHits : Nat) (born : List Birth) (ws : List SlotWork) (i : Nat) :
    (bornSlots h confirmHits born ws)[i]?.map (·.entries) =
      ws[i]?.map fun w => w.entries ++ bornEntries confirmHits i born := by
  induction born generalizing ws with
  | nil => simp [bornSlots, bornEntries]
  | cons b born ih =>
    rw [bornSlots, List.foldl_cons, ← bornSlots, ih, List.getElem?_modify, Option.map_eq_map, Option.map_map, bornEntries_cons]
    refine congrArg (Option.map · ws[i]?) (funext fun w => ?_)
    by_cases here : b.1.2 = i
    · simp [here, SlotWork.birth]
    · simp [here]

end Sys2Proof.Machine
end

section
/-! SUPPORT. A slot's work on a scan in closed form: what a hit and a miss make of a track, and what they hand on (R130 to R133,
R136). -/

namespace Sys2Proof.Machine

set_option Elab.async false

/-! ### The slope (R131) -/

/-- The updated slope before its limits. -/
def Track.slopeAfter (t : Track) (h : ScanHeader) (stagger : Int) : Int :=
  let raw :=
    if t.lastHit < h.distance then roundDiv ((stagger - t.stagger) * 1000) (h.distance - t.lastHit)
    else roundDiv (-((stagger - t.stagger) * 1000)) (t.lastHit - h.distance)
  t.slope + roundDiv (raw - t.slope) 4

theorem Track.nextSlope_eq (t : Track) (h : ScanHeader) (stagger : Int) :
    t.nextSlope h stagger =
      if h.epoch = t.lastEpoch ∧ h.distance ≠ t.lastHit then some (t.slopeAfter h stagger) else none := by
  simp only [Track.nextSlope, Track.slopeAfter, rawSlope, Int.sub_pos, Int.neg_sub]

theorem Track.hitSlope_eq (t : Track) (h : ScanHeader) (stagger : Int) :
    t.hitSlope h stagger =
      if h.epoch = t.lastEpoch ∧ h.distance ≠ t.lastHit then max (-100000) (min 100000 (t.slopeAfter h stagger))
      else t.slope := by
  rw [Track.hitSlope, t.nextSlope_eq]
  split
  · exact clamp_eq_max_min (by decide) _
  · rfl

theorem Track.slopeClamped_eq (t : Track) (h : ScanHeader) (stagger : Int) :
    t.slopeClamped h stagger = decide ((h.epoch = t.lastEpoch ∧ h.distance ≠ t.lastHit) ∧
      (t.slopeAfter h stagger < -100000 ∨ 100000 < t.slopeAfter h stagger)) := by
  rw [Track.slopeClamped, t.nextSlope_eq]
  split
  · next sloped =>
    rw [Option.any_some, Bool.eq_iff_iff, bne_iff_ne, clamp_ne_self, decide_eq_true_eq]
    refine ⟨fun outside => ⟨sloped, ?_⟩, fun outside => ?_⟩
    · omega
    · omega
  · next still => simp [still]

/-! ### Hits (R130, R132, R136) -/

theorem stateAfterHit_eq (before : TrackState) (hits : Counter) (confirmHits : Nat) :
    stateAfterHit before hits confirmHits =
      if before = .tentative ∧ hits.toNat ≠ confirmHits then .tentative else .confirmed := by
  cases before with
  | tentative => by_cases enough : hits.toNat = confirmHits <;> simp [stateAfterHit, enough]
  | _ => rfl

theorem Track.hit_eq (t : Track) (h : ScanHeader) (confirmHits : Nat) (m : Merged) :
    t.hit h confirmHits m =
      { id := t.id
        state := if t.state = .tentative ∧ (bump t.hits).toNat ≠ confirmHits then .tentative else .confirmed
        stagger := m.stagger
        height := m.height
        slope :=
          if h.epoch = t.lastEpoch ∧ h.distance ≠ t.lastHit then max (-100000) (min 100000 (t.slopeAfter h m.stagger))
          else t.slope
        lastHit := h.distance
        lastEpoch := h.epoch
        hits := bump t.hits
        misses := 0
        birth := t.birth
        thickness := lesserThickness t.thickness m.thickness h.distance } := by
  rw [Track.hit, stateAfterHit_eq, Track.hitSlope_eq]

theorem workHit_entries (h : ScanHeader) (params : RunParams) (t : Track) (m : Merged) :
    (workHit h params t m).entries =
      if t.state ≠ .tentative then [.continuing t.id .confirmed (some m)]
      else if (t.hit h params.confirmHits m).state = .confirmed then [.confirmed t.id m] else [] := by
  have state : (t.hit h params.confirmHits m).state = _ := stateAfterHit_eq t.state (bump t.hits) params.confirmHits
  cases before : t.state with
  | tentative =>
    rw [before] at state
    by_cases enough : (bump t.hits).toNat = params.confirmHits
    · simp [workHit, hitEntry, before, state, enough]
    · simp [workHit, hitEntry, before, state, enough]
  | _ =>
    rw [before] at state
    simp [workHit, hitEntry, before, state]

/-! ### Misses (R133, R136) -/

theorem workMiss_cases (h : ScanHeader) (params : RunParams) (t : Track) :
    (t.state = .tentative ∧ workMiss h params t = ⟨none, []⟩) ∨
      (t.state ≠ .tentative ∧ t.coast.misses = params.missLimit ∧
        workMiss h params t = ⟨none, [.ended (t.ended .misses h.distance)]⟩) ∨
      (t.state ≠ .tentative ∧ t.coast.misses ≠ params.missLimit ∧
        workMiss h params t = ⟨some t.coast, [.continuing t.id .coasting none]⟩) := by
  unfold workMiss
  split
  · next tentative => exact .inl ⟨tentative, rfl⟩
  · next reported =>
    by_cases limit : t.coast.misses = params.missLimit
    · exact .inr (.inl ⟨reported, limit, if_pos limit⟩)
    · exact .inr (.inr ⟨reported, limit, if_neg limit⟩)

/-! ### One slot (R126) -/

theorem workSlot_track (h : ScanHeader) (params : RunParams) (done : List Candidate) (items : List Merged) (k : Track)
    (i : Nat) : (workSlot h params done items (some k, i)).track =
      (assignedTo done items i).elim
        (if k.state = .tentative ∨ k.state ≠ .tentative ∧ k.coast.misses = params.missLimit then none else some k.coast)
        fun m => some (k.hit h params.confirmHits m) := by
  rw [workSlot]
  cases assignedTo done items i with
  | some m => rfl
  | none =>
    dsimp only [Option.elim_none]
    rcases workMiss_cases h params k with ⟨state, work⟩ | ⟨state, limit, work⟩ | ⟨state, more, work⟩
    · rw [work, if_pos (.inl state)]
    · rw [work, if_pos (.inr ⟨state, limit⟩)]
    · rw [work, if_neg (not_or.2 ⟨state, fun ended => more ended.2⟩)]

theorem workSlot_entries (h : ScanHeader) (params : RunParams) (done : List Candidate) (items : List Merged) (k : Track)
    (i : Nat) : (workSlot h params done items (some k, i)).entries =
      (assignedTo done items i).elim
        (if k.state = .tentative then []
          else if k.state ≠ .tentative ∧ k.coast.misses = params.missLimit then [.ended (k.ended .misses h.distance)]
          else [.continuing k.id .coasting none])
        fun m =>
          if k.state ≠ .tentative then [.continuing k.id .confirmed (some m)]
          else if (k.hit h params.confirmHits m).state = .confirmed then [.confirmed k.id m] else [] := by
  rw [workSlot]
  cases assignedTo done items i with
  | some m => exact workHit_entries h params k m
  | none =>
    dsimp only [Option.elim_none]
    rcases workMiss_cases h params k with ⟨state, work⟩ | ⟨state, limit, work⟩ | ⟨state, more, work⟩
    · rw [work, if_pos state]
    · rw [work, if_neg state, if_pos ⟨state, limit⟩]
    · rw [work, if_neg state, if_neg fun ended => more ended.2]

/-! ### The detection of a slot (R129) -/

/-- A slot's detection is the one that shares an assigned pair with it. -/
theorem assignedTo_eq_find? {done : List Candidate} (once : AssignedOnce done) (items : List Merged) (slot : Nat) :
    assignedTo done items slot =
      items.find? fun m => done.any fun c => c.slot == slot && c.index == m.index := by
  unfold assignedTo
  cases pair : done.find? (fun c => c.slot == slot) with
  | none =>
    have absent := List.find?_eq_none.1 pair
    refine (List.find?_eq_none.2 fun m _ taken => ?_).symm
    obtain ⟨c, mem, both⟩ := List.any_eq_true.1 taken
    exact absent c mem (Bool.and_elim_left both)
  | some c =>
    have mem := List.mem_of_find?_eq_some pair
    have here : c.slot = slot := by simpa using List.find?_some pair
    rw [Option.bind_some]
    refine congrArg (items.find? ·) (funext fun m => ?_)
    rw [Bool.eq_iff_iff, beq_iff_eq, List.any_eq_true]
    constructor
    · exact fun index => ⟨c, mem, by simp [here, index]⟩
    · rintro ⟨d, other, both⟩
      obtain ⟨sameSlot, index⟩ : d.slot = slot ∧ d.index = m.index := by simpa using both
      rw [← index, List.inj_on_of_nodup_map once.slots other mem (sameSlot.trans here.symm)]

end Sys2Proof.Machine
end

section
/-! SUPPORT. The entries of a scan's track list counted: confirmations, ends by misses, and the CONFIRMED tracks with a hit (R136,
R137, R140). -/

namespace Sys2Proof.Machine

set_option Elab.async false

/-- Whether an entry is a confirmation (R132, R134). -/
def TrackEntry.isConfirmation : TrackEntry → Bool
  | .confirmed _ _ => true
  | _ => false

/-- Whether an entry is an end (R133). -/
def TrackEntry.isEnd : TrackEntry → Bool
  | .ended _ => true
  | _ => false

/-- Whether a track is CONFIRMED. -/
def isConfirmed (t : Track) : Bool := decide (t.state = .confirmed)

/-! ### One slot -/

/-- What the entries of a live track's slot count, after its hit or miss. -/
structure EntriesCounted (params : RunParams) (k : Track × Option Merged) (w : SlotWork) : Prop where
  confirms : w.entries.countP TrackEntry.isConfirmation = [k].countP (confirmsNow params.confirmHits)
  ends : w.entries.countP TrackEntry.isEnd = [k].countP (endsNow params.missLimit)
  hits : w.entries.countP TrackEntry.countsAsHit = w.track.toList.countP isConfirmed

theorem workTrack_entriesCounted (h : ScanHeader) (params : RunParams) (k : Track × Option Merged) :
    EntriesCounted params k (workTrack h params k) := by
  obtain ⟨t, _ | m⟩ := k
  · show EntriesCounted params (t, none) (workMiss h params t)
    rcases workMiss_cases h params t with ⟨state, work⟩ | ⟨state, limit, work⟩ | ⟨state, more, work⟩
    · rw [work]
      constructor <;> simp [confirmsNow, isHitOf, endsNow, state]
    · rw [work]
      constructor <;>
        simp [confirmsNow, isHitOf, endsNow, state, limit, TrackEntry.isConfirmation, TrackEntry.isEnd, TrackEntry.countsAsHit]
    · rw [work]
      have coasts : isConfirmed t.coast = false := rfl
      constructor <;> simp [confirmsNow, isHitOf, endsNow, more, coasts, TrackEntry.isConfirmation, TrackEntry.isEnd,
        TrackEntry.countsAsHit]
  · show EntriesCounted params (t, some m) (workHit h params t m)
    have entries := workHit_entries h params t m
    have track : (workHit h params t m).track = some (t.hit h params.confirmHits m) := rfl
    have state : (t.hit h params.confirmHits m).state = _ := stateAfterHit_eq t.state (bump t.hits) params.confirmHits
    by_cases before : t.state = .tentative
    · by_cases enough : (bump t.hits).toNat = params.confirmHits
      · constructor <;> simp [entries, track, state, before, enough, confirmsNow, isHitOf, endsNow, isConfirmed,
          TrackEntry.isConfirmation, TrackEntry.isEnd, TrackEntry.countsAsHit]
      · constructor <;> simp [entries, track, state, before, enough, confirmsNow, isHitOf, endsNow, isConfirmed]
    · constructor <;> simp [entries, track, state, before, confirmsNow, isHitOf, endsNow, isConfirmed,
        TrackEntry.isConfirmation, TrackEntry.isEnd, TrackEntry.countsAsHit]

/-! ### The table after hits and misses -/

theorem works_entries (t : TrackTable) (h : ScanHeader) (params : RunParams) (done : List Candidate) (items : List Merged) :
    (t.slots.zipIdx.map (workSlot h params done items)).flatMap (·.entries) =
      (slotHits t done items).flatMap fun k => (workTrack h params k).entries := by
  rw [List.flatMap_map, slotHits, List.filterMap_eq_flatMap_toList, List.flatMap_assoc]
  refine List.flatMap_congr fun s _ => ?_
  obtain ⟨_ | k, i⟩ := s
  · rfl
  · rw [Option.map_some, Option.toList_some, List.flatMap_singleton]
    simp only [workSlot]
    cases assignedTo done items i with
    | none => rfl
    | some m => rfl

/-- Lists of entries that count as one where a condition holds, and as none elsewhere. -/
theorem countP_flatMap_of_single {α β : Type} {f : α → List β} {p : β → Bool} {q : α → Bool}
    (single : ∀ a, (f a).countP p = [a].countP q) (as : List α) : (as.flatMap f).countP p = as.countP q := by
  induction as with
  | nil => rfl
  | cons a as ih => rw [List.flatMap_cons, List.countP_append, single, ih, ← List.countP_append, List.singleton_append]

/-- A slot lists a CONFIRMED track with a hit exactly where it holds a CONFIRMED track (R137). -/
def SlotWork.Tallied (w : SlotWork) : Prop := w.entries.countP TrackEntry.countsAsHit = w.track.toList.countP isConfirmed

theorem workSlot_tallied (h : ScanHeader) (params : RunParams) (done : List Candidate) (items : List Merged)
    (slot : Option Track × Nat) : (workSlot h params done items slot).Tallied := by
  obtain ⟨_ | t, i⟩ := slot
  · exact Eq.refl 0
  · simp only [workSlot]
    cases hit : assignedTo done items i with
    | none => exact (workTrack_entriesCounted h params (t, none)).hits
    | some m => exact (workTrack_entriesCounted h params (t, some m)).hits

theorem countP_entries_of_tallied {ws : List SlotWork} (tallied : ∀ w ∈ ws, w.Tallied) :
    (ws.flatMap (·.entries)).countP TrackEntry.countsAsHit = (liveOf ws).countP isConfirmed := by
  rw [liveOf, List.filterMap_eq_flatMap_toList, List.countP_flatMap, List.countP_flatMap]
  exact congrArg List.sum (List.map_congr_left tallied)

/-! ### The table after the births -/

/-- What the births of a scan add to the entries that were there. -/
structure BirthsListed (confirmHits : Nat) (b r : BirthWork) : Prop where
  confirmations : (r.slots.flatMap (·.entries)).countP TrackEntry.isConfirmation + (if confirmHits = 1 then b.births else 0) =
    (b.slots.flatMap (·.entries)).countP TrackEntry.isConfirmation + (if confirmHits = 1 then r.births else 0)
  ends : (r.slots.flatMap (·.entries)).countP TrackEntry.isEnd = (b.slots.flatMap (·.entries)).countP TrackEntry.isEnd
  hits : (∀ w ∈ b.slots, w.Tallied) → ∀ w ∈ r.slots, w.Tallied

theorem SlotWork.Tallied.birth {w : SlotWork} (tallied : w.Tallied) (free : w.track = none) (h : ScanHeader)
    (confirmHits id : Nat) (m : Merged) : (w.birth h confirmHits id m).Tallied := by
  rw [SlotWork.Tallied, free] at tallied
  rw [SlotWork.Tallied, SlotWork.birth, List.countP_append, tallied]
  by_cases one : confirmHits = 1 <;> simp [birthEntries, newTrack, isConfirmed, TrackEntry.countsAsHit, one]

theorem bear_listed (h : ScanHeader) (confirmHits : Nat) (b : BirthWork) (m : Merged) :
    BirthsListed confirmHits b (bear h confirmHits b m) := by
  rcases bear_cases h confirmHits b m with ⟨-, full⟩ | ⟨id, front, w, back, -, before, -, free, placed⟩
  · rw [full]
    exact ⟨rfl, rfl, fun tallied => tallied⟩
  · rw [placed]
    constructor
    · by_cases one : confirmHits = 1
      · simp [before, SlotWork.birth, birthEntries, TrackEntry.isConfirmation, one, List.countP_cons]
        omega
      · simp [before, SlotWork.birth, birthEntries, one]
    · by_cases one : confirmHits = 1
      · simp [before, SlotWork.birth, birthEntries, TrackEntry.isEnd, one]
      · simp [before, SlotWork.birth, birthEntries, one]
    · intro tallied v mem
      rw [before] at tallied
      rcases List.mem_append.1 mem with inFront | rest
      · exact tallied v (List.mem_append_left _ inFront)
      · rcases List.mem_cons.1 rest with rfl | behind
        · exact (tallied w (by simp)).birth free h confirmHits id m
        · exact tallied v (by simp [behind])

theorem bearAll_entriesListed (h : ScanHeader) (confirmHits : Nat) (ms : List Merged) (b : BirthWork) :
    BirthsListed confirmHits b (ms.foldl (bear h confirmHits) b) := by
  induction ms generalizing b with
  | nil => exact ⟨rfl, rfl, fun tallied => tallied⟩
  | cons m ms ih =>
    have one := bear_listed h confirmHits b m
    have rest := ih (bear h confirmHits b m)
    rw [List.foldl_cons]
    refine ⟨?_, rest.ends.trans one.ends, fun tallied => rest.hits (one.hits tallied)⟩
    have now := one.confirmations
    have later := rest.confirmations
    omega

/-- A scan's entries count its confirmations, its ends by misses and the tracks that are CONFIRMED after it (R137, R140). -/
structure EntriesTotalled (t : TrackTable) (params : RunParams) (l : ClusterList) (hits : List (Track × Option Merged))
    (w : BirthWork) : Prop where
  confirmations : (trackListOf l w).entries.countP TrackEntry.isConfirmation =
    hits.countP (confirmsNow params.confirmHits) + if params.confirmHits = 1 then w.births else 0
  ends : (trackListOf l w).entries.countP TrackEntry.isEnd = hits.countP (endsNow params.missLimit)
  hits : (trackListOf l w).confirmedHits = (t.afterScan params l w).live.countP isConfirmed

theorem trackWork_totalled (t : TrackTable) (params : RunParams) (l : ClusterList) :
    EntriesTotalled t params l (slotHits t (assign (candidates params l.header t.slots l.items)) l.items)
      (trackWork t params l) := by
  have listed : BirthsListed params.confirmHits ⟨worksOf t params l, t.nextId, 0, 0⟩ (trackWork t params l) :=
    bearAll_entriesListed _ _ _ _
  obtain ⟨confirmations, ends, hits⟩ := listed
  rw [worksOf, works_entries] at confirmations ends
  rw [countP_flatMap_of_single fun k => (workTrack_entriesCounted l.header params k).confirms] at confirmations
  rw [countP_flatMap_of_single fun k => (workTrack_entriesCounted l.header params k).ends] at ends
  refine ⟨?_, ends, ?_⟩
  · rw [ite_self, Nat.add_zero] at confirmations
    exact confirmations
  · rw [afterScan_live]
    refine countP_entries_of_tallied (hits fun w mem => ?_)
    obtain ⟨slot, -, rfl⟩ := List.mem_map.1 mem
    exact workSlot_tallied l.header params _ l.items slot

/-! ### The hits and misses slot by slot -/

theorem isHitOf_eq (state : TrackState) (k : Track × Option Merged) :
    isHitOf state k = decide (k.1.state = state ∧ k.2 ≠ none) := by
  rw [Bool.eq_iff_iff]
  simp [isHitOf, Option.isSome_iff_ne_none]

theorem isMissOf_eq (state : TrackState) (k : Track × Option Merged) :
    isMissOf state k = decide (k.1.state = state ∧ k.2 = none) := by
  rw [Bool.eq_iff_iff]
  simp [isMissOf]

theorem slotHits_countP_any (t : TrackTable) (done : List Candidate) (items : List Merged) (p : Track × Option Merged → Bool) :
    (slotHits t done items).countP p =
      t.slots.zipIdx.countP fun x => x.1.any fun k => p (k, assignedTo done items x.2) := by
  rw [slotHits, List.countP_filterMap]
  refine List.countP_congr fun x _ => ?_
  cases x.1 <;> simp

end Sys2Proof.Machine
end

section
/-! PROOF. CLUSTER_LIST_ARRIVAL (O33). -/

namespace Sys2Proof.Machine

set_option Elab.async false

/-! ### The pipeline tally and the drain (R172, R181) -/

theorem clusterListArrival_head {s : State} {l : ClusterList} {rest : List ClusterList} (head : s.paths.toTrack = l :: rest) :
    clusterListArrival s = trackScan (s.onPaths fun p => { p with toTrack := rest }) l := by
  rw [clusterListArrival, head]

/-- The drain waits for this scan alone. -/
abbrev AsksClose (s : State) : Prop := s.cmd.drain = .waitingPipeline ∧ s.cmd.tally ≤ 1

theorem clusterListArrival_drain {s : State} {l : ClusterList} {rest : List ClusterList} (head : s.paths.toTrack = l :: rest) :
    (clusterListArrival s).cmd =
        (if AsksClose s then { s.cmd with tally := 0, drain := .waitingSpan, lateMark := false }
          else { s.cmd with tally := s.cmd.tally - 1 }) ∧
      (clusterListArrival s).paths =
        { s.paths with
          toTrack := rest
          toSpan := s.paths.toSpan ++ [.tracks (trackListOf l (trackWork s.tracks s.cmd.params l))]
          drainRequest := s.paths.drainRequest || decide (AsksClose s) } := by
  have zero : s.cmd.tally ≤ 1 ↔ s.cmd.tally - 1 = 0 := by omega
  rw [clusterListArrival_head head, trackScan, testTally_eq]
  simp only [AsksClose, zero]
  split
  · next asks =>
    replace asks : s.cmd.drain = .waitingPipeline ∧ s.cmd.tally - 1 = 0 := asks
    rw [if_pos asks, decide_eq_true asks, Bool.or_true, ← asks.2]
    exact ⟨rfl, rfl⟩
  · next goes =>
    replace goes : ¬(s.cmd.drain = .waitingPipeline ∧ s.cmd.tally - 1 = 0) := goes
    rw [if_neg goes, decide_eq_false goes, Bool.or_false]
    exact ⟨rfl, rfl⟩

/-! ### The slots and the entries together -/

/-- A list's pieces, place by place. -/
theorem flatMap_eq_range {α β : Type} (f : α → List β) (as : List α) :
    as.flatMap f = (List.range as.length).flatMap fun i => (as[i]?.map f).getD [] := by
  induction as with
  | nil => rfl
  | cons a as ih =>
    rw [List.flatMap_cons, ih, List.length_cons, List.range_succ_eq_map, List.flatMap_cons, List.flatMap_map]
    rfl

/-- A slot's own entries come before those of the births in it (R136). -/
theorem bornSlots_flatMap (h : ScanHeader) (confirmHits : Nat) (born : List Birth) (ws : List SlotWork) :
    (bornSlots h confirmHits born ws).flatMap (·.entries) =
      (List.range ws.length).flatMap fun i => (ws[i]?.map (·.entries)).getD [] ++ bornEntries confirmHits i born := by
  have length : (bornSlots h confirmHits born ws).length = ws.length :=
    List.foldlRecOn (motive := fun xs : List SlotWork => xs.length = ws.length) born _ rfl fun xs same b _ => by
      rw [List.length_modify, same]
  rw [flatMap_eq_range, length]
  refine List.flatMap_congr fun i below => ?_
  rw [bornSlots_entries, List.getElem?_eq_getElem (List.mem_range.1 below)]
  rfl

/-! ### The counters (R140) -/

theorem afterScan_counters (t : TrackTable) (params : RunParams) (l : ClusterList) :
    let done := assign (candidates params l.header t.slots l.items)
    let w := trackWork t params l
    let count (p : Track × Option Merged → Bool) : Nat := (slotHits t done l.items).countP p
    (t.afterScan params l w).counters =
      { received := bumpBy t.counters.received l.items.length
        hits := bumpBy t.counters.hits done.length
        births := bumpBy t.counters.births w.births
        fullDiscards := bumpBy t.counters.fullDiscards w.discards
        confirmations :=
          bumpBy t.counters.confirmations ((trackListOf l w).entries.countP TrackEntry.isConfirmation)
        dropped := bumpBy t.counters.dropped (count fun k => decide (k.1.state = .tentative ∧ k.2 = none))
        coasting := bumpBy t.counters.coasting (count fun k => decide (k.1.state = .confirmed ∧ k.2 = none))
        recoveries := bumpBy t.counters.recoveries (count fun k => decide (k.1.state = .coasting ∧ k.2 ≠ none))
        endsMisses := bumpBy t.counters.endsMisses ((trackListOf l w).entries.countP TrackEntry.isEnd)
        endsStop := t.counters.endsStop
        slopeClamps := bumpBy t.counters.slopeClamps
          (count fun k => k.2.any fun m => k.1.slopeClamped l.header m.stagger) } := by
  intro done w count
  obtain ⟨confirmations, ends, -⟩ := trackWork_totalled t params l
  have hits : (slotHits t done l.items).countP (fun k => k.2.isSome) = done.length :=
    slotHits_countP (assign_once _) (fun c mem => (mem_candidates (mem_assign mem)).1)
      fun c mem => (mem_candidates (mem_assign mem)).2
  simp only [← isMissOf_eq, ← isHitOf_eq, confirmations, ends, ← hits, w]
  rfl

/-- Settles O33: the slots one by one through hits and misses, then the births in the FREE slots, then the entries counted. -/
theorem clusterListTracked : Obligations.ClusterListTracked := by
  unfold Obligations.ClusterListTracked
  intro s l rest released head numbered six h d params slots done taken slope sloped hit misses ends worked entries
    loose free opens count c
  -- The statement's own functions are the model's: one track, one slot, the whole table.
  have once : AssignedOnce done := assign_once _
  have taken_eq : taken = assignedTo done l.items := funext fun i => (assignedTo_eq_find? once l.items i).symm
  have hit_eq (k : Track) (m : Merged) : hit k m = k.hit h params.confirmHits m := by
    rw [Track.hit_eq]
    simp only [hit]
    congr 1
    cases m.thickness <;> cases k.thickness <;> rfl
  have opens_eq (id : Nat) (m : Merged) : opens id m = newTrack id h params.confirmHits m := by
    simp only [opens, newTrack]
    congr 1
    cases m.thickness <;> rfl
  have length : (worksOf s.tracks s.cmd.params l).length = 6 := by rw [worksOf_length, six]
  have worked_eq : worked = (worksOf s.tracks s.cmd.params l).map (·.track) := by
    rw [worksOf, List.map_map]
    refine List.map_congr_left fun x _ => ?_
    obtain ⟨_ | k, i⟩ := x
    · rfl
    · rw [Function.comp_apply, workSlot_track]
      simp only [Option.bind_some, taken_eq]
      cases assignedTo done l.items i with
      | none => rfl
      | some m => exact congrArg some (hit_eq k m)
  have entries_eq (i : Nat) : entries i = ((worksOf s.tracks s.cmd.params l)[i]?.map (·.entries)).getD [] := by
    simp only [worksOf, List.getElem?_map, List.getElem?_zipIdx, Nat.zero_add, entries, taken_eq, hit_eq]
    rcases s.tracks.slots[i]? with _ | _ | k
    · rfl
    · rfl
    · simp only [Option.map_some, Option.getD_some, workSlot_entries]
      cases assignedTo done l.items i <;> rfl
  have free_eq : free = freeSlots ((worksOf s.tracks s.cmd.params l).map (·.track)) := by
    simp only [free, worked_eq, freeSlots, List.length_map, length]
  have count_eq (p : Track → Option Merged → Bool) :
      count p = (slotHits s.tracks done l.items).countP fun k => p k.1 k.2 := by
    simp only [count, taken_eq]
    exact (slotHits_countP_any s.tracks done l.items fun k => p k.1 k.2).symm
  -- The births that follow give the ids; the rest is read off the scan's work.
  obtain ⟨ids, bornCount, takes, slotsAfter, bornTotal, discarded⟩ :=
    trackWork_births s.tracks s.cmd.params l (six.le.trans (by decide))
  dsimp only at bornCount takes slotsAfter bornTotal discarded
  obtain ⟨cmd, paths⟩ := clusterListArrival_drain head
  refine ⟨_, trackListOf l (trackWork s.tracks s.cmd.params l), ids, exec_live _ released, clusterListArrival_changes s, ?_⟩
  rw [show meaning .clusterListArrival s = clusterListArrival s from rfl, cmd, paths, clusterListArrival_tracks head]
  refine ⟨?_, ?_, ⟨?_, ?_⟩, rfl, rfl, ?_, ?_, ?_, rfl, rfl⟩
  · rw [free_eq]
    exact bornCount
  · rw [worked_eq, List.filterMap_map]
    exact takes
  · simp only [opens_eq]
    rw [worked_eq, free_eq, ← bornSlots_track]
    exact congrArg (List.map (·.track)) slotsAfter
  · simp only [entries_eq, free_eq]
    rw [← length]
    exact (congrArg (List.flatMap (·.entries)) slotsAfter).trans (bornSlots_flatMap h _ _ _)
  · refine decide_eq_decide.2 ?_
    rw [discarded, Nat.zero_add]
    exact Nat.sub_pos_iff_lt
  · exact (trackWork_totalled s.tracks s.cmd.params l).hits
  · rw [afterScan_counters, bornTotal, discarded, Nat.zero_add, Nat.zero_add]
    simp only [count_eq, Track.slopeClamped_eq]
    rfl

end Sys2Proof.Machine
end

section
/-! SUPPORT. What a judgement does to the open run it is about: a track's run of one kind, or the COUNT run (R151, R152, R154). -/

namespace Sys2Proof.Machine

set_option Elab.async false

/-! ### The run before and after a judgement -/

/-- A run with one more conforming hit (R152). -/
def Run.conformed (r : Run) : Run := { r with conforming := r.conforming + 1 }

theorem Run.conformed_key (r : Run) : r.conformed.track = r.track ∧ r.conformed.kind = r.kind := ⟨rfl, rfl⟩

theorem Run.extend_key (expected : Nat) (d v : Int) (r : Run) :
    (r.extend expected d v).track = r.track ∧ (r.extend expected d v).kind = r.kind := ⟨rfl, rfl⟩

/-- The open run after a judgement, from the open run before it (R151, R152). -/
def runAfter (z : ZoneView) (d : Int) (id : Nat) (kind : RunKind) (releaseScans : Nat) : Judgement → Option Run → Option Run
  | .offends v, none => some (newRun id kind z d v)
  | .offends v, some r => some (r.extend z.expected d v)
  | .conforms, some r =>
    if r.conforming + 1 = releaseScans then none else some r.conformed
  | _, r => r

/-- Whether a run has opened. -/
def opensRun (before after : Option Run) : Bool := before.isNone && after.isSome

/-- The run that has been released, if one has. -/
def releasedRun (before after : Option Run) : Option Run := if after = none then before else none

theorem opensRun_self (r : Option Run) : opensRun r r = false := by cases r <;> rfl

theorem releasedRun_none (after : Option Run) : releasedRun none after = none := by cases after <;> rfl

theorem releasedRun_to_some (before : Option Run) (r : Run) : releasedRun before (some r) = none := rfl

theorem releasedRun_self (r : Option Run) : releasedRun r r = none := by cases r <;> rfl

/-! ### What a judgement can do, said once -/

/-- A judgement of a kind opens the run, extends it, adds a conforming hit to it, releases it, or does nothing (R151, R152). -/
theorem actOnRun_cases {P : Option Run → Option Run → State → Prop} (s : State) (z : ZoneView) (d : Int) (id : Nat)
    (kind : RunKind) (j : Judgement)
    (opens : ∀ v, s.span.runOf id kind = none → P none (some (newRun id kind z d v))
      (reportOpening (s.onSpan fun u => { u with runs := u.runs ++ [newRun id kind z d v] }) z))
    (extends_ : ∀ v r, s.span.runOf id kind = some r → P (some r) (some (r.extend z.expected d v))
      (changeRun s id kind fun r => r.extend z.expected d v))
    (conforms : ∀ r, s.span.runOf id kind = some r → P (some r) (some r.conformed)
      (changeRun s id kind Run.conformed))
    (releases : ∀ r, s.span.runOf id kind = some r → P (some r) none
      (closeRun (changeRun s id kind Run.conformed) id .released kind))
    (idle : P (s.span.runOf id kind) (s.span.runOf id kind) s) :
    P (s.span.runOf id kind) (runAfter z d id kind s.cmd.params.releaseScans j (s.span.runOf id kind))
      (actOnRun s z d id kind j) := by
  unfold actOnRun
  cases j with
  | neither => exact idle
  | offends v =>
    cases found : s.span.runOf id kind with
    | none => exact opens v found
    | some r => exact extends_ v r found
  | conforms =>
    cases found : s.span.runOf id kind with
    | none =>
      rw [found] at idle
      exact idle
    | some r =>
      by_cases last : r.conforming + 1 = s.cmd.params.releaseScans
      · simp only [runAfter, if_pos last]
        exact releases r found
      · simp only [runAfter, if_neg last]
        exact conforms r found

/-- The same for the COUNT run (R154). -/
theorem actOnCount_cases {P : Option Run → Option Run → State → Prop} (s : State) (z : ZoneView) (d : Int) (j : Judgement)
    (opens : ∀ v, s.span.count = none → P none (some (newRun 0 .count z d v))
      (reportOpening (s.onSpan fun u => { u with count := some (newRun 0 .count z d v) }) z))
    (stays : ∀ r k, s.span.count = some r → P (some r) (some k) (s.onSpan fun u => { u with count := some k }))
    (releases : ∀ r, s.span.count = some r → P (some r) none
      (closeCount (s.onSpan fun u => { u with count := some r.conformed }) .released))
    (idle : P s.span.count s.span.count s) :
    P s.span.count (runAfter z d 0 .count s.cmd.params.releaseScans j s.span.count) (actOnCount s z d j) := by
  unfold actOnCount
  cases j with
  | neither => exact idle
  | offends v =>
    cases found : s.span.count with
    | none => exact opens v found
    | some r => exact stays r _ found
  | conforms =>
    cases found : s.span.count with
    | none =>
      rw [found] at idle
      exact idle
    | some r =>
      by_cases last : r.conforming + 1 = s.cmd.params.releaseScans
      · simp only [runAfter, if_pos last]
        exact releases r found
      · simp only [runAfter, if_neg last]
        exact stays r _ found

/-! ### Changing the runs of one key -/

theorem changeRun_runs (s : State) (id : Nat) (kind : RunKind) (f : Run → Run) :
    (changeRun s id kind f).span.runs = s.span.runs.map fun r => if r.isOf id kind = true then f r else r := by
  have same : ∀ r : Run, (r.track == id && r.kind == kind) = r.isOf id kind := fun r => by
    simp [Run.isOf, Bool.beq_eq_decide_eq]
  simp only [changeRun, State.onSpan_span, same]

section Key
variable {id : Nat} {kind : RunKind} {f : Run → Run} (keyed : ∀ r, (f r).track = r.track ∧ (f r).kind = r.kind)
include keyed

theorem isOf_change (r : Run) : (if r.isOf id kind = true then f r else r).isOf id kind = r.isOf id kind := by
  split
  · rw [Run.isOf, (keyed r).1, (keyed r).2, Run.isOf]
  · rfl

theorem changeRun_own (s : State) :
    (changeRun s id kind f).span.runs.filter (Run.isOf id kind) = (s.span.runs.filter (Run.isOf id kind)).map f := by
  rw [changeRun_runs, List.filter_map, show Run.isOf id kind ∘ _ = Run.isOf id kind from funext (isOf_change keyed)]
  exact List.map_congr_left fun r mem => if_pos (List.mem_filter.1 mem).2

theorem changeRun_others (s : State) :
    ((changeRun s id kind f).span.runs.filter fun r => !r.isOf id kind) = s.span.runs.filter fun r => !r.isOf id kind := by
  rw [changeRun_runs, List.filter_map,
    show (fun r => !Run.isOf id kind r) ∘ _ = fun r => !Run.isOf id kind r from
      funext fun r => congrArg Bool.not (isOf_change keyed r)]
  refine (List.map_congr_left fun r mem => if_neg ?_).trans (List.map_id _)
  simpa using (List.mem_filter.1 mem).2

theorem changeRun_runOf {s : State} {r : Run} (found : s.span.runOf id kind = some r) :
    (changeRun s id kind f).span.runOf id kind = some (f r) := by
  rw [runOf_eq] at found ⊢
  rw [changeRun_runs, List.find?_map, show Run.isOf id kind ∘ _ = Run.isOf id kind from funext (isOf_change keyed), found,
    Option.map_some, if_pos (List.find?_some found)]

end Key

theorem closeRun_found {s : State} {id : Nat} {kind : RunKind} {r : Run} (found : s.span.runOf id kind = some r)
    (cause : CloseCause) :
    closeRun s id cause kind =
      (reportRun s r cause).onSpan fun u => { u with runs := u.runs.filter fun k => !(k.track == id && k.kind == kind) } := by
  rw [closeRun, found]

theorem closeRun_none {s : State} {id : Nat} {kind : RunKind} (found : s.span.runOf id kind = none) (cause : CloseCause) :
    closeRun s id cause kind = s := by
  rw [closeRun, found]

/-! ### What opens and what is released -/

/-- From s to t some runs open and some are released, in zone z: each opening is counted and reported, each release is counted and
gives its EXCEEDANCE record where there is room, and of the span unit only the runs, the COUNT run and their counters change (R151,
R152, R154, R156). -/
structure Judged (z : ZoneView) (opened : Nat) (released : List Run) (s t : State) : Prop where
  span : t.span =
    { s.span with
      runs := t.span.runs
      count := t.span.count
      counters :=
        { s.span.counters with
          runsOpened := bumpBy s.span.counters.runsOpened opened
          runsReleased := bumpBy s.span.counters.runsReleased released.length } }
  paths : t.paths = { s.paths with reports := s.paths.reports ++ List.replicate opened (.runOpened z.number) }
  cmd : t.cmd = s.cmd
  out : s.out.occupancy + released.length ≤ 60 →
    t.out = (released.map fun r => exceedance s r .released).foldl withRecord s.out

theorem Judged.counters {z : ZoneView} {opened : Nat} {released : List Run} {s t : State} (h : Judged z opened released s t) :
    t.span.counters = { s.span.counters with
      runsOpened := bumpBy s.span.counters.runsOpened opened
      runsReleased := bumpBy s.span.counters.runsReleased released.length } := by
  rw [h.span]

theorem foldl_withRecord (fs : List Frame) (o : Output) :
    (fs.foldl withRecord o).records = o.records ++ fs ∧ (fs.foldl withRecord o).reserved = o.reserved := by
  induction fs generalizing o with
  | nil => exact ⟨(List.append_nil _).symm, rfl⟩
  | cons f fs ih =>
    obtain ⟨records, reserved⟩ := ih (withRecord o f)
    refine ⟨?_, reserved⟩
    rw [List.foldl_cons, records, withRecord, List.append_assoc]
    rfl

theorem Judged.appends {z : ZoneView} {opened : Nat} {released : List Run} {s t : State} (h : Judged z opened released s t)
    (room : s.out.occupancy + released.length ≤ 60) : Appends (released.map fun r => exceedance s r .released) s t := by
  obtain ⟨records, reserved⟩ := foldl_withRecord (released.map fun r => exceedance s r .released) s.out
  exact ⟨by rw [h.out room, records], by rw [h.out room, reserved]⟩

theorem Judged.nothing (z : ZoneView) (s : State) : Judged z 0 [] s s where
  span := by rw [bumpBy_zero, List.length_nil, bumpBy_zero]
  paths := by rw [List.replicate_zero, List.append_nil]
  cmd := rfl
  out _ := rfl

/-- A change of the runs or of the COUNT run that opens and releases none. -/
theorem Judged.change {z : ZoneView} {s : State} (f : SpanUnit → SpanUnit)
    (only : ∀ u, f u = { u with runs := (f u).runs, count := (f u).count }) : Judged z 0 [] s (s.onSpan f) where
  span := by
    rw [bumpBy_zero, List.length_nil, bumpBy_zero, State.onSpan_span]
    exact only s.span
  paths := by rw [List.replicate_zero, List.append_nil, State.onSpan_paths]
  cmd := rfl
  out _ := rfl

/-- What a released run's record shows is the run before the scan that releases it: the count of conforming hits is no part of it
(R152, R156). -/
theorem Judged.beforeConforming {z : ZoneView} {n : Nat} {r : Run} {s t : State} (h : Judged z n [r.conformed] s t) :
    Judged z n [r] s t := ⟨h.span, h.paths, h.cmd, h.out⟩

theorem Judged.last {z : ZoneView} {m n : Nat} {rs ks : List Run} {s t u : State} (k : Judged z n ks t u)
    (h : Judged z m rs s t) : Judged z (m + n) (rs ++ ks) s u where
  span := by
    rw [k.span, h.counters, h.span]
    simp only [bumpBy_bumpBy, List.length_append]
  paths := by rw [k.paths, h.paths, List.append_assoc, List.replicate_append_replicate]
  cmd := k.cmd.trans h.cmd
  out room := by
    rw [List.length_append] at room
    have grown := (h.appends (by omega)).occupancy
    rw [List.length_map] at grown
    rw [k.out (by omega), h.out (by omega), exceedance_congr h.cmd, ← List.foldl_append, List.map_append]

/-- The opening of a run, whichever store it joins (R151, R154). -/
theorem reportOpening_judged {z : ZoneView} {s : State} (f : SpanUnit → SpanUnit)
    (only : ∀ u, f u = { u with runs := (f u).runs, count := (f u).count }) :
    Judged z 1 [] s (reportOpening (s.onSpan f) z) where
  span := by
    rw [reportOpening, List.length_nil, bumpBy_zero, State.onPaths_span, countSpan, State.onSpan_span, State.onSpan_span,
      only s.span]
    rfl
  paths := rfl
  cmd := rfl
  out _ := rfl

/-- The release of a run, whichever store it leaves (R152, R154, R156). -/
theorem reportRun_judged {z : ZoneView} {s : State} (r : Run) (f : SpanUnit → SpanUnit)
    (only : ∀ u, f u = { u with runs := (f u).runs, count := (f u).count }) :
    Judged z 0 [r] s ((reportRun s r .released).onSpan f) where
  span := by
    rw [State.onSpan_span, reportRun_span, only { s.span with counters := s.span.counters.countClose .released }, bumpBy_zero]
    rfl
  paths := by
    have same : (reportRun s r .released).paths = s.paths := (reportRun_changes s r .released).1 .paths (by decide)
    rw [State.onSpan_paths, same, List.replicate_zero, List.append_nil]
  cmd := (reportRun_changes s r .released).1 .cmd (by decide)
  out room := by
    have room : s.out.occupancy < 60 := room
    rw [State.onSpan_out, reportRun, countSpan, State.onSpan_out, offerB_room room]
    rfl

theorem closeRun_judged {z : ZoneView} {s : State} {id : Nat} {kind : RunKind} {r : Run}
    (found : s.span.runOf id kind = some r) : Judged z 0 [r] s (closeRun s id .released kind) := by
  rw [closeRun_found found]
  exact reportRun_judged r _ fun _ => rfl

theorem closeCount_judged {z : ZoneView} {s : State} {r : Run} (found : s.span.count = some r) :
    Judged z 0 [r] s (closeCount s .released) := by
  rw [closeCount, found]
  exact reportRun_judged r (fun u => { u with count := none }) fun _ => rfl

/-- A judgement of a kind, as the run before and after it tell (R151, R152). -/
theorem actOnRun_judged (s : State) (z : ZoneView) (d : Int) (id : Nat) (kind : RunKind) (j : Judgement) :
    let before := s.span.runOf id kind
    let after := runAfter z d id kind s.cmd.params.releaseScans j before
    Judged z (opensRun before after).toNat (releasedRun before after).toList s (actOnRun s z d id kind j) := by
  refine actOnRun_cases
    (P := fun before after t => Judged z (opensRun before after).toNat (releasedRun before after).toList s t)
    s z d id kind j (fun v _ => ?opens) (fun v r _ => ?extends_) (fun r _ => ?conforms) (fun r found => ?releases) ?idle
  case opens => exact reportOpening_judged (fun u => { u with runs := u.runs ++ [newRun id kind z d v] }) fun _ => rfl
  case extends_ => exact .change _ fun _ => rfl
  case conforms => exact .change _ fun _ => rfl
  case releases =>
    have changed : Judged z 0 [] s (changeRun s id kind Run.conformed) :=
      .change _ fun _ => rfl
    exact (closeRun_judged (changeRun_runOf Run.conformed_key found)).beforeConforming.last changed
  case idle =>
    rw [opensRun_self, releasedRun_self]
    exact .nothing z s

theorem actOnCount_judged (s : State) (z : ZoneView) (d : Int) (j : Judgement) :
    let before := s.span.count
    let after := runAfter z d 0 .count s.cmd.params.releaseScans j before
    Judged z (opensRun before after).toNat (releasedRun before after).toList s (actOnCount s z d j) := by
  refine actOnCount_cases
    (P := fun before after t => Judged z (opensRun before after).toNat (releasedRun before after).toList s t) s z d j (fun v _ => ?opens) (fun r k _ => ?stays) (fun r found => ?releases) ?idle
  case opens => exact reportOpening_judged (fun u => { u with count := some (newRun 0 .count z d v) }) fun _ => rfl
  case stays => exact .change _ fun _ => rfl
  case releases =>
    have changed : Judged z 0 [] s (s.onSpan fun u => { u with count := some r.conformed }) :=
      .change _ fun _ => rfl
    exact (closeCount_judged (r := r.conformed) rfl).beforeConforming.last changed
  case idle =>
    rw [opensRun_self, releasedRun_self]
    exact .nothing z s

end Sys2Proof.Machine
end

section
/-! SUPPORT. The runs after a judgement, and after the judgements of a hit in the kind order (R150 to R152). -/

namespace Sys2Proof.Machine

set_option Elab.async false

/-! ### The runs after one judgement -/

theorem actOnRun_count (s : State) (z : ZoneView) (d : Int) (id : Nat) (kind : RunKind) (j : Judgement) :
    (actOnRun s z d id kind j).span.count = s.span.count := by
  refine actOnRun_cases (P := fun _ _ t => t.span.count = s.span.count) s z d id kind j (fun _ _ => rfl) (fun _ _ _ => rfl)
    (fun _ _ => rfl) (fun _ _ => ?_) rfl
  exact (closeRun_keepsBins _ id .released kind).count

/-- The runs of other keys stay as they are (R151). -/
theorem actOnRun_others (s : State) (z : ZoneView) (d : Int) (id : Nat) (kind : RunKind) (j : Judgement) :
    ((actOnRun s z d id kind j).span.runs.filter fun r => !r.isOf id kind) = s.span.runs.filter fun r => !r.isOf id kind := by
  refine actOnRun_cases (P := fun _ _ t => (t.span.runs.filter fun r => !r.isOf id kind) =
    s.span.runs.filter fun r => !r.isOf id kind) s z d id kind j (fun v _ => ?opens)
    (fun v _ _ => changeRun_others (Run.extend_key z.expected d v) s) (fun _ _ => changeRun_others Run.conformed_key s)
    (fun _ _ => ?releases) rfl
  case opens =>
    show (s.span.runs ++ [newRun id kind z d v]).filter (fun r => !r.isOf id kind) = _
    simp [List.filter_append, Run.isOf, newRun]
  case releases =>
    rw [closeRun_runs, List.filter_filter]
    simpa only [Bool.and_self] using changeRun_others Run.conformed_key s

/-- A run is of one kind alone. -/
theorem Run.isOf_other {r : Run} {id : Nat} {k kind : RunKind} (h : r.isOf id k = true) (other : k ≠ kind) :
    r.isOf id kind = false := by
  have key : r.track = id ∧ r.kind = k := of_decide_eq_true h
  simp [Run.isOf, key, other]

/-- Where a key has one open run at most, it is after the judgement as `runAfter` says (R141, R151, R152). -/
theorem actOnRun_own {s : State} {id : Nat} {kind : RunKind}
    (one : s.span.runs.filter (Run.isOf id kind) = (s.span.runOf id kind).toList) (z : ZoneView) (d : Int) (j : Judgement) :
    (actOnRun s z d id kind j).span.runs.filter (Run.isOf id kind) =
      (runAfter z d id kind s.cmd.params.releaseScans j (s.span.runOf id kind)).toList := by
  refine actOnRun_cases (P := fun _ after t => t.span.runs.filter (Run.isOf id kind) = after.toList) s z d id kind j
    (fun v found => ?opens) (fun v r found => ?extends_) (fun r found => ?conforms) (fun _ _ => ?releases) one
  case opens =>
    show (s.span.runs ++ [newRun id kind z d v]).filter (Run.isOf id kind) = _
    rw [List.filter_append, one, found]
    simp [Run.isOf, newRun]
  case extends_ =>
    rw [changeRun_own (Run.extend_key z.expected d v), one, found]
    rfl
  case conforms =>
    rw [changeRun_own Run.conformed_key, one, found]
    rfl
  case releases =>
    rw [closeRun_runs, List.filter_filter]
    simp

/-- A run of another key is found as before (R151). -/
theorem actOnRun_runOf (s : State) (z : ZoneView) (d : Int) {id other : Nat} {kind k : RunKind} (j : Judgement)
    (apart : ¬(other = id ∧ k = kind)) :
    (actOnRun s z d id kind j).span.runOf other k = s.span.runOf other k := by
  have through : ∀ u : SpanUnit,
      u.runOf other k = (u.runs.filter fun r => !r.isOf id kind).find? (Run.isOf other k) := fun u => by
    rw [runOf_eq, List.find?_filter]
    refine congrArg (fun p => u.runs.find? p) (funext fun r => ?_)
    by_cases key : r.track = other ∧ r.kind = k
    · simp [Run.isOf, key, apart]
    · simp [Run.isOf, key]
  rw [through, through, actOnRun_others]

/-! ### The judgements of a hit, kind after kind (R150) -/

/-- The judgements of one hit act in the order of the kinds. -/
def judgeKinds (s : State) (z : ZoneView) (d : Int) (id : Nat) (j : RunKind → Judgement) (kinds : List RunKind) : State :=
  kinds.foldl (fun s k => actOnRun s z d id k (j k)) s

theorem checkLimits_zone (s : State) {h : ScanHeader} {z : ZoneView} (zone : h.context.zone = some z) (id : Nat) (m : Merged) :
    checkLimits s h id m = judgeKinds s z h.distance id (fun k => judgeHit z k m) trackKinds := by
  rw [checkLimits, zone]
  rfl

theorem checkLimits_none (s : State) {h : ScanHeader} (zone : h.context.zone = none) (id : Nat) (m : Merged) :
    checkLimits s h id m = s := by
  rw [checkLimits, zone]

/-- A track's open run of a kind after the judgements of a hit. -/
def hitAfter (s : State) (z : ZoneView) (d : Int) (id : Nat) (j : RunKind → Judgement) (k : RunKind) : Option Run :=
  runAfter z d id k s.cmd.params.releaseScans (j k) (s.span.runOf id k)

section Kinds
variable {z : ZoneView} {d : Int} {id : Nat} {j : RunKind → Judgement}

theorem judgeKinds_cons (s : State) (kind : RunKind) (kinds : List RunKind) :
    judgeKinds s z d id j (kind :: kinds) = judgeKinds (actOnRun s z d id kind (j kind)) z d id j kinds := rfl

theorem runOf_after {kind k : RunKind} (other : k ≠ kind) (s : State) :
    (actOnRun s z d id kind (j kind)).span.runOf id k = s.span.runOf id k :=
  actOnRun_runOf s z d (j kind) fun same => other same.2

/-- The judgement of another kind leaves what a kind's run becomes. -/
theorem hitAfter_after {kind k : RunKind} (other : k ≠ kind) (s : State) :
    hitAfter (actOnRun s z d id kind (j kind)) z d id j k = hitAfter s z d id j k := by
  rw [hitAfter, runOf_after other, (actOnRun_judged s z d id kind (j kind)).cmd, hitAfter]

/-- All the judgements of a hit, kind by kind. -/
theorem judgeKinds_judged (kinds : List RunKind) (distinct : kinds.Nodup) (s : State) :
    Judged z (kinds.countP fun k => opensRun (s.span.runOf id k) (hitAfter s z d id j k))
      (kinds.filterMap fun k => releasedRun (s.span.runOf id k) (hitAfter s z d id j k)) s (judgeKinds s z d id j kinds) := by
  induction kinds generalizing s with
  | nil => exact .nothing z s
  | cons kind kinds ih =>
    obtain ⟨later, distinct⟩ := List.nodup_cons.1 distinct
    have first := actOnRun_judged s z d id kind (j kind)
    have rest := ih distinct (actOnRun s z d id kind (j kind))
    have other : ∀ k ∈ kinds, k ≠ kind := fun k mem same => later (same ▸ mem)
    rw [List.countP_congr fun k mem => by rw [runOf_after (other k mem), hitAfter_after (other k mem)],
      List.filterMap_congr fun k mem => by rw [runOf_after (other k mem), hitAfter_after (other k mem)]] at rest
    have both := rest.last first
    rw [judgeKinds_cons]
    convert both using 1
    · rw [List.countP_cons, Nat.add_comm, hitAfter]
      cases opensRun _ _ <;> rfl
    · rw [List.filterMap_cons, hitAfter]
      cases releasedRun _ _ <;> rfl

/-- The runs that are of none of the kinds, or of another track, stay as they are (R151). -/
theorem judgeKinds_others (kinds : List RunKind) (p : Run → Bool)
    (apart : ∀ k ∈ kinds, ∀ r, p r = true → r.isOf id k = false) (s : State) :
    (judgeKinds s z d id j kinds).span.runs.filter p = s.span.runs.filter p := by
  induction kinds generalizing s with
  | nil => rfl
  | cons kind kinds ih =>
    have through : ∀ l : List Run, l.filter p = (l.filter fun r => !r.isOf id kind).filter p := fun l => by
      rw [List.filter_filter]
      refine List.filter_congr fun r _ => ?_
      cases hit : p r with
      | false => rfl
      | true => rw [apart kind List.mem_cons_self r hit]; rfl
    rw [judgeKinds_cons, ih (fun k mem => apart k (List.mem_cons_of_mem _ mem)), through, actOnRun_others, ← through]

/-- Where a kind has one open run of the track at most, it is after the judgements as `hitAfter` says (R141, R151, R152). -/
theorem judgeKinds_own (kinds : List RunKind) (distinct : kinds.Nodup) (s : State) {k : RunKind} (mem : k ∈ kinds)
    (one : s.span.runs.filter (Run.isOf id k) = (s.span.runOf id k).toList) :
    (judgeKinds s z d id j kinds).span.runs.filter (Run.isOf id k) = (hitAfter s z d id j k).toList := by
  induction kinds generalizing s with
  | nil => cases mem
  | cons kind kinds ih =>
    obtain ⟨later, distinct⟩ := List.nodup_cons.1 distinct
    rw [judgeKinds_cons]
    by_cases same : k = kind
    · subst same
      rw [judgeKinds_others kinds _ fun c inside r hit => Run.isOf_other hit fun (same : k = c) => later (same ▸ inside)]
      exact actOnRun_own one z d (j k)
    · rw [ih distinct _ ((List.mem_cons.1 mem).resolve_left same), hitAfter_after same]
      rw [runOf_after same, ← one]
      exact judgeKinds_others [kind] _ (fun c inside r hit => Run.isOf_other hit (List.mem_singleton.1 inside ▸ same)) s

theorem judgeKinds_count (kinds : List RunKind) (s : State) : (judgeKinds s z d id j kinds).span.count = s.span.count :=
  List.foldlRecOn (motive := fun t : State => t.span.count = s.span.count) kinds _ rfl fun t ht kind _ =>
    (actOnRun_count t z d id kind (j kind)).trans ht

end Kinds

end Sys2Proof.Machine
end

section
/-! SUPPORT. The COUNT run of a scan: what closes it first, and the judgement of the confirmed hit count (R154, R155). -/

namespace Sys2Proof.Machine

set_option Elab.async false

/-! ### The closing that comes first (R155) -/

/-- The COUNT run that a scan leaves open, before it is judged (R155). -/
def countStays (s : State) (device : Option CloseCause) (h : ScanHeader) : Option Run :=
  s.span.count.filter fun r => decide (countCloseCause device h r = none)

/-- The COUNT run closes first if R155 says so. -/
def dropCount (s : State) (device : Option CloseCause) (h : ScanHeader) : State :=
  match s.span.count.bind (countCloseCause device h) with
  | some c => closeCount s c
  | none => s

/-- The scan's confirmed hit count is judged in its zone (R154). -/
def judgeScan (s : State) (l : TrackList) : State :=
  match l.header.context.zone with
  | some z => actOnCount s z l.header.distance (judgeCount z l.confirmedHits)
  | none => s

theorem handleCount_eq (s : State) (device : Option CloseCause) (l : TrackList) :
    handleCount s device l = judgeScan (dropCount s device l.header) l := rfl

theorem dropCount_cases (s : State) (device : Option CloseCause) (h : ScanHeader) :
    (dropCount s device h = s ∧ countStays s device h = s.span.count) ∨
      ∃ r c, s.span.count = some r ∧ countCloseCause device h r = some c ∧ countStays s device h = none ∧
        dropCount s device h = closeCount s c := by
  unfold dropCount countStays
  cases found : s.span.count with
  | none => exact .inl ⟨rfl, rfl⟩
  | some r =>
    cases cause : countCloseCause device h r with
    | none => exact .inl (by simp [cause])
    | some c => exact .inr ⟨r, c, rfl, cause, by simp [cause], by simp [cause]⟩

/-- R155's causes in their order, for a COUNT run open at a scan. -/
theorem countCloseCause_device (u : SpanUnit) (h : ScanHeader) (r : Run) :
    countCloseCause (deviceCause u h) h r =
      if h.epoch ≠ u.prevEpoch then some .jump
      else if h.sense ≠ u.prevSense then some .reversal
      else if h.context.flush = true then some .flush
      else if h.context.zone.map (·.number) ≠ some r.number then some .zone
      else none := by
  unfold countCloseCause deviceCause
  by_cases epoch : h.epoch = u.prevEpoch
  · by_cases sense : h.sense = u.prevSense
    · rw [if_neg (not_not.2 epoch), if_neg (not_not.2 sense)]
      cases h.context.zone <;> simp [epoch, sense]
    · rw [if_neg (not_not.2 epoch), if_pos sense, if_neg (not_not.2 epoch), if_pos sense]
  · rw [if_pos epoch, if_pos epoch]

/-- Neither a device close cause nor what closes the COUNT run is a release (R142, R155). -/
theorem countCloseCause_ne_released {u : SpanUnit} {h : ScanHeader} {r : Run} {c : CloseCause}
    (cause : countCloseCause (deviceCause u h) h r = some c) : c ≠ .released := by
  rw [countCloseCause_device] at cause
  split_ifs at cause <;> cases cause <;> decide

theorem closeCount_event {s : State} {r : Run} (found : s.span.count = some r) {cause : CloseCause} (event : cause ≠ .released) :
    (closeCount s cause).span =
      { s.span with
        count := none
        counters := { s.span.counters with runsByEvent := bump s.span.counters.runsByEvent } } := by
  rw [closeCount, found]
  show ((reportRun s r cause).onSpan fun u => { u with count := none }).span = _
  rw [State.onSpan_span, reportRun_span, SpanCounters.countClose, if_neg event]

/-- What the closing of R155 does: the COUNT run is gone unless it stays, and a closing is counted as one by event. -/
structure CountDropped (stays : Option Run) (events : Nat) (s t : State) : Prop where
  span : t.span =
    { s.span with
      count := stays
      counters := { s.span.counters with runsByEvent := bumpBy s.span.counters.runsByEvent events } }
  changes : OnlyChanges [.span, .out] s t
  tally : s.span.count.toList.length = stays.toList.length + events

theorem dropCount_dropped (s : State) (u : SpanUnit) (h : ScanHeader) :
    ∃ events, CountDropped (countStays s (deviceCause u h) h) events s (dropCount s (deviceCause u h) h) := by
  rcases dropCount_cases s (deviceCause u h) h with ⟨same, stays⟩ | ⟨r, c, found, cause, stays, closed⟩
  · rw [same, stays]
    exact ⟨0, by rw [bumpBy_zero], .rfl, rfl⟩
  · rw [closed, stays]
    exact ⟨1, closeCount_event found (countCloseCause_ne_released cause), closeCount_changes s c, by rw [found]; rfl⟩

/-! ### The judgement (R154) -/

theorem actOnCount_count (s : State) (z : ZoneView) (d : Int) (j : Judgement) :
    (actOnCount s z d j).span.count = runAfter z d 0 .count s.cmd.params.releaseScans j s.span.count :=
  actOnCount_cases (P := fun _ after t => t.span.count = after) s z d j (fun _ _ => rfl) (fun _ _ _ => rfl)
    (fun _ _ => (closeCount_span _ .released).count) rfl

theorem actOnCount_runs (s : State) (z : ZoneView) (d : Int) (j : Judgement) :
    (actOnCount s z d j).span.runs = s.span.runs :=
  actOnCount_cases (P := fun _ _ t => t.span.runs = s.span.runs) s z d j (fun _ _ => rfl) (fun _ _ _ => rfl)
    (fun _ _ => (closeCount_span _ .released).runs) rfl

/-- In zone NONE no COUNT run stays open (R155). -/
theorem countStays_zoneNone (s : State) (device : Option CloseCause) {h : ScanHeader} (zone : h.context.zone = none) :
    countStays s device h = none := by
  have closes : ∀ r, countCloseCause device h r ≠ none := fun r => by
    unfold countCloseCause
    rw [zone]
    cases device <;> cases h.context.flush <;> simp
  unfold countStays
  cases s.span.count with
  | none => rfl
  | some r => simp [closes r]

/-- Where no wires are expected the confirmed hit count is not judged (R154). -/
theorem judgeScan_idle (s : State) {l : TrackList} (off : ∀ z, l.header.context.zone = some z → z.expected = 0) :
    judgeScan s l = s := by
  unfold judgeScan
  cases zone : l.header.context.zone with
  | none => rfl
  | some z =>
    show actOnCount s z _ (judgeCount z l.confirmedHits) = s
    rw [judgeCount, if_pos (off z zone)]
    rfl

/-- With no COUNT run open and no wires expected, step 3 of R142 does nothing. -/
theorem handleCount_idle {s : State} (device : Option CloseCause) {l : TrackList} (free : s.span.count = none)
    (off : ∀ z, l.header.context.zone = some z → z.expected = 0) : handleCount s device l = s := by
  rw [handleCount_eq, judgeScan_idle _ off, dropCount, free]
  rfl

end Sys2Proof.Machine
end

section
/-! SUPPORT. The runs over a scan's entries: each opening is of the scan's zone, counted and reported, and the openings and the runs
before are the runs after and the closings (R151 to R153, R157). -/

namespace Sys2Proof.Machine

set_option Elab.async false

/-! ### What the entries of a scan do to the runs -/

/-- From s to t some runs open, under the entry numbers `opened`, some are released and some close by event, in a scan of a zone. -/
structure RunsTaken (zone : Option ZoneView) (opened : List Word16) (released byEvent : Nat) (s t : State) : Prop where
  paths : t.paths = { s.paths with reports := s.paths.reports ++ opened.map .runOpened }
  count : t.span.count = s.span.count
  finished : t.span.counters.finished = s.span.counters.finished
  runsOpened : t.span.counters.runsOpened = bumpBy s.span.counters.runsOpened opened.length
  runsReleased : t.span.counters.runsReleased = bumpBy s.span.counters.runsReleased released
  runsByEvent : t.span.counters.runsByEvent = bumpBy s.span.counters.runsByEvent byEvent
  tally : opened.length + s.span.runs.length = t.span.runs.length + released + byEvent
  numbered : ∀ r ∈ t.span.runs,
    (∃ k ∈ s.span.runs, k.track = r.track ∧ k.kind = r.kind ∧ k.number = r.number) ∨ r.number ∈ opened
  inZone : ∀ n ∈ opened, ∃ z, zone = some z ∧ n = z.number
  zoneNone : zone = none → t.span.runs.Sublist s.span.runs

theorem RunsTaken.nothing (zone : Option ZoneView) {s t : State} (paths : t.paths = s.paths := by rfl)
    (count : t.span.count = s.span.count := by rfl) (runs : t.span.runs = s.span.runs := by rfl)
    (finished : t.span.counters.finished = s.span.counters.finished := by rfl)
    (runsOpened : t.span.counters.runsOpened = s.span.counters.runsOpened := by rfl)
    (runsReleased : t.span.counters.runsReleased = s.span.counters.runsReleased := by rfl)
    (runsByEvent : t.span.counters.runsByEvent = s.span.counters.runsByEvent := by rfl) : RunsTaken zone [] 0 0 s t where
  paths := by rw [paths, List.map_nil, List.append_nil]
  count := count
  finished := finished
  runsOpened := by rw [runsOpened, List.length_nil, bumpBy_zero]
  runsReleased := by rw [runsReleased, bumpBy_zero]
  runsByEvent := by rw [runsByEvent, bumpBy_zero]
  tally := by rw [runs]; exact Nat.zero_add _
  numbered r mem := .inl ⟨r, runs ▸ mem, rfl, rfl, rfl⟩
  inZone n mem := by cases mem
  zoneNone _ := by rw [runs]

theorem RunsTaken.last {zone : Option ZoneView} {ns ms : List Word16} {a b c d : Nat} {s t u : State}
    (k : RunsTaken zone ms c d t u) (h : RunsTaken zone ns a b s t) : RunsTaken zone (ns ++ ms) (a + c) (b + d) s u where
  paths := by rw [k.paths, h.paths, List.map_append, List.append_assoc]
  count := k.count.trans h.count
  finished := k.finished.trans h.finished
  runsOpened := by rw [k.runsOpened, h.runsOpened, bumpBy_bumpBy, List.length_append]
  runsReleased := by rw [k.runsReleased, h.runsReleased, bumpBy_bumpBy]
  runsByEvent := by rw [k.runsByEvent, h.runsByEvent, bumpBy_bumpBy]
  tally := by
    have first := h.tally
    have second := k.tally
    rw [List.length_append]
    omega
  numbered r mem := by
    rcases k.numbered r mem with ⟨q, held, track, kind, number⟩ | new
    · rcases h.numbered q held with ⟨p, first, track', kind', number'⟩ | new
      · exact .inl ⟨p, first, track'.trans track, kind'.trans kind, number'.trans number⟩
      · exact .inr (List.mem_append_left _ (number ▸ new))
    · exact .inr (List.mem_append_right _ new)
  inZone n mem := (List.mem_append.1 mem).elim (h.inZone n) (k.inZone n)
  zoneNone none_ := (k.zoneNone none_).trans (h.zoneNone none_)

/-- With keyed runs, what happens from s to t to the runs is as RunsTaken says, and they stay keyed. -/
def TakesRuns (zone : Option ZoneView) (s t : State) : Prop :=
  RunsKeyed s → RunsKeyed t ∧ ∃ opened released byEvent, RunsTaken zone opened released byEvent s t

theorem TakesRuns.last {zone : Option ZoneView} {s t u : State} (k : TakesRuns zone t u) (h : TakesRuns zone s t) :
    TakesRuns zone s u := fun keyed => by
  obtain ⟨keyed, _, _, _, first⟩ := h keyed
  obtain ⟨keyed, _, _, _, second⟩ := k keyed
  exact ⟨keyed, _, _, _, second.last first⟩

/-- A move of the span unit keeps the runs keyed (R141). -/
theorem TakesRuns.of_move {zone : Option ZoneView} {s t : State} (move : SpanMoves s t) {opened : List Word16}
    {released byEvent : Nat} (taken : RunsKeyed s → RunsTaken zone opened released byEvent s t) : TakesRuns zone s t :=
  fun keyed => ⟨(move.runsCarry keyed).1, _, _, _, taken keyed⟩

theorem TakesRuns.rfl {zone : Option ZoneView} {s : State} : TakesRuns zone s s := .of_move .refl fun _ => .nothing zone

theorem TakesRuns.foldl {α : Type} {zone : Option ZoneView} {f : State → α → State} (h : ∀ s a, TakesRuns zone s (f s a))
    (l : List α) (s : State) : TakesRuns zone s (l.foldl f s) :=
  List.foldlRecOn (motive := TakesRuns zone s) l _ .rfl fun t ht a _ => (h t a).last ht

/-! ### The operations -/

theorem SpanCounters.countClose_eq (c : SpanCounters) (cause : CloseCause) :
    c.countClose cause =
      { c with
        runsReleased := bumpBy c.runsReleased (if cause = .released then 1 else 0)
        runsByEvent := bumpBy c.runsByEvent (if cause = .released then 0 else 1) } := by
  unfold SpanCounters.countClose
  split <;> rw [bumpBy_zero] <;> rfl

theorem closeBin_counters (s : State) (id : Nat) (cause : CloseCause) :
    (closeBin s id cause).span.counters =
      { s.span.counters with binsClosed := (closeBin s id cause).span.counters.binsClosed } := by
  unfold closeBin
  split
  · rw [State.onSpan_span, offerA_span]
  · rfl

theorem closeBin_takes (zone : Option ZoneView) (s : State) (id : Nat) (cause : CloseCause) :
    TakesRuns zone s (closeBin s id cause) := by
  obtain ⟨runs, count, -⟩ := closeBin_leaves s id cause
  have counters := closeBin_counters s id cause
  exact .of_move (.single (.closeBin s id cause)) fun _ => .nothing zone ((closeBin_changes s id cause).1 .paths (by decide))
    count runs (by rw [counters]) (by rw [counters]) (by rw [counters]) (by rw [counters])

theorem closeRun_takes (zone : Option ZoneView) (s : State) (id : Nat) (cause : CloseCause) (kind : RunKind) :
    TakesRuns zone s (closeRun s id cause kind) := by
  cases found : s.span.runOf id kind with
  | none =>
    rw [closeRun_none found]
    exact .rfl
  | some r =>
    have counters : (closeRun s id cause kind).span.counters = s.span.counters.countClose cause := by
      rw [closeRun_found found, State.onSpan_span, reportRun_span]
    have runs := closeRun_runs s id cause kind
    have same : (closeRun s id cause kind).paths = s.paths := (closeRun_changes s id cause kind).1 .paths (by decide)
    refine .of_move (.single (.closeRun s id cause kind)) (opened := []) (released := if cause = .released then 1 else 0)
      (byEvent := if cause = .released then 0 else 1) fun keyed => ?_
    rw [SpanCounters.countClose_eq] at counters
    refine ⟨?_, (closeRun_keepsBins s id cause kind).count, by rw [counters], ?_, by rw [counters], by rw [counters], ?_,
      fun k mem => .inl ⟨k, ?_, rfl, rfl, rfl⟩, fun n mem => (by cases mem), fun _ => ?_⟩
    · rw [same, List.map_nil, List.append_nil]
    · rw [counters, List.length_nil, bumpBy_zero]
    · have one := filter_key_length keyed found
      rw [closeRun_found found, State.onSpan_span, reportRun_span, List.length_nil]
      dsimp only
      split <;> omega
    · rw [runs] at mem
      exact List.mem_of_mem_filter mem
    · rw [runs]
      exact List.filter_sublist

theorem changeRun_takes (z : ZoneView) (s : State) (id : Nat) (kind : RunKind) {f : Run → Run}
    (keyed : ∀ r, (f r).track = r.track ∧ (f r).kind = r.kind) (number : ∀ r, (f r).number = r.number) :
    TakesRuns (some z) s (changeRun s id kind f) := by
  have runs := changeRun_runs s id kind f
  refine .of_move (.single (.changeRun s id kind f keyed)) (opened := []) (released := 0) (byEvent := 0) fun _ => ?_
  refine ⟨(List.append_nil _).symm ▸ rfl, rfl, rfl, (bumpBy_zero _).symm, (bumpBy_zero _).symm, (bumpBy_zero _).symm, ?_,
    fun r mem => ?_, fun n mem => (by cases mem), fun none_ => (by cases none_)⟩
  · rw [runs, List.length_map, List.length_nil]
    exact Nat.zero_add _
  · rw [runs] at mem
    obtain ⟨k, held, rfl⟩ := List.mem_map.1 mem
    refine .inl ⟨k, held, ?_⟩
    split
    · exact ⟨(keyed k).1.symm, (keyed k).2.symm, (number k).symm⟩
    · exact ⟨rfl, rfl, rfl⟩

theorem openRun_takes (z : ZoneView) {s : State} {id : Nat} {kind : RunKind} (free : s.span.runOf id kind = none) (d v : Int) :
    TakesRuns (some z) s (reportOpening (s.onSpan fun u => { u with runs := u.runs ++ [newRun id kind z d v] }) z) := by
  refine .of_move (.single (.openRun s z id kind d v free)) (opened := [z.number]) (released := 0) (byEvent := 0) fun _ => ?_
  refine ⟨rfl, rfl, rfl, rfl, (bumpBy_zero _).symm, (bumpBy_zero _).symm, ?_, fun r mem => ?_,
    fun n mem => ⟨z, rfl, List.mem_singleton.1 mem⟩, fun none_ => (by cases none_)⟩
  · show 1 + s.span.runs.length = (s.span.runs ++ [newRun id kind z d v]).length + 0 + 0
    rw [List.length_append, List.length_singleton, Nat.add_comm]
  · rcases List.mem_append.1 mem with old | new
    · exact .inl ⟨r, old, rfl, rfl, rfl⟩
    · rw [List.mem_singleton.1 new]
      exact .inr List.mem_cons_self

/-! ### The entries -/

theorem actOnRun_takes (s : State) (z : ZoneView) (d : Int) (id : Nat) (kind : RunKind) (j : Judgement) :
    TakesRuns (some z) s (actOnRun s z d id kind j) :=
  have conformed := changeRun_takes z s id kind Run.conformed_key fun _ => rfl
  actOnRun_cases (P := fun _ _ t => TakesRuns (some z) s t) s z d id kind j
    (fun v free => openRun_takes z free d v)
    (fun v _ _ => changeRun_takes z s id kind (Run.extend_key z.expected d v) fun _ => rfl)
    (fun _ _ => conformed) (fun _ _ => (closeRun_takes _ _ id .released kind).last conformed) .rfl

theorem checkLimits_takes (s : State) (h : ScanHeader) (id : Nat) (m : Merged) :
    TakesRuns h.context.zone s (checkLimits s h id m) := by
  cases zone : h.context.zone with
  | none =>
    rw [checkLimits_none s zone]
    exact .rfl
  | some z =>
    rw [checkLimits_zone s zone]
    exact .foldl (fun s k => actOnRun_takes s z _ id k _) trackKinds s

theorem closeRuns_takes (zone : Option ZoneView) (s : State) (id : Nat) (cause : CloseCause) :
    TakesRuns zone s (closeRuns s id cause) := .foldl (fun s k => closeRun_takes zone s id cause k) trackKinds s

theorem openBin_takes (zone : Option ZoneView) (s : State) (h : ScanHeader) (full : Bool) (id : Nat) (hit : Option Merged) :
    TakesRuns zone s (openBin s h full id hit) := .of_move (.single (.openBin s h full id hit)) fun _ => .nothing zone

theorem continueBin_takes (s : State) (device : Option CloseCause) (l : TrackList) (id : Nat) (hit : Option Merged) :
    TakesRuns l.header.context.zone s (continueBin s device l id hit) := by
  unfold continueBin
  dsimp only
  split
  · split
    · next cause _ =>
      have closed := closeBin_takes l.header.context.zone s id cause
      refine (openBin_takes _ _ l.header l.tableFull id hit).last ?_
      split
      · exact (closeRuns_takes _ _ id _).last closed
      · exact closed
    · exact .of_move (.single (.extendBin s l.header l.tableFull id hit)) fun _ => .nothing _
  · exact openBin_takes _ s l.header l.tableFull id hit

theorem recordEnd_takes (zone : Option ZoneView) (s : State) (e : EndedTrack) : TakesRuns zone s (recordEnd s e) := by
  have span := recordEnd_span s e
  exact .of_move (.single (.recordEnd s e)) fun _ => .nothing zone ((recordEnd_changes s e).1 .paths (by decide))
    (by rw [span]) (by rw [span]) (by rw [span]) (by rw [span]) (by rw [span]) (by rw [span])

theorem takeEntry_takes (device : Option CloseCause) (l : TrackList) (s : State) (e : TrackEntry) :
    TakesRuns l.header.context.zone s (takeEntry device l s e) := by
  cases e with
  | continuing id state hit =>
    have continued := continueBin_takes s device l id hit
    cases hit with
    | none => exact continued
    | some m => exact (checkLimits_takes _ l.header id m).last continued
  | confirmed id m => exact (checkLimits_takes _ l.header id m).last (openBin_takes _ s l.header l.tableFull id (some m))
  | ended e =>
    rw [takeEntry, endTrack_eq]
    exact (recordEnd_takes _ _ e).last ((closeRuns_takes _ _ e.id .trackEnd).last (closeBin_takes _ s e.id .trackEnd))

end Sys2Proof.Machine
end

section
/-! PROOF. A track list at the span unit: the scan register, the runs opened and closed, and the COUNT run (O34). -/

namespace Sys2Proof.Machine

set_option Elab.async false

/-! ### The steps of R142 -/

/-- The oldest arrival at the span unit leaves its path (R142). -/
def withArrivals (s : State) (rest : List SpanArrival) : State := s.onPaths fun p => { p with toSpan := rest }

@[simp] theorem withArrivals_span (s : State) (rest : List SpanArrival) : (withArrivals s rest).span = s.span := rfl
@[simp] theorem withArrivals_cmd (s : State) (rest : List SpanArrival) : (withArrivals s rest).cmd = s.cmd := rfl
@[simp] theorem withArrivals_out (s : State) (rest : List SpanArrival) : (withArrivals s rest).out = s.out := rfl
@[simp] theorem withArrivals_paths (s : State) (rest : List SpanArrival) :
    (withArrivals s rest).paths = { s.paths with toSpan := rest } := rfl

/-- The entries of a track list are taken in their order (R142). -/
def takeEntries (s : State) (device : Option CloseCause) (l : TrackList) : State := l.entries.foldl (takeEntry device l) s

theorem trackListArrival_tracks {s : State} {l : TrackList} {rest : List SpanArrival} (h : s.paths.toSpan = .tracks l :: rest) :
    meaning .trackListArrival s =
      finishSpan (handleCount (takeEntries (withArrivals s rest) (deviceCause s.span l.header) l)
        (deviceCause s.span l.header) l) l.header := by
  show trackListArrival s = _
  rw [trackListArrival, h]
  rfl

@[simp] theorem finishSpan_span (s : State) (h : ScanHeader) :
    (finishSpan s h).span =
      { s.span with
        prevSense := h.sense
        prevEpoch := h.epoch
        counters := { s.span.counters with finished := bump s.span.counters.finished } } := rfl

@[simp] theorem finishSpan_paths (s : State) (h : ScanHeader) :
    (finishSpan s h).paths = { s.paths with reports := s.paths.reports ++ [.scanFinished h.scan] } := rfl

theorem takeEntries_takes (s : State) (device : Option CloseCause) (l : TrackList) :
    TakesRuns l.header.context.zone s (takeEntries s device l) := .foldl (takeEntry_takes device l) l.entries s

theorem takeEntries_cmd (s : State) (device : Option CloseCause) (l : TrackList) : (takeEntries s device l).cmd = s.cmd :=
  (SpanMoves.foldl (fun s e => takeEntry_moves device l s e) l.entries s).changes.1 .cmd (by decide)

/-! ### The judgement of the confirmed hit count (R154) -/

theorem judgeCount_off {z : ZoneView} (hits : Nat) (off : z.expected = 0) : judgeCount z hits = .neither := if_pos off

theorem judgeCount_offends {z : ZoneView} {hits : Nat} (on : z.expected ≠ 0) (other : hits ≠ z.expected) :
    judgeCount z hits = .offends hits := by
  rw [judgeCount, if_neg on, judgeValue, if_pos (bne_iff_ne.2 other)]

theorem judgeCount_conforms {z : ZoneView} {hits : Nat} (on : z.expected ≠ 0) (same : hits = z.expected) :
    judgeCount z hits = .conforms := by
  rw [judgeCount, if_neg on, judgeValue, if_neg (by simp [same])]

/-- The COUNT run after the judgement, from the one before it. -/
def countAfter (releaseScans : Nat) (l : TrackList) (before : Option Run) : Option Run :=
  match l.header.context.zone with
  | some z => runAfter z l.header.distance 0 .count releaseScans (judgeCount z l.confirmedHits) before
  | none => before

/-- Whether the confirmed hit count is judged and equal to the wires expected. -/
def hitsConform (l : TrackList) : Bool :=
  l.header.context.zone.any fun z => decide (z.expected ≠ 0 ∧ (l.confirmedHits : Int) = z.expected)

theorem hitsConform_zone {l : TrackList} {z : ZoneView} (zone : l.header.context.zone = some z) :
    hitsConform l = true ↔ z.expected ≠ 0 ∧ l.confirmedHits = z.expected := by
  rw [hitsConform, zone, Option.any_some, decide_eq_true_iff, Nat.cast_inj]

/-- Where no wires are expected the COUNT run stays as it is (R154). -/
theorem countAfter_off {l : TrackList} {z : ZoneView} (zone : l.header.context.zone = some z) (off : z.expected = 0) (n : Nat)
    (before : Option Run) : countAfter n l before = before := by
  rw [countAfter, zone]
  dsimp only
  rw [judgeCount_off _ off]
  cases before <;> rfl

/-- A count other than the wires expected opens the COUNT run or extends it (R154). -/
theorem countAfter_offends {l : TrackList} {z : ZoneView} (zone : l.header.context.zone = some z) (on : z.expected ≠ 0)
    (other : l.confirmedHits ≠ z.expected) (n : Nat) (before : Option Run) :
    countAfter n l before =
      some (before.elim (newRun 0 .count z l.header.distance l.confirmedHits) fun r =>
        r.extend z.expected l.header.distance l.confirmedHits) := by
  rw [countAfter, zone]
  dsimp only
  rw [judgeCount_offends on other]
  cases before <;> rfl

/-- A conforming count releases the run at the release scans, and otherwise counts (R154). -/
theorem countAfter_conforms {l : TrackList} (h : hitsConform l = true) (n : Nat) (before : Option Run) :
    countAfter n l before = (before.filter fun r => decide (r.conforming + 1 ≠ n)).map Run.conformed := by
  cases zone : l.header.context.zone with
  | none => simp [hitsConform, zone] at h
  | some z =>
    obtain ⟨on, same⟩ := (hitsConform_zone zone).1 h
    rw [countAfter, zone]
    dsimp only
    rw [judgeCount_conforms on same]
    cases before with
    | none => rfl
    | some r => by_cases last : r.conforming + 1 = n <;> simp [runAfter, last]

/-- A count that does not conform releases no run (R154). -/
theorem countAfter_open {l : TrackList} (h : hitsConform l ≠ true) (n : Nat) (r : Run) :
    ∃ k, countAfter n l (some r) = some k := by
  unfold countAfter
  cases zone : l.header.context.zone with
  | none => exact ⟨r, rfl⟩
  | some z =>
    dsimp only
    rw [ne_eq, hitsConform_zone zone] at h
    by_cases on : z.expected = 0
    · rw [judgeCount_off _ on]
      exact ⟨r, rfl⟩
    · rw [judgeCount_offends on fun same => h ⟨on, same⟩]
      exact ⟨_, rfl⟩

theorem magnitude_lt (a b : Int) : magnitude a < magnitude b ↔ a.natAbs < b.natAbs := by
  rw [magnitude_eq_natAbs, magnitude_eq_natAbs, Nat.cast_lt]

theorem worse_count (expected : Nat) (v held : Int) :
    worse .count expected v held = decide ((held - expected).natAbs < (v - expected).natAbs) :=
  decide_eq_decide.2 (magnitude_lt _ _)

/-! ### The runs that step 3 opens and closes -/

theorem opens_and_releases (before after : Option Run) :
    (opensRun before after).toNat + before.toList.length = after.toList.length + (releasedRun before after).toList.length := by
  cases before <;> cases after <;> rfl

/-- From s to t the judgement of a scan's hit count acts on the COUNT run: it opens, under the numbers `opened`, or is released. -/
structure CountJudged (l : TrackList) (opened : List Word16) (released : List Run) (s t : State) : Prop where
  span : t.span =
    { s.span with
      count := countAfter s.cmd.params.releaseScans l s.span.count
      counters :=
        { s.span.counters with
          runsOpened := bumpBy s.span.counters.runsOpened opened.length
          runsReleased := bumpBy s.span.counters.runsReleased released.length } }
  paths : t.paths = { s.paths with reports := s.paths.reports ++ opened.map .runOpened }
  out : s.out.occupancy + released.length ≤ 60 →
    t.out = (released.map fun r => exceedance s r .released).foldl withRecord s.out
  tally : opened.length + s.span.count.toList.length =
    (countAfter s.cmd.params.releaseScans l s.span.count).toList.length + released.length
  inZone : ∀ n ∈ opened, ∃ z, l.header.context.zone = some z ∧ n = z.number

/-- The COUNT run that the judgement of a scan's hit count releases, if it does. -/
def countReleased (s : State) (l : TrackList) : List Run :=
  (releasedRun s.span.count (countAfter s.cmd.params.releaseScans l s.span.count)).toList

theorem countReleased_length_le (s : State) (l : TrackList) : (countReleased s l).length ≤ 1 := by
  unfold countReleased
  cases releasedRun _ _ <;> simp

theorem judgeScan_judged (s : State) (l : TrackList) : ∃ opened, CountJudged l opened (countReleased s l) s (judgeScan s l) := by
  unfold countReleased
  cases zone : l.header.context.zone with
  | none =>
    have after : ∀ r, countAfter s.cmd.params.releaseScans l r = r := fun r => by rw [countAfter, zone]
    refine ⟨[], ?_⟩
    rw [judgeScan, zone]
    constructor <;> simp [after, releasedRun_self, bumpBy_zero]
  | some z =>
    have after : countAfter s.cmd.params.releaseScans l s.span.count =
        runAfter z l.header.distance 0 .count s.cmd.params.releaseScans (judgeCount z l.confirmedHits) s.span.count := by
      rw [countAfter, zone]
    have judged := actOnCount_judged s z l.header.distance (judgeCount z l.confirmedHits)
    have count := actOnCount_count s z l.header.distance (judgeCount z l.confirmedHits)
    have runs := actOnCount_runs s z l.header.distance (judgeCount z l.confirmedHits)
    rw [← after] at count
    simp only [← after] at judged
    have same : judgeScan s l = actOnCount s z l.header.distance (judgeCount z l.confirmedHits) := by rw [judgeScan, zone]
    rw [same]
    refine ⟨List.replicate (opensRun s.span.count (countAfter s.cmd.params.releaseScans l s.span.count)).toNat z.number,
      ?_, ?_, judged.out, ?_, fun n mem => ⟨z, zone, List.eq_of_mem_replicate mem⟩⟩
    · rw [judged.span, count, runs, List.length_replicate]
    · rw [judged.paths, List.map_replicate]
    · rw [List.length_replicate]
      exact opens_and_releases _ _

/-! ### The record of the COUNT run (R156) -/

theorem closeCount_out {s : State} {r : Run} (found : s.span.count = some r) (room : s.out.occupancy < 60) (cause : CloseCause) :
    (closeCount s cause).out = withRecord s.out (exceedance s r cause) := by
  rw [closeCount, found]
  show ((reportRun s r cause).onSpan fun u => { u with count := none }).out = _
  rw [State.onSpan_out, reportRun, countSpan, State.onSpan_out, offerB_room room]
  rfl

/-- With room for it, step 3 of R142 offers one record at most: the EXCEEDANCE record of the COUNT run that closes, by event first
and then by release (R154, R155, R156). -/
theorem handleCount_out {s : State} (room : s.out.occupancy < 60) (device : Option CloseCause) (l : TrackList) :
    (handleCount s device l).out =
      match s.span.count, s.span.count.bind fun r =>
        if countCloseCause device l.header r ≠ none then countCloseCause device l.header r
        else if hitsConform l = true ∧ r.conforming + 1 = s.cmd.params.releaseScans then some .released
        else none with
      | some r, some c => withRecord s.out (exceedance s r c)
      | _, _ => s.out := by
  rw [handleCount_eq]
  rcases dropCount_cases s device l.header with ⟨same, stays⟩ | ⟨r, c, found, cause, -, closed⟩
  · rw [same]
    obtain ⟨opened, judged⟩ := judgeScan_judged s l
    have one := countReleased_length_le s l
    rw [judged.out (by omega), countReleased]
    cases found : s.span.count with
    | none =>
      rw [releasedRun_none]
      rfl
    | some r =>
      have kept : countCloseCause device l.header r = none := by
        by_contra event
        simp [countStays, found, event] at stays
      by_cases released : hitsConform l = true ∧ r.conforming + 1 = s.cmd.params.releaseScans
      · obtain ⟨conforms, last⟩ := released
        rw [countAfter_conforms conforms]
        simp [kept, conforms, last, releasedRun]
      · have stays_open : ∃ k, countAfter s.cmd.params.releaseScans l (some r) = some k := by
          by_cases conforms : hitsConform l = true
          · rw [countAfter_conforms conforms]
            simp [show r.conforming + 1 ≠ s.cmd.params.releaseScans from fun last => released ⟨conforms, last⟩]
          · exact countAfter_open conforms _ r
        obtain ⟨k, after⟩ := stays_open
        rw [after, releasedRun_to_some]
        simp [kept, released]
  · obtain ⟨opened, judged⟩ := judgeScan_judged (closeCount s c) l
    rw [closed]
    have out := closeCount_out found room c
    have grown := (closeCount_appends room c).occupancy
    rw [found, Option.toList_some, List.length_map, List.length_singleton] at grown
    have judged := judged.out
    rw [countReleased, (closeCount_span s c).count, releasedRun_none] at judged
    rw [judged (by rw [grown]; exact room), out]
    simp [found, cause]

/-! ### Step 3 whole (R154, R155) -/

/-- What step 3 of R142 does, from s to t: of the COUNT run that stays open after R155 the judgement makes what `countAfter` says,
and each opening and closing is counted. -/
structure CountTaken (l : TrackList) (stays : Option Run) (opened : List Word16) (released byEvent : Nat) (s t : State) : Prop where
  span : t.span =
    { s.span with
      count := countAfter s.cmd.params.releaseScans l stays
      counters :=
        { s.span.counters with
          runsOpened := bumpBy s.span.counters.runsOpened opened.length
          runsReleased := bumpBy s.span.counters.runsReleased released
          runsByEvent := bumpBy s.span.counters.runsByEvent byEvent } }
  paths : t.paths = { s.paths with reports := s.paths.reports ++ opened.map .runOpened }
  tally : opened.length + s.span.count.toList.length =
    (countAfter s.cmd.params.releaseScans l stays).toList.length + released + byEvent
  inZone : ∀ n ∈ opened, ∃ z, l.header.context.zone = some z ∧ n = z.number

theorem handleCount_taken (s : State) (u : SpanUnit) (l : TrackList) :
    ∃ opened released byEvent, CountTaken l (countStays s (deviceCause u l.header) l.header) opened released byEvent s
      (handleCount s (deviceCause u l.header) l) := by
  obtain ⟨byEvent, dropped⟩ := dropCount_dropped s u l.header
  obtain ⟨opened, judged⟩ := judgeScan_judged (dropCount s (deviceCause u l.header) l.header) l
  have cmd : (dropCount s (deviceCause u l.header) l.header).cmd = s.cmd := dropped.changes.1 .cmd (by decide)
  have paths : (dropCount s (deviceCause u l.header) l.header).paths = s.paths := dropped.changes.1 .paths (by decide)
  have span := judged.span
  have tally := judged.tally
  have closings := dropped.tally
  rw [handleCount_eq]
  have count : (dropCount s (deviceCause u l.header) l.header).span.count = countStays s (deviceCause u l.header) l.header := by
    rw [dropped.span]
  rw [count, cmd] at span tally
  rw [dropped.span] at span
  refine ⟨opened, _, byEvent, span, ?_, ?_, judged.inZone⟩
  · rw [judged.paths, paths]
  · omega

/-! ### The statement -/

/-- Settles O34: the entries by `takeEntries_takes`, the COUNT run by `handleCount_taken` and `handleCount_out`. -/
theorem trackListSpanned : Obligations.TrackListSpanned := by
  unfold Obligations.TrackListSpanned
  intro s l rest running waiting keyed counted h hits event stays conforms closing
  have event_eq : event = countCloseCause (deviceCause s.span h) h := funext fun r => (countCloseCause_device s.span h r).symm
  have stays_eq : stays = countStays s (deviceCause s.span h) h := by rw [countStays, ← event_eq]
  obtain ⟨-, ns, released, byEvent, taken⟩ :=
    takeEntries_takes (withArrivals s rest) (deviceCause s.span h) l keyed
  have cmd : (takeEntries (withArrivals s rest) (deviceCause s.span h) l).cmd = s.cmd := takeEntries_cmd (withArrivals s rest) _ l
  have stays_after : countStays (takeEntries (withArrivals s rest) (deviceCause s.span h) l)
      (deviceCause s.span h) h = stays := by
    rw [stays_eq, countStays, taken.count]
    rfl
  obtain ⟨ms, released', byEvent', count⟩ := handleCount_taken
    (takeEntries (withArrivals s rest) (deviceCause s.span h) l) s.span l
  rw [stays_after] at count
  have span := count.span
  have changes := trackListArrival_changes s
  rw [show trackListArrival s = _ from trackListArrival_tracks waiting] at changes
  refine ⟨_, ns ++ ms, released + released', byEvent + byEvent', exec_live .trackListArrival running, ?_⟩
  rw [trackListArrival_tracks waiting]
  have no_entries : l.entries = [] → takeEntries (withArrivals s rest) (deviceCause s.span h) l =
      withArrivals s rest := fun empty => by rw [takeEntries, empty]; rfl
  generalize takeEntries (withArrivals s rest) (deviceCause s.span h) l = t at *
  have out := handleCount_out (s := t) (device := deviceCause s.span h) (l := l)
  have bins := handleCount_bins t (deviceCause s.span h) l
  generalize handleCount t (deviceCause s.span h) l = u at *
  have runs : u.span.runs = t.span.runs := by rw [span]
  have count_after : u.span.count = countAfter s.cmd.params.releaseScans l stays := by rw [span, cmd]
  refine ⟨changes.mono, ?paths, rfl, rfl, ?finished, ?opened, ?released, ?byEvent, ?tally, ?numbered, ?inZone, ?zoneNone, ?off,
    ?offends, ?conforms, ?no_entries⟩
  case paths =>
    rw [finishSpan_paths, count.paths, taken.paths]
    simp [h]
  case finished =>
    rw [finishSpan_span, span, taken.finished]
    rfl
  case opened =>
    rw [finishSpan_span, span, taken.runsOpened, bumpBy_bumpBy, List.length_append]
    rfl
  case released =>
    rw [finishSpan_span, span, taken.runsReleased, bumpBy_bumpBy]
    rfl
  case byEvent =>
    rw [finishSpan_span, span, taken.runsByEvent, bumpBy_bumpBy]
    rfl
  case tally =>
    show _ = u.span.runs.length + u.span.count.toList.length + _ + _
    have entries := taken.tally
    have scan := count.tally
    rw [taken.count] at scan
    rw [runs, count_after, List.length_append]
    rw [cmd] at scan
    simp only [withArrivals_span] at entries scan
    omega
  case numbered =>
    intro r mem new
    rcases taken.numbered r (runs ▸ mem) with ⟨k, held, track, kind, -⟩ | opened
    · exact absurd (List.find?_eq_none.1 new k held) (by simp [track, kind])
    · exact List.mem_append_left _ opened
  case inZone =>
    intro z zone n mem
    obtain ⟨y, same, number⟩ := (List.mem_append.1 mem).elim (taken.inZone n) (count.inZone n)
    obtain rfl : z = y := Option.some.inj (zone.symm.trans same)
    exact number
  case zoneNone =>
    intro zone
    refine ⟨List.eq_nil_iff_forall_not_mem.2 fun n mem => ?_, ?_, ?_⟩
    · obtain ⟨y, same, -⟩ := (List.mem_append.1 mem).elim (taken.inZone n) (count.inZone n)
      exact absurd (zone.symm.trans same) nofun
    · exact runs ▸ taken.zoneNone zone
    · show u.span.count = none
      rw [count_after, stays_eq, countStays_zoneNone s _ zone, countAfter, zone]
  case off =>
    intro z zone off
    exact count_after.trans (countAfter_off zone off _ stays)
  case offends =>
    intro z zone on other
    refine count_after.trans ((countAfter_offends zone on (fun same => other (congrArg _ same)) _ stays).trans ?_)
    cases held : stays with
    | none => rfl
    | some r =>
      have kind : r.kind = .count := counted r (Option.filter_eq_some_iff.1 held).1
      simp only [Option.elim_some, Run.extend, kind, worse_count, decide_eq_true_iff]
      rfl
  case conforms =>
    intro conform
    show u.span.count = _
    rw [count_after, countAfter_conforms conform]
    rfl
  case no_entries =>
    intro empty room
    have same := no_entries empty
    subst same
    refine ⟨?_, runs, bins⟩
    have out := out room
    rw [← event_eq] at out
    exact out

end Sys2Proof.Machine
end

section
/-! SUPPORT. What the bin of an entry leaves of the span unit: closings and openings of bins, with their WIRE records (R145 to
R148). -/

namespace Sys2Proof.Machine

set_option Elab.async false

/-! ### Bins alone -/

/-- From s to t nothing of the span unit changes but the bins and their counters, and with class A room WIRE records `wires` join
the queue. -/
structure BinsOnly (wires : List Frame) (s t : State) : Prop where
  span : t.span =
    { s.span with
      bins := t.span.bins
      counters :=
        { s.span.counters with
          binsOpened := t.span.counters.binsOpened
          binsClosed := t.span.counters.binsClosed } }
  paths : t.paths = s.paths
  cmd : t.cmd = s.cmd
  appends : s.out.occupancy < 52 → Appends wires s t

theorem BinsOnly.runs {wires : List Frame} {s t : State} (h : BinsOnly wires s t) : t.span.runs = s.span.runs := by rw [h.span]

theorem BinsOnly.count {wires : List Frame} {s t : State} (h : BinsOnly wires s t) : t.span.count = s.span.count := by rw [h.span]

theorem BinsOnly.runOf {wires : List Frame} {s t : State} (h : BinsOnly wires s t) (id : Nat) (kind : RunKind) :
    t.span.runOf id kind = openRun s.span id kind := by
  rw [openRun_eq, SpanUnit.runOf, SpanUnit.runOf, h.runs]

/-- The WIRE record of a bin that closes (R148). -/
def wireRecord (s : State) (b : Bin) (cause : CloseCause) : Frame := ⟨kindWire, s.cmd.station.setWidth 8, b.wirePayload cause⟩

theorem closeBin_found {s : State} {id : Nat} {b : Bin} (found : s.span.binOf id = some b) (cause : CloseCause) :
    (closeBin s id cause).span =
      { s.span with
        bins := s.span.bins.eraseP fun k => decide (k.track = id)
        counters := { s.span.counters with binsClosed := bump s.span.counters.binsClosed } } := by
  rw [closeBin, found, State.onSpan_span, offerA_span]
  rfl

theorem closeBin_only {s : State} {id : Nat} {b : Bin} (found : s.span.binOf id = some b) (cause : CloseCause) :
    BinsOnly [wireRecord s b cause] s (closeBin s id cause) where
  span := by rw [closeBin_found found]
  paths := (closeBin_changes s id cause).1 .paths (by decide)
  cmd := (closeBin_changes s id cause).1 .cmd (by decide)
  appends room := by
    have closed := closeBin_appends room id cause
    rw [show s.span.bins.find? (fun b => decide (b.track = id)) = some b from found] at closed
    exact closed

theorem BinsOnly.nothing (s : State) : BinsOnly [] s s := ⟨rfl, rfl, rfl, fun _ => .nil⟩

theorem BinsOnly.openBin {wires : List Frame} {s t : State} (k : BinsOnly wires s t) (h : ScanHeader) (full : Bool) (id : Nat)
    (hit : Option Merged) : BinsOnly wires s (openBin t h full id hit) where
  span := by
    rw [Machine.openBin, State.onSpan_span, k.span]
  paths := k.paths
  cmd := k.cmd
  appends room := ⟨(k.appends room).records, (k.appends room).reserved⟩

theorem extendBin_only (s : State) (h : ScanHeader) (full : Bool) (id : Nat) (hit : Option Merged) :
    BinsOnly [] s (extendBin s h full id hit) := ⟨rfl, rfl, rfl, fun _ => .nil⟩

/-! ### R146 -/

/-- R146's causes in their order, for a bin open at a scan. -/
theorem binCloseCause_device (u : SpanUnit) (n : Int) (h : ScanHeader) (b : Bin) :
    binCloseCause (deviceCause u h) n h b =
      if h.epoch ≠ u.prevEpoch then some .jump
      else if h.sense ≠ u.prevSense then some .reversal
      else if h.context.flush = true ∨ ¬h.context.zone.map (·.number) = b.zone.map (·.number) then some .zone
      else if h.distance / n ≠ b.index then some .grid
      else none := by
  have zones : sameZone h.context.zone b.zone = decide (h.context.zone.map (·.number) = b.zone.map (·.number)) := by
    cases h.context.zone <;> cases b.zone <;> simp [sameZone, Bool.beq_eq_decide_eq]
  unfold binCloseCause deviceCause binIndex
  rw [zones]
  by_cases epoch : h.epoch = u.prevEpoch
  · by_cases sense : h.sense = u.prevSense
    · simp [epoch, sense]
    · simp [epoch, sense]
  · simp [epoch]

/-- A track's runs close with a cause, if there is one (R153). -/
def closeRunsWith (s : State) (id : Nat) : Option CloseCause → State
  | some c => closeRuns s id c
  | none => s

/-- The bin of a continuing entry closes with a cause, the runs close but for GRID, and a bin opens with the scan (R146, R153). -/
theorem continueBin_closes {s : State} {id : Nat} {b : Bin} (found : s.span.binOf id = some b) {device : Option CloseCause}
    {l : TrackList} {c : CloseCause} (cause : binCloseCause device s.cmd.params.binLength l.header b = some c)
    (hit : Option Merged) :
    continueBin s device l id hit =
      openBin (closeRunsWith (closeBin s id c) id (runCauseOf l.header.context.flush c)) l.header l.tableFull id hit := by
  rw [continueBin]
  simp only [found, cause]
  rfl

theorem continueBin_grid {s : State} {id : Nat} {b : Bin} (found : s.span.binOf id = some b) {device : Option CloseCause}
    {l : TrackList} (cause : binCloseCause device s.cmd.params.binLength l.header b = some .grid) (hit : Option Merged) :
    continueBin s device l id hit = openBin (closeBin s id .grid) l.header l.tableFull id hit :=
  continueBin_closes found cause hit

/-- Where no cause stands the bin takes the scan (R147). -/
theorem continueBin_extends {s : State} {id : Nat} {b : Bin} (found : s.span.binOf id = some b) {device : Option CloseCause}
    {l : TrackList} (cause : binCloseCause device s.cmd.params.binLength l.header b = none) (hit : Option Merged) :
    continueBin s device l id hit = extendBin s l.header l.tableFull id hit := by
  rw [continueBin]
  simp only [found, cause]

end Sys2Proof.Machine
end

section
/-! PROOF. The runs of the kinds STAGGER, HEIGHT_LOW, HEIGHT_HIGH and THICKNESS follow a track's hits (O36). -/

namespace Sys2Proof.Machine

set_option Elab.async false

/-! ### How a value stands to a limit (R150) -/

/-- A hit's judgement from the value and whether it offends, where a kind is judged at all. -/
def judgementOf : Option (Int × Bool) → Judgement
  | none => .neither
  | some (v, offends) => judgeValue offends v

/-- The value that a hit is judged by for a kind, and whether it offends; none where the limit is off or there is no value. -/
def limitOf (z : ZoneView) (m : Merged) : RunKind → Option (Int × Bool)
  | .stagger => if z.staggerLimit = 0 then none else some (m.stagger, decide (z.staggerLimit < m.stagger.natAbs))
  | .heightLow => if z.heightMin = 0 then none else some (m.height, decide (m.height < z.heightMin))
  | .heightHigh => if z.heightMax = 0 then none else some (m.height, decide (z.heightMax < m.height))
  | .thickness => if z.minThickness = 0 then none else m.thickness.map fun v => (v, decide (v < z.minThickness))
  | .count => none

/-- A kind's judgement goes by the value and its limit (R150). -/
theorem judgeHit_eq (z : ZoneView) (k : RunKind) (m : Merged) : judgeHit z k m = judgementOf (limitOf z m k) := by
  cases k with
  | stagger =>
    rw [judgeHit, limitOf, magnitude_eq_natAbs]
    split <;> rfl
  | heightLow | heightHigh =>
    rw [judgeHit, limitOf]
    split <;> rfl
  | thickness =>
    rw [judgeHit, limitOf]
    cases m.thickness with
    | none =>
      dsimp only
      split <;> rfl
    | some v =>
      dsimp only
      split <;> rfl
  | count => rfl

theorem worse_stagger (expected : Nat) (v held : Int) : worse .stagger expected v held = decide (held.natAbs < v.natAbs) :=
  decide_eq_decide.2 (magnitude_lt held v)

/-! ### The bin of a hit in the bin's own zone (R146) -/

/-- With no device close cause, no flush mark and the same zone, a hit's bin takes the scan, or closes with GRID and opens again;
either way no run changes (R146, R153). -/
theorem continueBin_sameZone {s : State} {id : Nat} {b : Bin} {y z : ZoneView} {l : TrackList} {hit : Option Merged}
    (found : s.span.binOf id = some b) (held : b.zone = some y) (zone : l.header.context.zone = some z)
    (same : y.number = z.number) (flush : l.header.context.flush = false) (epoch : l.header.epoch = s.span.prevEpoch)
    (sense : l.header.sense = s.span.prevSense) :
    ∃ wires, BinsOnly wires s (continueBin s (deviceCause s.span l.header) l id hit) ∧ wires.length ≤ 1 ∧
      ∀ f ∈ wires, f.kind = kindWire := by
  have cause := binCloseCause_device s.span s.cmd.params.binLength l.header b
  rw [if_neg (not_not.2 epoch), if_neg (not_not.2 sense), if_neg (by simp [flush, zone, held, same])] at cause
  by_cases grid : l.header.distance / s.cmd.params.binLength = b.index
  · rw [if_neg (not_not.2 grid)] at cause
    rw [continueBin_extends found cause]
    exact ⟨[], extendBin_only .., Nat.zero_le _, nofun⟩
  · rw [if_pos grid] at cause
    rw [continueBin_grid found cause]
    exact ⟨[wireRecord s b .grid], (closeBin_only found .grid).openBin .., Nat.le_refl _, by simp [wireRecord]⟩

/-! ### The hit's judgements -/

/-- With keyed runs a track has one open run of a kind at most (R141). -/
theorem RunsKeyed.one {s : State} (keyed : RunsKeyed s) (id : Nat) (kind : RunKind) :
    s.span.runs.filter (Run.isOf id kind) = (openRun s.span id kind).toList := by
  have apart := keyed.filter (Run.isOf id kind)
  have same : ∀ r ∈ s.span.runs.filter (Run.isOf id kind), r.track = id ∧ r.kind = kind := fun r mem =>
    of_decide_eq_true (List.mem_filter.1 mem).2
  rw [openRun_eq, runOf_eq, ← List.head?_filter]
  cases found : s.span.runs.filter (Run.isOf id kind) with
  | nil => rfl
  | cons a rest =>
    cases rest with
    | nil => rfl
    | cons b rest =>
      rw [found] at apart same
      obtain ⟨track, kind⟩ := same a List.mem_cons_self
      obtain ⟨track', kind'⟩ := same b (List.mem_cons_of_mem _ List.mem_cons_self)
      exact absurd ⟨track.trans track'.symm, kind.trans kind'.symm⟩ ((List.pairwise_cons.1 apart).1 b List.mem_cons_self)

theorem openRun_key {u : SpanUnit} {id : Nat} {kind : RunKind} {r : Run} (found : openRun u id kind = some r) :
    r.track = id ∧ r.kind = kind :=
  of_decide_eq_true (List.find?_some (p := fun r : Run => decide (r.track = id ∧ r.kind = kind)) found)

/-- The entry of a hit that O36 is about: its bin moves, no run changes, and then the limits are checked. -/
theorem takeEntry_hit {s : State} {l : TrackList} {id : Nat} {m : Merged} {z : ZoneView}
    (entry : l.entries = [.confirmed id m] ∨
      l.entries = [.continuing id .confirmed (some m)] ∧ ∃ b y,
        s.span.bins.find? (fun k => decide (k.track = id)) = some b ∧ b.zone = some y ∧ y.number = z.number)
    (zone : l.header.context.zone = some z) (flush : l.header.context.flush = false)
    (epoch : l.header.epoch = s.span.prevEpoch) (sense : l.header.sense = s.span.prevSense) :
    ∃ t wires, takeEntries s (deviceCause s.span l.header) l = checkLimits t l.header id m ∧ BinsOnly wires s t ∧
      wires.length ≤ 1 ∧ ∀ f ∈ wires, f.kind = kindWire := by
  rw [takeEntries]
  rcases entry with confirmed | ⟨continuing, b, y, found, held, same⟩
  · rw [confirmed]
    exact ⟨_, [], rfl, (BinsOnly.nothing s).openBin l.header l.tableFull id (some m), Nat.zero_le _, nofun⟩
  · rw [continuing]
    obtain ⟨wires, only, one, kinds⟩ := continueBin_sameZone (s := s) (hit := some m) found held zone same flush epoch sense
    exact ⟨_, wires, rfl, only, one, kinds⟩

/-! ### The statement -/

/-- Settles O36: the hit's entry by `takeEntry_hit`, and the four judgements by `judgeKinds_own`, `judgeKinds_others` and
`judgeKinds_judged`. -/
theorem staggerRunFollowsHits : Obligations.StaggerRunFollowsHits := by
  unfold Obligations.StaggerRunFollowsHits
  intro s l rest id m z running waiting entry zone flush epoch sense off free keyed d judged worse after opened released
  obtain ⟨t, wires, taken, only, one, kinds⟩ :=
    takeEntry_hit (s := withArrivals s rest) entry zone flush epoch sense
  have judged_eq : judged = limitOf z m := funext fun k => by cases k <;> rfl
  have worse_eq : ∀ k ∈ trackKinds, ∀ v held, worse k v held = Machine.worse k z.expected v held := fun k mem v held => by
    cases k with
    | stagger => exact (worse_stagger z.expected v held).symm
    | count => exact absurd mem (by decide)
    | heightLow | heightHigh | thickness => rfl
  have after_eq : ∀ k ∈ trackKinds, hitAfter t z d id (fun k => judgeHit z k m) k = after k := fun k mem => by
    simp only [hitAfter, after, judgeHit_eq, ← judged_eq, only.cmd, only.runOf]
    rw [withArrivals_cmd, withArrivals_span]
    rcases judged k with _ | ⟨v, _ | _⟩
    · rfl
    · cases openRun s.span id k <;> rfl
    · cases found : openRun s.span id k with
      | none => rfl
      | some r =>
        have kind : r.kind = k := (openRun_key found).2
        simp only [judgementOf, judgeValue, if_true, runAfter, Run.extend, kind, worse_eq k mem]
  have all := judgeKinds_judged (z := z) (d := d) (id := id) (j := fun k => judgeHit z k m) trackKinds (by decide) t
  have opened_eq : (trackKinds.countP fun k => opensRun (t.span.runOf id k) (hitAfter t z d id (fun k => judgeHit z k m) k)) =
      opened := List.countP_congr fun k mem => by rw [after_eq k mem, only.runOf]; rfl
  have released_eq : (trackKinds.filterMap fun k =>
      releasedRun (t.span.runOf id k) (hitAfter t z d id (fun k => judgeHit z k m) k)) = released :=
    List.filterMap_congr fun k mem => by rw [after_eq k mem, only.runOf]; rfl
  rw [opened_eq, released_eq] at all
  have after_hit : meaning .trackListArrival s =
      finishSpan (judgeKinds t z d id (fun k => judgeHit z k m) trackKinds) l.header := by
    rw [trackListArrival_tracks waiting]
    have taken : takeEntries (withArrivals s rest) (deviceCause s.span l.header) l =
        judgeKinds t z d id (fun k => judgeHit z k m) trackKinds := taken.trans (checkLimits_zone t zone id m)
    rw [taken, handleCount_idle _ ?_ fun y same => ?_]
    · rw [judgeKinds_count, only.count]
      exact free
    · obtain rfl : y = z := Option.some.inj (same.symm.trans zone)
      exact off
  have keys : RunsKeyed t := RunsKeyed.congr (s := s) keyed only.runs
  refine ⟨_, exec_live .trackListArrival running, ?_⟩
  rw [after_hit]
  refine ⟨?noCount, fun k mem => ?own, ?others, ?runsOpened, ?runsReleased, ?runsByEvent, ?reports, fun room => ?records⟩
  case noCount => exact (judgeKinds_count trackKinds t).trans (only.count.trans free)
  case own =>
    rw [← after_eq k mem]
    exact judgeKinds_own trackKinds (by decide) t mem (by rw [keys.one, openRun_eq])
  case others =>
    rw [show s.span.runs = t.span.runs from only.runs.symm]
    refine judgeKinds_others trackKinds _ (fun k _ r other => ?_) t
    simp [Run.isOf, show r.track ≠ id by simpa using other]
  case runsOpened =>
    rw [finishSpan_span, all.counters, only.span]
    rfl
  case runsReleased =>
    rw [finishSpan_span, all.counters, only.span]
    rfl
  case runsByEvent =>
    rw [finishSpan_span, all.counters, only.span]
    rfl
  case reports =>
    rw [finishSpan_paths, all.paths, only.paths]
    rfl
  case records =>
    have bin := only.appends room
    have room : (withArrivals s rest).out.occupancy < 52 := room
    have grown := bin.occupancy
    have four : released.length ≤ 4 := List.length_filterMap_le _ _
    have joined := (all.appends (by omega)).last bin
    rw [exceedance_congr only.cmd] at joined
    exact ⟨wires, kinds, joined.records.trans (List.append_assoc ..).symm⟩

end Sys2Proof.Machine
end

section
/-! SUPPORT. What the operations on runs leave of the bins, and the EXCEEDANCE records they offer (R153, R156). -/

namespace Sys2Proof.Machine

set_option Elab.async false

/-! ### EXCEEDANCE records alone -/

/-- From s to t the bins and their counters stay, and with room for n records at most n join the queue, all of them EXCEEDANCE
records. -/
structure Exceeds (n : Nat) (s t : State) : Prop where
  bins : t.span.bins = s.span.bins
  binsOpened : t.span.counters.binsOpened = s.span.counters.binsOpened
  binsClosed : t.span.counters.binsClosed = s.span.counters.binsClosed
  appends : s.out.occupancy + n ≤ 60 → ∃ fs, fs.length ≤ n ∧ (∀ f ∈ fs, f.kind = kindExceedance) ∧ Appends fs s t

theorem Exceeds.nothing (n : Nat) (s : State) : Exceeds n s s :=
  ⟨rfl, rfl, rfl, fun _ => ⟨[], Nat.zero_le _, nofun, .nil⟩⟩

theorem Exceeds.last {m n : Nat} {s t u : State} (k : Exceeds n t u) (h : Exceeds m s t) : Exceeds (m + n) s u where
  bins := k.bins.trans h.bins
  binsOpened := k.binsOpened.trans h.binsOpened
  binsClosed := k.binsClosed.trans h.binsClosed
  appends room := by
    obtain ⟨fs, few, kinds, joined⟩ := h.appends (by omega)
    have grown := joined.occupancy
    obtain ⟨gs, few', kinds', joined'⟩ := k.appends (by omega)
    refine ⟨fs ++ gs, by rw [List.length_append]; omega, fun f mem => ?_, joined'.last joined⟩
    exact (List.mem_append.1 mem).elim (kinds f) (kinds' f)

theorem exceedances_kind (s : State) (cause : CloseCause) (rs : List Run) :
    ∀ f ∈ rs.map (fun r => exceedance s r cause), f.kind = kindExceedance := fun f mem => by
  obtain ⟨r, -, rfl⟩ := List.mem_map.1 mem
  rfl

theorem Judged.exceeds {z : ZoneView} {opened : Nat} {released : List Run} {s t : State} (h : Judged z opened released s t)
    {n : Nat} (few : released.length ≤ n) (bins : t.span.bins = s.span.bins) : Exceeds n s t where
  bins := bins
  binsOpened := by rw [h.counters]
  binsClosed := by rw [h.counters]
  appends room := ⟨_, by rwa [List.length_map], exceedances_kind s .released released, h.appends (by omega)⟩

/-! ### Closing the runs of a track (R153) -/

theorem closeRun_exceeds (s : State) (id : Nat) (cause : CloseCause) (kind : RunKind) :
    Exceeds 1 s (closeRun s id cause kind) := by
  cases found : s.span.runOf id kind with
  | none =>
    rw [closeRun_none found]
    exact .nothing 1 s
  | some r =>
    have counters : (closeRun s id cause kind).span.counters = s.span.counters.countClose cause := by
      rw [closeRun_found found, State.onSpan_span, reportRun_span]
    obtain ⟨opened, closed⟩ := s.span.counters.countClose_bins cause
    refine ⟨(closeRun_keepsBins s id cause kind).bins, counters ▸ opened, counters ▸ closed, fun room => ?_⟩
    have joined := closeRun_appends room id cause kind
    rw [openRun_eq, found] at joined
    exact ⟨_, Nat.le_refl _, exceedances_kind s cause [r], joined⟩

theorem closeRuns_exceeds (s : State) (id : Nat) (cause : CloseCause) : Exceeds 4 s (closeRuns s id cause) :=
  have one := fun s k => closeRun_exceeds s id cause k
  (one _ .thickness).last ((one _ .heightHigh).last ((one _ .heightLow).last (one s .stagger)))

/-- After the runs of a track have closed none is open but of kind COUNT (R153). -/
theorem closeRuns_closed (s : State) (id : Nat) (cause : CloseCause) :
    ∀ r ∈ (closeRuns s id cause).span.runs, r.track = id → r.kind = .count := fun r mem track => by
  rw [closeRuns, closeKinds_runs] at mem
  simpa [track, mem_trackKinds] using (List.mem_filter.1 mem).2

/-! ### The limit checker (R150 to R152) -/

/-- A hit is checked against the limits, a miss is not (R150). -/
def checkHit (s : State) (h : ScanHeader) (id : Nat) : Option Merged → State
  | some m => checkLimits s h id m
  | none => s

theorem takeEntry_continuing (device : Option CloseCause) (l : TrackList) (s : State) (id : Nat) (state : TrackState)
    (hit : Option Merged) :
    takeEntry device l s (.continuing id state hit) = checkHit (continueBin s device l id hit) l.header id hit := by
  cases hit <;> rfl

theorem checkLimits_exceeds (s : State) (h : ScanHeader) (id : Nat) (m : Merged) : Exceeds 4 s (checkLimits s h id m) := by
  have bins := checkLimits_bins s h id m
  cases zone : h.context.zone with
  | none =>
    rw [checkLimits_none s zone]
    exact .nothing 4 s
  | some z =>
    rw [checkLimits_zone s zone] at bins ⊢
    exact (judgeKinds_judged trackKinds (by decide) s).exceeds (List.length_filterMap_le _ _) bins

theorem checkHit_exceeds (s : State) (h : ScanHeader) (id : Nat) (hit : Option Merged) : Exceeds 4 s (checkHit s h id hit) := by
  cases hit with
  | none => exact .nothing 4 s
  | some m => exact checkLimits_exceeds s h id m

section Closed
variable {s : State} {id : Nat} (closed : ∀ r ∈ s.span.runs, r.track = id → r.kind = .count)
include closed

theorem runOf_closed {k : RunKind} (perTrack : k ∈ trackKinds) : s.span.runOf id k = none := by
  rw [runOf_eq]
  refine List.find?_eq_none.2 fun r mem hit => ?_
  obtain ⟨track, kind⟩ : r.track = id ∧ r.kind = k := of_decide_eq_true hit
  exact (mem_trackKinds k).1 perTrack (kind.symm.trans (closed r mem track))

/-- With no run of the track open none is released, so no record is offered (R152). -/
theorem checkHit_silent (h : ScanHeader) (hit : Option Merged) : Exceeds 0 s (checkHit s h id hit) := by
  cases hit with
  | none => exact .nothing 0 s
  | some m =>
    have bins := checkLimits_bins s h id m
    show Exceeds 0 s (checkLimits s h id m)
    cases zone : h.context.zone with
    | none =>
      rw [checkLimits_none s zone]
      exact .nothing 0 s
    | some z =>
      rw [checkLimits_zone s zone] at bins ⊢
      refine (judgeKinds_judged trackKinds (by decide) s).exceeds (Nat.le_of_eq ?_) bins
      rw [List.length_eq_zero_iff, List.filterMap_eq_nil_iff]
      intro k mem
      rw [runOf_closed closed mem, releasedRun_none]

/-- With no run of the track open, a run that is open after a hit has been opened by it (R151). -/
theorem checkHit_fresh (h : ScanHeader) (hit : Option Merged) :
    ∀ r ∈ (checkHit s h id hit).span.runs, r.track = id → r.kind ≠ .count →
      r.first = h.distance ∧ r.last = h.distance ∧ r.offending = 1 := by
  intro r mem track kind
  cases hit with
  | none => exact absurd (closed r mem track) kind
  | some m =>
    have mem : r ∈ (checkLimits s h id m).span.runs := mem
    cases zone : h.context.zone with
    | none =>
      rw [checkLimits_none s zone] at mem
      exact absurd (closed r mem track) kind
    | some z =>
      have perTrack := (mem_trackKinds r.kind).2 kind
      have free := runOf_closed closed perTrack
      have nothing : s.span.runs.filter (Run.isOf id r.kind) = (s.span.runOf id r.kind).toList := by
        rw [free]
        rw [runOf_eq, List.find?_eq_none] at free
        exact List.filter_eq_nil_iff.2 free
      have own := judgeKinds_own (z := z) (d := h.distance) (j := fun k => judgeHit z k m) trackKinds (by decide) s perTrack nothing
      rw [← checkLimits_zone s zone, hitAfter, free] at own
      have after : r ∈ (runAfter z h.distance id r.kind s.cmd.params.releaseScans (judgeHit z r.kind m) none).toList :=
        own ▸ List.mem_filter.2 ⟨mem, decide_eq_true ⟨track, rfl⟩⟩
      cases judged : judgeHit z r.kind m with
      | offends v =>
        rw [judged] at after
        rw [List.mem_singleton.1 after]
        exact ⟨rfl, rfl, rfl⟩
      | neither | conforms =>
        rw [judged] at after
        cases after

end Closed

/-! ### Step 3 (R154) -/

theorem handleCount_runs (s : State) (u : SpanUnit) (l : TrackList) :
    (handleCount s (deviceCause u l.header) l).span.runs = s.span.runs := by
  obtain ⟨_, _, _, taken⟩ := handleCount_taken s u l
  rw [taken.span]

theorem handleCount_exceeds (s : State) (u : SpanUnit) (l : TrackList) :
    Exceeds 1 s (handleCount s (deviceCause u l.header) l) := by
  obtain ⟨_, _, _, taken⟩ := handleCount_taken s u l
  refine ⟨by rw [taken.span], by rw [taken.span], by rw [taken.span], fun room => ?_⟩
  have out := handleCount_out room (deviceCause u l.header) l
  split at out
  · next r c _ _ => exact ⟨_, Nat.le_refl _, exceedances_kind s c [r], ⟨by rw [out]; rfl, by rw [out]; rfl⟩⟩
  · exact ⟨[], Nat.zero_le _, nofun, .nil out⟩

end Sys2Proof.Machine
end

section
/-! PROOF. The bin of a track takes a scan, or closes first; and the records of an ended track (O35). -/

namespace Sys2Proof.Machine

set_option Elab.async false

/-! ### What a scan adds to a bin (R147) -/

/-- The lesser of the thickness held and a hit's, with the distance it was met at; the earlier one where they are equal. -/
theorem lesserThickness_eq (held : Option MinThickness) (value : Option Int) (d : Int) :
    lesserThickness held value d = match value, held with
      | none, _ => held
      | some v, none => some ⟨v, d⟩
      | some v, some k => if v < k.value then some ⟨v, d⟩ else some k := by
  cases held <;> cases value <;> rfl

/-- What a hit adds to a bin (R147). -/
theorem Bin.addHit_eq (b : Bin) (d : Int) (m : Merged) :
    b.addHit d m =
      { b with
        hits := bump b.hits
        extremes := some (match b.extremes with
          | none => ⟨m.stagger, m.stagger, m.height, m.height⟩
          | some e =>
            ⟨min e.staggerMin m.stagger, max e.staggerMax m.stagger, min e.heightMin m.height, max e.heightMax m.height⟩)
        staggerSum := if b.hits.toNat < 4294967295 then b.staggerSum + m.stagger else b.staggerSum
        heightSum := if b.hits.toNat < 4294967295 then b.heightSum + m.height else b.heightSum
        samples := if m.thickness = none then b.samples else bump b.samples
        thickness := match m.thickness, b.thickness with
          | none, _ => b.thickness
          | some v, none => some ⟨v, d⟩
          | some v, some k => if v < k.value then some ⟨v, d⟩ else some k
        flags := b.flags.union m.flags } := by
  unfold Bin.addHit widen
  rw [lesserThickness_eq]
  have full : ∀ x y : Int, (if decide (b.hits.toNat < Config.counterMax) = true then x else y) =
      if b.hits.toNat < 4294967295 then x else y := fun x y => by
    by_cases counted : b.hits.toNat < 4294967295 <;> simp [Config.counterMax, counted]
  have sampled : (if m.thickness.isSome = true then bump b.samples else b.samples) =
      if m.thickness = none then b.samples else bump b.samples := by
    cases m.thickness <;> rfl
  simp only [full, sampled] <;> rfl

/-- A scan's own flags join those of the bin (R147). -/
theorem Bin.addScan_eq (b : Bin) (h : ScanHeader) (full : Bool) (hit : Option Merged) :
    b.addScan h full hit =
      let c := match hit with
        | some m => b.addHit h.distance m
        | none => { b with misses := bump b.misses }
      { c with
        last := h.distance
        flags :=
          { c.flags with
            tableFull := c.flags.tableFull || full
            headMissing := c.flags.headMissing || !h.missing.isEmpty } } := by
  simp only [Bin.addScan, Flags.union, Bool.or_false] <;> rfl

/-! ### The causes (R146, R153) -/

/-- Every cause of R146 but GRID closes the track's runs (R153). -/
theorem runCauseOf_isSome {u : SpanUnit} {n : Int} {h : ScanHeader} {b : Bin} {c : CloseCause}
    (cause : binCloseCause (deviceCause u h) n h b = some c) (other : c ≠ .grid) (flush : Bool) :
    ∃ c', runCauseOf flush c = some c' := by
  rw [binCloseCause_device] at cause
  split_ifs at cause <;> cases cause
  · exact ⟨_, rfl⟩
  · exact ⟨_, rfl⟩
  · exact ⟨_, rfl⟩
  · exact absurd rfl other

/-! ### A bin that closes -/

/-- How many runs of a track can close with its bin: none with GRID (R153). -/
def closingRuns (c : CloseCause) : Nat := if c = .grid then 0 else 4

/-- What the runs of a track do when its bin closes with a cause: with GRID nothing, and otherwise they close (R153). -/
structure RunsClosed (id : Nat) (c : CloseCause) (s t : State) : Prop where
  exceeds : Exceeds (closingRuns c) s t
  grid : c = .grid → t.span.runs = s.span.runs
  closed : c ≠ .grid → ∀ r ∈ t.span.runs, r.track = id → r.kind = .count
  cmd : t.cmd = s.cmd

theorem closeRunsWith_closed {u : SpanUnit} {n : Int} {h : ScanHeader} {b : Bin} {c : CloseCause}
    (cause : binCloseCause (deviceCause u h) n h b = some c) (s : State) (id : Nat) :
    RunsClosed id c s (closeRunsWith s id (runCauseOf h.context.flush c)) := by
  by_cases grid : c = .grid
  · subst grid
    exact ⟨.nothing 0 s, fun _ => rfl, fun other => absurd rfl other, rfl⟩
  · obtain ⟨c', runs⟩ := runCauseOf_isSome cause grid h.context.flush
    rw [runs]
    refine ⟨?_, fun same => absurd same grid, fun _ => closeRuns_closed s id c', (closeRuns_changes s id c').1 .cmd (by decide)⟩
    rw [closingRuns, if_neg grid]
    exact closeRuns_exceeds s id c'

/-- From s to t a continuing track's bin has closed with a cause, its runs have closed but for GRID, and a bin has opened with the
scan (R145, R148, R153). -/
structure Reopened (id : Nat) (l : TrackList) (hit : Option Merged) (b : Bin) (c : CloseCause) (s t : State) : Prop where
  bins : t.span.bins = (s.span.bins.eraseP fun k => decide (k.track = id)) ++
    [(newBin s.cmd.params.binLength l.header id).addScan l.header l.tableFull hit]
  binsOpened : t.span.counters.binsOpened = bump s.span.counters.binsOpened
  binsClosed : t.span.counters.binsClosed = bump s.span.counters.binsClosed
  gridRuns : c = .grid → t.span.runs = s.span.runs
  closed : c ≠ .grid → ∀ r ∈ t.span.runs, r.track = id → r.kind = .count
  appends : s.out.occupancy < 52 → ∃ fs, fs.length ≤ closingRuns c ∧ (∀ f ∈ fs, f.kind = kindExceedance) ∧
    Appends (wireRecord s b c :: fs) s t

theorem continueBin_reopens {s : State} {id : Nat} {b : Bin} {u : SpanUnit} {l : TrackList} {c : CloseCause}
    (found : s.span.binOf id = some b)
    (cause : binCloseCause (deviceCause u l.header) s.cmd.params.binLength l.header b = some c) (hit : Option Merged) :
    Reopened id l hit b c s (continueBin s (deviceCause u l.header) l id hit) := by
  have bin := closeBin_only found c
  have span := closeBin_found found c
  have runs := closeRunsWith_closed cause (closeBin s id c) id
  rw [continueBin_closes found cause]
  generalize closeRunsWith (closeBin s id c) id (runCauseOf l.header.context.flush c) = t at runs
  refine ⟨?bins, ?binsOpened, ?binsClosed, fun grid => (runs.grid grid).trans bin.runs, runs.closed, fun room => ?appends⟩
  case bins =>
    rw [openBin, State.onSpan_span, runs.exceeds.bins, runs.cmd, bin.cmd, span]
  case binsOpened =>
    rw [openBin, State.onSpan_span, runs.exceeds.binsOpened, span]
  case binsClosed =>
    rw [openBin, State.onSpan_span, runs.exceeds.binsClosed, span]
  case appends =>
    have wire := bin.appends room
    have grown := wire.occupancy
    have few : closingRuns c ≤ 4 := by
      unfold closingRuns
      split <;> decide
    obtain ⟨fs, less, kinds, joined⟩ := runs.exceeds.appends (by rw [grown, List.length_singleton]; omega)
    have both := joined.last wire
    exact ⟨fs, less, kinds, both.records, both.reserved⟩

/-- After a bin has closed, the limits checked and step 3 done, the records after the WIRE record are EXCEEDANCE records (R156). -/
theorem Reopened.records {s t : State} {id : Nat} {l : TrackList} {hit : Option Merged} {b : Bin} {c : CloseCause}
    (h : Reopened id l hit b c s t) (u : SpanUnit) (room : s.out.occupancy < 52) :
    ∃ more, (handleCount (checkHit t l.header id hit) (deviceCause u l.header) l).out.records =
      s.out.records ++ wireRecord s b c :: more ∧ ∀ f ∈ more, f.kind = kindExceedance := by
  obtain ⟨fs, few, kinds, joined⟩ := h.appends room
  have grown := joined.occupancy
  have limits : ∃ n, n + closingRuns c ≤ 4 ∧ Exceeds n t (checkHit t l.header id hit) := by
    by_cases grid : c = .grid
    · subst grid
      exact ⟨4, Nat.le_refl _, checkHit_exceeds t l.header id hit⟩
    · refine ⟨0, ?_, checkHit_silent (h.closed grid) l.header hit⟩
      rw [closingRuns, if_neg grid]
  obtain ⟨n, atMost, limits⟩ := limits
  rw [List.length_cons] at grown
  obtain ⟨gs, -, kinds', joined'⟩ := ((handleCount_exceeds _ u l).last limits).appends (by omega)
  refine ⟨fs ++ gs, (joined'.last joined).records, fun f mem => ?_⟩
  exact (List.mem_append.1 mem).elim (kinds f) (kinds' f)

/-! ### The statement -/

theorem takeEntries_one {s : State} {l : TrackList} {e : TrackEntry} (h : l.entries = [e]) (device : Option CloseCause) :
    takeEntries s device l = takeEntry device l s e := by
  rw [takeEntries, h]
  rfl

theorem endTrack_binsClosed (s : State) (cause : CloseCause) (e : EndedTrack) :
    (endTrack s cause e).span.counters.binsClosed =
      if (s.span.bins.any fun k => decide (k.track = e.id)) = true then bump s.span.counters.binsClosed
      else s.span.counters.binsClosed := by
  have kept : (endTrack s cause e).span.counters.binsClosed = (closeBin s e.id cause).span.counters.binsClosed := by
    rw [endTrack_eq, recordEnd_span]
    exact (closeRuns_exceeds (closeBin s e.id cause) e.id cause).binsClosed
  rw [kept]
  cases found : s.span.binOf e.id with
  | some b =>
    rw [closeBin_found found, if_pos]
    exact List.any_eq_true.2 ⟨b, List.mem_of_find?_eq_some found, List.find?_some (p := fun b : Bin => b.track == e.id) found⟩
  | none =>
    rw [closeBin, found, if_neg]
    intro held
    obtain ⟨b, mem, hit⟩ := List.any_eq_true.1 held
    exact List.find?_eq_none.1 found b mem hit

/-- Settles O35: a continuing track's bin by `continueBin_extends` and `continueBin_reopens`, an ended track by `endTrack_appends`
and `endTrack_span`. -/
theorem binTakesScan : Obligations.BinTakesScan := by
  unfold Obligations.BinTakesScan
  intro s l rest id running waiting room h place least withHit added fresh
  have added_eq : ∀ hit k, added hit k = k.addScan h l.tableFull hit := fun hit k => by
    rw [Bin.addScan_eq]
    cases hit with
    | none => rfl
    | some m =>
      dsimp only
      rw [Bin.addHit_eq] <;> rfl
  have fresh_eq : fresh = newBin s.cmd.params.binLength h id := rfl
  refine ⟨?continuing, fun m entry => ?confirmed, fun e entry free off => ?ended⟩
  case continuing =>
    intro state hit b entry found zoneSame cause
    have cause_eq : cause = binCloseCause (deviceCause s.span h) s.cmd.params.binLength h b :=
      (binCloseCause_device s.span s.cmd.params.binLength h b).symm
    have found : (withArrivals s rest).span.binOf id = some b := found
    have arrival : exec .trackListArrival s = .next (finishSpan (handleCount (checkHit (continueBin
        (withArrivals s rest) (deviceCause s.span h) l id hit) h id hit) (deviceCause s.span h) l) h) := by
      rw [exec_live .trackListArrival running, trackListArrival_tracks waiting, takeEntries_one entry, takeEntry_continuing]
    rw [cause_eq]
    cases closes : binCloseCause (deviceCause s.span h) s.cmd.params.binLength h b with
    | none =>
      rw [continueBin_extends found closes] at arrival
      have all := (handleCount_exceeds _ s.span l).last (checkHit_exceeds
        (extendBin (withArrivals s rest) h l.tableFull id hit) h id hit)
      have held : s.out.occupancy < 52 := room
      obtain ⟨more, -, kinds, joined⟩ := all.appends (show s.out.occupancy + (4 + 1) ≤ 60 by omega)
      refine ⟨_, more, arrival, fun _ => ⟨all.bins.trans ?_, fun miss => ?_, all.binsOpened, all.binsClosed, joined.records⟩,
        nofun, kinds⟩
      · refine List.map_congr_left fun k _ => ?_
        rw [added_eq]
        exact if_congr beq_iff_eq rfl rfl
      · subst miss
        exact handleCount_runs _ s.span l
    | some c =>
      have opened := continueBin_reopens found closes hit
      obtain ⟨more, records, kinds⟩ := opened.records s.span room
      have kept := (handleCount_exceeds _ s.span l).last (checkHit_exceeds
        (continueBin (withArrivals s rest) (deviceCause s.span h) l id hit) h id hit)
      refine ⟨_, more, arrival, nofun, fun c' same => ?_, kinds⟩
      obtain rfl : c = c' := Option.some.inj same
      refine ⟨kept.bins.trans ?_, fun grid miss => ?_, fun other miss => ?_, fun other => ?_,
        kept.binsOpened.trans opened.binsOpened, kept.binsClosed.trans opened.binsClosed, records⟩
      · exact opened.bins.trans (congrArg (_ ++ [·]) (added_eq hit fresh).symm)
      · subst miss
        exact (handleCount_runs _ s.span l).trans (opened.gridRuns grid)
      · subst miss
        exact fun k mem => opened.closed other k (handleCount_runs _ s.span l ▸ mem)
      · exact fun k mem => checkHit_fresh (opened.closed other) h hit k (handleCount_runs _ s.span l ▸ mem)
  case confirmed =>
    refine ⟨_, exec_live .trackListArrival running, ?_⟩
    rw [trackListArrival_tracks waiting, takeEntries_one entry]
    have limits := checkLimits_exceeds (openBin (withArrivals s rest) l.header l.tableFull id (some m))
      l.header id m
    have all := (handleCount_exceeds _ s.span l).last limits
    exact ⟨all.bins.trans (congrArg (s.span.bins ++ [·]) (added_eq (some m) fresh).symm), all.binsOpened, all.binsClosed⟩
  case ended =>
    have span := endTrack_span (withArrivals s rest) .trackEnd e
    have closed := endTrack_binsClosed (withArrivals s rest) .trackEnd e
    have records := (endTrack_appends (s := withArrivals s rest) room .trackEnd e).records
    refine ⟨_, exec_live .trackListArrival running, ?_⟩
    rw [trackListArrival_tracks waiting, takeEntries_one entry, takeEntry]
    generalize endTrack (withArrivals s rest) .trackEnd e = t at span closed records
    rw [handleCount_idle _ (span.count.trans free) off]
    refine ⟨records, span.bins, closed, span.runs.trans (List.filter_congr fun r _ => ?_), span.trackEnds⟩
    rw [← decide_not, decide_eq_decide, mem_trackKinds, not_and_or, not_not]

end Sys2Proof.Machine
end
